-- ==== Sys2Proof/Word.lean ====
section
/-! DEFINITION. Word.lean: the word types of the block's connections, and their plainest arithmetic. -/

namespace Sys2Proof

/-- One byte on the supervisor link, on a carrier link or in supervisor memory. -/
abbrev Byte := BitVec 8

/-- A two-byte field of a supervisor or carrier frame (Data Formats). -/
abbrev Half := BitVec 16

/-- A tick value: the tick counter is 32 bits wide and wraps (R162). -/
abbrev Tick := BitVec 32

/-- A 64-bit address in supervisor memory (R104). -/
abbrev Address := BitVec 64

end Sys2Proof
end

