-- ==== Sys2Proof/Syntax.lean ====
section
/-! DEFINITION. Syntax.lean: the commands and events of the block, one constructor per row of
spec/opcode_table.json, with the operands the rules give each row. Supervisor commands carry the fields of their
frames at their widths on the wire (R166); carrier requests the fields handed over by a link controller (R147). -/

namespace Sys2Proof

/-- The level of an input pin. -/
inductive Level where
  | low
  | high
  deriving DecidableEq, Repr

/-- The counter a failed frame is counted under (R144). -/
inductive FrameFailure where
  | check
  | format
  | unknown
  | device
  deriving DecidableEq, Repr

/-- What a PCI Express completion reports: good data, an abort, or poisoned data (R111). -/
inductive CompletionStatus where
  | good
  | aborted
  | poisoned
  deriving DecidableEq, Repr

/-- The commands and events of the block, in the order of the table. -/
inductive Instr where
  -- the track map (R8 to R13)
  | mapBegin
  | mapCell (cell : Half) (kind : Byte) (length : Half) (limit clearance : Byte)
      (port0 port1 port2 port3 : Half) (capacity entryPort exitPort gate : Byte)
  | mapCorridor (corridor : Byte) (members : List Half)
  | mapGate (gate : Byte) (portal : Half) (polarity : Byte) (callLimit holdOpen : Half) (partner : Byte)
  | mapClass (cls : Byte) (decel margin : Half) (vmax hmax priority allowance : Byte) (silence lost : Half)
  | mapEnd
  -- operating states (R155 to R158)
  | activate
  | allStop
  | resumeAll
  | restart
  -- edits of a loaded map and gate reset (R16 to R19, R130)
  | closeCell (cell : Half)
  | openCell (cell : Half)
  | setLimit (cell : Half) (limit : Byte)
  | gateReset (gate : Byte)
  -- carrier commands (R81 to R83, R98, R99)
  | enrol (carrier : Half) (cls : Byte) (cell base : Half) (size : Byte)
  | attach (carrier : Half) (address : Address)
  | detach (carrier : Half)
  | stop (carrier : Half)
  | recover (carrier : Half)
  | retire (carrier : Half)
  -- alerts (R161)
  | clearAlerts (mask : Half)
  | setAlertEnable (mask : Half)
  -- queries (R163)
  | readStatus
  | readCell (cell : Half)
  | readCarrier (carrier : Half)
  | readCorridor (corridor : Byte)
  | readGate (gate : Byte)
  | readDeadlock (record : Byte)
  | readLink (link clear : Byte)
  -- transfers that are no command (R153, R154)
  | readTransfer (bytes : Nat)
  | unknownCommand (frame : List Byte)
  -- pins (R156, R159)
  | estopNLevelChange (level : Level)
  | hardReset
  | resetNRelease (clrate : BitVec 2)
  -- time (R162 and the expiries)
  | tick
  | clearanceCountdownExpiry (cell : Fin 2048)
  | silenceLimit (carrier : Fin 256)
  | lostLimit (carrier : Fin 256)
  | callTimerExpiry (gate : Fin 16)
  | holdOpenExpiry (gate : Fin 16)
  | readTimerExpiry
  -- field lines and the PCI Express reset
  | readyChange (gate : Fin 16) (level : Level)
  | pePerstNAsserted
  | pePerstNReleased
  -- carrier frames (R143 to R147)
  | ask (link : Fin 4) (carrier : Byte) (front : Half) (speed requested flags : Byte)
  | pass (link : Fin 4) (carrier : Byte) (front rear cell : Half) (speed : Byte)
  | done (link : Fin 4) (carrier : Byte) (front : Half) (speed : Byte)
  | frameFailure (link : Fin 4) (failure : FrameFailure)
  -- the route fetch engine (R111)
  | readCompletion (number : Byte) (status : CompletionStatus) (data : List Byte)
  | serveFetch
  | serveWriteBack
  -- link transmitters and receivers (R143, R150)
  | transmissionStart (link : Fin 4)
  | transmissionComplete (link : Fin 4)
  | characterReceived (link : Fin 4) (char : Byte) (framingError : Bool)
  deriving DecidableEq, Repr

end Sys2Proof
end

