-- ==== Sys2Proof/Decode.lean ====
section
/-! DEFINITION. Decode.lean: reading a command from bits. spec/opcode_table.json gives no row any bits, so no table
word spells a command. The supervisor link's own frames are decoded and encoded here from the layouts of R166. -/

namespace Sys2Proof

/-- No row of the table has bits: a word spells no command. -/
def decodeTableWord (_nbits _w : Nat) : Option Instr := none

/-- A two-byte field, high byte first (R166). -/
def joinBytes (hi lo : Byte) : Half := hi ++ lo

/-- The high byte of a two-byte field. -/
def highByte (h : Half) : Byte := h.extractLsb' 8 8

/-- The low byte of a two-byte field. -/
def lowByte (h : Half) : Byte := h.extractLsb' 0 8

/-- A two-byte field as it is sent, high byte first (R166). -/
def halfBytes (h : Half) : List Byte := [highByte h, lowByte h]

/-- The eight bytes of a route address as they are sent, high byte first (R166). -/
def addressBytes (a : Address) : List Byte :=
  [a.extractLsb' 56 8, a.extractLsb' 48 8, a.extractLsb' 40 8, a.extractLsb' 32 8,
   a.extractLsb' 24 8, a.extractLsb' 16 8, a.extractLsb' 8 8, a.extractLsb' 0 8]

/-- A list of two-byte fields from its bytes; none where a byte is left over. -/
def decodeHalves : List Byte → Option (List Half)
  | [] => some []
  | [_] => none
  | hi :: lo :: rest => (decodeHalves rest).map (joinBytes hi lo :: ·)

/-- A frame with no field after its code. -/
def decodePlain (i : Instr) : List Byte → Option Instr
  | [] => some i
  | _ => none

/-- A frame with one two-byte field after its code. -/
def decodeHalf (f : Half → Instr) : List Byte → Option Instr
  | [hi, lo] => some (f (joinBytes hi lo))
  | _ => none

/-- A frame with one byte after its code. -/
def decodeByte (f : Byte → Instr) : List Byte → Option Instr
  | [b] => some (f b)
  | _ => none

/-- The fields of MAP-CELL (R166). -/
def decodeMapCell : List Byte → Option Instr
  | [c1, c0, kind, l1, l0, limit, clearance, p01, p00, p11, p10, p21, p20, p31, p30, capacity, entry, exit, gate] =>
    some (.mapCell (joinBytes c1 c0) kind (joinBytes l1 l0) limit clearance (joinBytes p01 p00) (joinBytes p11 p10)
      (joinBytes p21 p20) (joinBytes p31 p30) capacity entry exit gate)
  | _ => none

/-- The fields of MAP-CORRIDOR: a corridor, a count byte and that many members (R166). -/
def decodeMapCorridor : List Byte → Option Instr
  | corridor :: count :: rest =>
    match decodeHalves rest with
    | some members => if members.length = count.toNat then some (.mapCorridor corridor members) else none
    | none => none
  | _ => none

/-- The fields of MAP-GATE (R166). -/
def decodeMapGate : List Byte → Option Instr
  | [gate, p1, p0, polarity, c1, c0, h1, h0, partner] =>
    some (.mapGate gate (joinBytes p1 p0) polarity (joinBytes c1 c0) (joinBytes h1 h0) partner)
  | _ => none

/-- The fields of MAP-CLASS (R166). -/
def decodeMapClass : List Byte → Option Instr
  | [cls, a1, a0, m1, m0, vmax, hmax, priority, allowance, s1, s0, l1, l0] =>
    some (.mapClass cls (joinBytes a1 a0) (joinBytes m1 m0) vmax hmax priority allowance (joinBytes s1 s0)
      (joinBytes l1 l0))
  | _ => none

/-- The fields of SET-LIMIT (R166). -/
def decodeSetLimit : List Byte → Option Instr
  | [c1, c0, limit] => some (.setLimit (joinBytes c1 c0) limit)
  | _ => none

/-- The fields of ENROL (R166). -/
def decodeEnrol : List Byte → Option Instr
  | [n1, n0, cls, c1, c0, b1, b0, size] =>
    some (.enrol (joinBytes n1 n0) cls (joinBytes c1 c0) (joinBytes b1 b0) size)
  | _ => none

/-- The fields of ATTACH (R166). -/
def decodeAttach : List Byte → Option Instr
  | [n1, n0, a7, a6, a5, a4, a3, a2, a1, a0] =>
    some (.attach (joinBytes n1 n0) (a7 ++ a6 ++ a5 ++ a4 ++ a3 ++ a2 ++ a1 ++ a0))
  | _ => none

/-- The fields of READ-LINK (R166). -/
def decodeReadLink : List Byte → Option Instr
  | [link, clear] => some (.readLink link clear)
  | _ => none

/-- The command of a code and the bytes after it: test 1 of R154, the code assigned and the length the one the
layout gives. -/
def decodeFields (code : Byte) (rest : List Byte) : Option Instr :=
  match code.toNat with
  | 0x01 => decodePlain .mapBegin rest
  | 0x02 => decodeMapCell rest
  | 0x03 => decodeMapCorridor rest
  | 0x04 => decodeMapGate rest
  | 0x05 => decodeMapClass rest
  | 0x06 => decodePlain .mapEnd rest
  | 0x07 => decodePlain .activate rest
  | 0x08 => decodePlain .allStop rest
  | 0x09 => decodePlain .resumeAll rest
  | 0x0A => decodePlain .restart rest
  | 0x0B => decodeHalf .closeCell rest
  | 0x0C => decodeHalf .openCell rest
  | 0x0D => decodeSetLimit rest
  | 0x0E => decodeByte .gateReset rest
  | 0x0F => decodeEnrol rest
  | 0x10 => decodeAttach rest
  | 0x11 => decodeHalf .detach rest
  | 0x12 => decodeHalf .stop rest
  | 0x13 => decodeHalf .recover rest
  | 0x14 => decodeHalf .retire rest
  | 0x15 => decodeHalf .clearAlerts rest
  | 0x16 => decodeHalf .setAlertEnable rest
  | 0x17 => decodePlain .readStatus rest
  | 0x18 => decodeHalf .readCell rest
  | 0x19 => decodeHalf .readCarrier rest
  | 0x1A => decodeByte .readCorridor rest
  | 0x1B => decodeByte .readGate rest
  | 0x1C => decodeByte .readDeadlock rest
  | 0x1D => decodeReadLink rest
  | _ => none

/-- The command a whole SPI transfer spells (R153, R154): no byte or code 0 is a read transfer; a frame that fails
test 1 of R154 is the unknown command. -/
def decodeTransfer (bytes : List Byte) : Instr :=
  match bytes with
  | [] => .readTransfer 0
  | code :: rest =>
    if code = 0 then .readTransfer (rest.length + 1) else (decodeFields code rest).getD (.unknownCommand bytes)

/-- The frame of a supervisor command, from the table of R166; none for an event that no transfer carries. -/
def encodeTransfer : Instr → Option (List Byte)
  | .mapBegin => some [0x01]
  | .mapCell cell kind length limit clearance p0 p1 p2 p3 capacity entry exit gate =>
    some (0x02 :: (halfBytes cell ++ [kind] ++ halfBytes length ++ [limit, clearance] ++ halfBytes p0 ++ halfBytes p1 ++
      halfBytes p2 ++ halfBytes p3 ++ [capacity, entry, exit, gate]))
  | .mapCorridor corridor members =>
    some (0x03 :: corridor :: BitVec.ofNat 8 members.length :: members.flatMap halfBytes)
  | .mapGate gate portal polarity callLimit holdOpen partner =>
    some (0x04 :: gate :: (halfBytes portal ++ [polarity] ++ halfBytes callLimit ++ halfBytes holdOpen ++ [partner]))
  | .mapClass cls decel margin vmax hmax priority allowance silence lost =>
    some (0x05 :: cls :: (halfBytes decel ++ halfBytes margin ++ [vmax, hmax, priority, allowance] ++
      halfBytes silence ++ halfBytes lost))
  | .mapEnd => some [0x06]
  | .activate => some [0x07]
  | .allStop => some [0x08]
  | .resumeAll => some [0x09]
  | .restart => some [0x0A]
  | .closeCell cell => some (0x0B :: halfBytes cell)
  | .openCell cell => some (0x0C :: halfBytes cell)
  | .setLimit cell limit => some (0x0D :: (halfBytes cell ++ [limit]))
  | .gateReset gate => some [0x0E, gate]
  | .enrol carrier cls cell base size =>
    some (0x0F :: (halfBytes carrier ++ [cls] ++ halfBytes cell ++ halfBytes base ++ [size]))
  | .attach carrier address => some (0x10 :: (halfBytes carrier ++ addressBytes address))
  | .detach carrier => some (0x11 :: halfBytes carrier)
  | .stop carrier => some (0x12 :: halfBytes carrier)
  | .recover carrier => some (0x13 :: halfBytes carrier)
  | .retire carrier => some (0x14 :: halfBytes carrier)
  | .clearAlerts mask => some (0x15 :: halfBytes mask)
  | .setAlertEnable mask => some (0x16 :: halfBytes mask)
  | .readStatus => some [0x17]
  | .readCell cell => some (0x18 :: halfBytes cell)
  | .readCarrier carrier => some (0x19 :: halfBytes carrier)
  | .readCorridor corridor => some [0x1A, corridor]
  | .readGate gate => some [0x1B, gate]
  | .readDeadlock record => some [0x1C, record]
  | .readLink link clear => some [0x1D, link, clear]
  | .readTransfer bytes => some (List.replicate bytes 0)
  | .unknownCommand frame => some frame
  | .estopNLevelChange _ => none
  | .hardReset => none
  | .resetNRelease _ => none
  | .tick => none
  | .clearanceCountdownExpiry _ => none
  | .silenceLimit _ => none
  | .lostLimit _ => none
  | .callTimerExpiry _ => none
  | .holdOpenExpiry _ => none
  | .readTimerExpiry => none
  | .readyChange _ _ => none
  | .pePerstNAsserted => none
  | .pePerstNReleased => none
  | .ask _ _ _ _ _ _ => none
  | .pass _ _ _ _ _ _ => none
  | .done _ _ _ _ => none
  | .frameFailure _ _ => none
  | .readCompletion _ _ _ => none
  | .serveFetch => none
  | .serveWriteBack => none
  | .transmissionStart _ => none
  | .transmissionComplete _ => none
  | .characterReceived _ _ _ => none

end Sys2Proof
end

