-- ==== Sys2Proof/Config.lean ====
section
/-! DEFINITION. Config.lean: the fixed sizes and limits of the part, each from the rule it names. The spec leaves
no result of any command undefined, so there is no free value here. -/

namespace Sys2Proof.Config

/-- Largest cell number (R1). -/
abbrev maxCell : Nat := 2047
/-- Number of carrier contexts (R80). -/
abbrev carriers : Nat := 256
/-- Number of corridor definitions (R4). -/
abbrev corridors : Nat := 64
/-- Number of gate channels (R5). -/
abbrev gates : Nat := 16
/-- Number of class records (R7). -/
abbrev classes : Nat := 8
/-- Number of carrier links (R142). -/
abbrev links : Nat := 4
/-- Most messages an outbound queue holds (R149). -/
abbrev outboundLimit : Nat := 32
/-- Value at which a link counter saturates (R142). -/
abbrev counterMax : Nat := 65535
/-- Value at which the granted distance saturates, in mm (R55). -/
abbrev distanceMax : Nat := 65535
/-- Number of slots of the step store (R107). -/
abbrev slots : Nat := 4096
/-- Number of deadlock records (R134). -/
abbrev deadlockRecords : Nat := 8
/-- Most members a deadlock record lists (R134). -/
abbrev listedMembers : Nat := 16
/-- Most hops of a chain walk (R137). -/
abbrev walkHops : Nat := 256
/-- The read timer's setting, in ticks (R111). -/
abbrev readTicks : Nat := 5
/-- Largest value of a silence counter (R80). -/
abbrev silenceMax : Nat := 6000
/-- Greatest pass-over count (R32). -/
abbrev passOverMax : Nat := 3
/-- Most step records a step read covers (R112). -/
abbrev stepReadLimit : Nat := 8
/-- Most step records a first read covers (R113). -/
abbrev firstReadLimit : Nat := 6
/-- Most consecutive non-standing steps of a route (R115). -/
abbrev nonStandingLimit : Nat := 6
/-- Most entries a carrier's window can hold (R107): a bound for searches along a window. -/
abbrev windowMax : Nat := 32
/-- How many pieces of work one event may take before the model says that it has no end (log entry 2). -/
def workBound : Nat := 16777216

end Sys2Proof.Config
end

