-- ==== Sys2Proof/Machine/Table.lean ====
section
/-! DEFINITION. Machine/Table.lean: numbered records. A table lists the records that are present (or that differ from
a stated default) with their numbers strictly rising, so that equal tables are equal data. -/

namespace Sys2Proof.Machine

/-- Records by number, the numbers strictly rising. -/
abbrev Table (α : Type) := List (Nat × α)

/-- The record numbered `n`, if one is listed. -/
def Table.find {α : Type} : Table α → Nat → Option α
  | [], _ => none
  | (k, a) :: rest, n => if k = n then some a else Table.find rest n

/-- The record numbered `n`, or the default where none is listed. -/
def Table.at {α : Type} (t : Table α) (d : α) (n : Nat) : α := (Table.find t n).getD d

/-- `t` with the record numbered `n` set to `a`. -/
def Table.set {α : Type} : Table α → Nat → α → Table α
  | [], n, a => [(n, a)]
  | (k, b) :: rest, n, a =>
    if n < k then (n, a) :: (k, b) :: rest
    else if k = n then (n, a) :: rest
    else (k, b) :: Table.set rest n a

/-- `t` without a record numbered `n`. -/
def Table.erase {α : Type} (t : Table α) (n : Nat) : Table α := t.filter (fun p => p.1 != n)

/-- `t` with the record numbered `n` set to `a`, where a record equal to the default `d` is not listed. -/
def Table.put {α : Type} [DecidableEq α] (t : Table α) (d : α) (n : Nat) (a : α) : Table α :=
  if a = d then Table.erase t n else Table.set t n a

/-- `t` with the listed record numbered `n` changed by `f`; unchanged where none is listed. -/
def Table.update {α : Type} (t : Table α) (n : Nat) (f : α → α) : Table α :=
  match Table.find t n with
  | some a => Table.set t n (f a)
  | none => t

/-- Whether the numbers of a table rise strictly: the canonical form. -/
def Table.wf {α : Type} : Table α → Bool
  | [] => true
  | [_] => true
  | (k, _) :: (l, b) :: rest => decide (k < l) && Table.wf ((l, b) :: rest)

/-- The numbers of the listed records, rising. -/
def Table.keys {α : Type} (t : Table α) : List Nat := t.map Prod.fst

end Sys2Proof.Machine
end

