-- ==== Sys2Proof/Machine/State.lean ====
section
/-! DEFINITION. Machine/State.lean: every record of the part as plain data, and the part right after reset.
A carrier, cell, corridor, gate, class, link or record is named by its number (Conventions 4.2); absent fields are
`none` (Conventions 4.4). -/

namespace Sys2Proof.Machine

/-! ## The map store (R1 to R7) -/

/-- The five cell kinds (R2). -/
inductive CellKind where
  | track
  | junction
  | lane
  | portal
  | dock
  deriving DecidableEq, Repr

/-- The static record of a defined cell (R1). `ports` lists ports 0..3 in order. `corridor` is the derived corridor
number and position. -/
structure CellStatic where
  kind : CellKind
  length : Nat
  limit : Nat
  clearance : Nat
  ports : List (Option Nat)
  capacity : Option Nat
  entryPort : Option Nat
  exitPort : Option Nat
  gate : Option Nat
  corridor : Option (Nat × Nat)
  deriving DecidableEq, Repr

/-- The binding of a defined gate (R5). -/
structure GateBinding where
  portal : Nat
  polarity : Level
  callLimit : Nat
  holdOpen : Nat
  partner : Bool
  deriving DecidableEq, Repr

/-- A defined carrier class (R7). -/
structure ClassRec where
  decel : Nat
  margin : Nat
  vmax : Nat
  hmax : Nat
  priority : Nat
  allowance : Nat
  silence : Nat
  lost : Nat
  deriving DecidableEq, Repr

/-- The map store: an undefined record is not listed (R1, R4, R5, R7). -/
structure MapStore where
  cells : Table CellStatic
  corridors : Table (List Nat)
  gates : Table GateBinding
  classes : Table ClassRec
  deriving DecidableEq, Repr

/-- The map store after hard reset (R20). -/
def MapStore.empty : MapStore := { cells := [], corridors := [], gates := [], classes := [] }

/-! ## The rights table (R21) -/

/-- Why a cell is not grantable to a carrier, in the order of R25. -/
inductive BlockCause where
  | closed
  | clearance
  | reserved
  | capacity
  | selfHeld
  | corridor
  | gate
  deriving DecidableEq, Repr

/-- One entry of a wait queue: the carrier, its class priority when it joined, the index of its route step at the
cell, and the recorded block cause (R21, R25, R26). -/
structure Waiter where
  carrier : Nat
  priority : Nat
  step : Nat
  cause : BlockCause
  deriving DecidableEq, Repr

/-- The runtime record of a cell (R21). `due` marks a countdown whose last tick has been counted and whose expiry
event has not been taken yet (R37). -/
structure CellRun where
  holders : List Nat
  reservedFor : Option Nat
  closed : Bool
  countdown : Nat
  due : Bool
  queue : List Waiter
  deriving DecidableEq, Repr

/-- The runtime record a successful MAP-END creates (R15). -/
def CellRun.free : CellRun :=
  { holders := [], reservedFor := none, closed := false, countdown := 0, due := false, queue := [] }

/-! ## The corridor unit (R64) -/

/-- The direction of a corridor (R64). -/
inductive Direction where
  | free
  | ab
  | ba
  deriving DecidableEq, Repr

/-- The runtime record of a corridor (R64). -/
structure CorridorRun where
  direction : Direction
  occupants : List Nat
  turnRequested : Bool
  turnCarrier : Option Nat
  deriving DecidableEq, Repr

/-- The record of a corridor after a successful MAP-END (R79). -/
def CorridorRun.idle : CorridorRun :=
  { direction := .free, occupants := [], turnRequested := false, turnCarrier := none }

/-! ## The gate unit (R121) -/

/-- The states of a gate (R121). -/
inductive GateState where
  | shut
  | calling
  | opened
  | draining
  | fault
  deriving DecidableEq, Repr

/-- The runtime part of a gate record (R121). `due` marks a timer whose last tick has been counted and whose expiry
event has not been taken yet. -/
structure GateRun where
  state : GateState
  callPending : Bool
  timer : Option Nat
  due : Bool
  deriving DecidableEq, Repr

/-- The record of a gate after a successful MAP-END (R132). -/
def GateRun.shut : GateRun := { state := .shut, callPending := false, timer := none, due := false }

/-! ## The carrier table (R80) -/

/-- The states of a carrier context. -/
inductive CarrierState where
  | vacant
  | idle
  | attached
  | running
  | halting
  | stopped
  deriving DecidableEq, Repr

/-- A carrier's radio standing (R100, R101). -/
inductive Contact where
  | live
  | silent
  | lost
  deriving DecidableEq, Repr

/-- The reasons an AUTH or a WAIT carries; the first seven are block reasons (R48, R54). -/
inductive Reason where
  | none
  | horizon
  | routeEnd
  | hold
  | cell
  | order
  | fetch
  | device
  | noRoute
  deriving DecidableEq, Repr

/-- Why a carrier is HALTING or STOPPED (R93, R101). -/
inductive StopCause where
  | overrun
  | faults
  | detach
  | supervisor
  | gate
  | allStop
  | lost
  deriving DecidableEq, Repr

/-- The result of a route that has ended (R106). -/
inductive RouteResult where
  | complete
  | detached
  | stepFault
  | header
  | bus
  | retired
  deriving DecidableEq, Repr

/-- One entry of a held list: the cell, the route step (none for a resting entry), and the distance contribution
(R43, R55). -/
structure Held where
  cell : Nat
  step : Option Nat
  distance : Nat
  deriving DecidableEq, Repr

/-- What a wait record is for: a cell of the next run, or the order of a lane (R29, R74). -/
inductive WaitReason where
  | cell
  | order
  deriving DecidableEq, Repr

/-- A carrier's wait record, with its wait edge (R80). -/
structure WaitRec where
  reason : WaitReason
  cell : Nat
  since : Tick
  edge : Option Nat
  deriving DecidableEq, Repr

/-- The step store's validation record of a route: the cell of the last step appended, the corridor and direction
that step lies in, and the number of consecutive non-standing steps ending there (R107). -/
structure Validation where
  cell : Nat
  corridor : Option (Nat × Direction)
  nonStanding : Nat
  deriving DecidableEq, Repr

/-- One carrier context (R80), with the route's validation record (R107). The window's read and write positions are
functions of `nextStep` and `windowCount` (R107, `Context.readPosition`). -/
structure Context where
  state : CarrierState
  cls : Nat
  contact : Contact
  silence : Nat
  allowance : Nat
  used : Nat
  homeLink : Option Nat
  windowBase : Nat
  windowSize : Nat
  windowCount : Nat
  routeAddr : Option Address
  routeTag : Option (BitVec 32)
  stepCount : Option Nat
  nextStep : Nat
  cutPoint : Option Nat
  cutResult : Option RouteResult
  faultStep : Option Nat
  generation : Byte
  grantMark : Nat
  front : Nat
  rear : Nat
  frontCell : Nat
  lastSpeed : Nat
  requested : Nat
  held : List Held
  blockReason : Option Reason
  wait : Option WaitRec
  passOver : Nat
  holdLifted : Bool
  stopCause : Option StopCause
  lastResult : Option RouteResult
  validation : Option Validation
  deriving DecidableEq, Repr

/-- A context after hard reset (R103). -/
def Context.vacant : Context :=
  { state := .vacant, cls := 0, contact := .live, silence := 0, allowance := 0, used := 0, homeLink := none,
    windowBase := 0, windowSize := 8, windowCount := 0, routeAddr := none, routeTag := none, stepCount := none,
    nextStep := 0, cutPoint := none, cutResult := none, faultStep := none, generation := 0, grantMark := 1,
    front := 0, rear := 0, frontCell := 0, lastSpeed := 0, requested := 0, held := [], blockReason := none,
    wait := none, passOver := 0, holdLifted := false, stopCause := none, lastResult := none, validation := none }

/-! ## The step store and the route fetch engine (R107, R109, R111) -/

/-- One slot of the step store (R107). -/
structure Slot where
  cell : Nat
  last : Bool
  hold : Bool
  cap : Nat
  deriving DecidableEq, Repr

/-- A blank slot (R108). -/
def Slot.blank : Slot := { cell := 0, last := false, hold := false, cap := 0 }

/-- One request of the engine queue (R109). -/
inductive EngineRequest where
  | fetch (carrier : Nat) (first : Bool)
  | writeBack (carrier : Nat) (address : Address) (result : RouteResult) (step used : Nat) (generation : Byte)
  deriving DecidableEq, Repr

/-- The read in flight (R111): its carrier, generation and read number, whether it is a first read, the bytes it
covers and the bytes that have arrived. -/
structure ReadInFlight where
  carrier : Nat
  generation : Byte
  number : Byte
  first : Bool
  length : Nat
  received : List Byte
  deriving DecidableEq, Repr

/-- A transaction issued on the PCI Express port (R111). -/
inductive BusRequest where
  | read (address : Address) (length : Nat) (number : Byte)
  | write (address : Address) (data : List Byte)
  deriving DecidableEq, Repr

/-- The route fetch engine's records (R109, R111). `lastIssued` is what the port issued last: the model's record of
an output. -/
structure Engine where
  queue : List EngineRequest
  inFlight : Option ReadInFlight
  timer : Option Nat
  due : Bool
  readNumber : Byte
  perst : Bool
  lastIssued : Option BusRequest
  deriving DecidableEq, Repr

/-- The engine after hard reset, with PE_PERST_N not asserted (R120). -/
def Engine.reset : Engine :=
  { queue := [], inFlight := none, timer := none, due := false, readNumber := 0, perst := false, lastIssued := none }

/-! ## The link controllers (R142) -/

/-- What a message to a carrier carries (R142). -/
inductive Payload where
  | auth (endStep speed : Nat) (reason : Reason)
  | wait (endStep speed : Nat) (reason : Reason)
  | stop (cause : StopCause)
  deriving DecidableEq, Repr

/-- A reply or a notice (R142). -/
structure Message where
  carrier : Nat
  payload : Payload
  deriving DecidableEq, Repr

/-- The receiver's states (R143). -/
inductive RxState where
  | hunt
  | length
  | kind
  | body
  | crc
  deriving DecidableEq, Repr

/-- A link's receiver, with the frame being collected (R142). -/
structure Receiver where
  state : RxState
  length : Nat
  body : List Byte
  crc : List Byte
  deriving DecidableEq, Repr

/-- A receiver with no frame being collected (R152). -/
def Receiver.hunting : Receiver := { state := .hunt, length := 0, body := [], crc := [] }

/-- A link's transmitter: IDLE, SENDING a message, or finishing the one character that RESTART leaves on the line
(R142, R152). -/
inductive Transmitter where
  | idle
  | sending (message : Message)
  | finishing
  deriving DecidableEq, Repr

/-- The state of one link controller (R142). -/
structure Link where
  receiver : Receiver
  check : Nat
  format : Nat
  unknown : Nat
  device : Nat
  drop : Nat
  queue : List Message
  transmitter : Transmitter
  deriving DecidableEq, Repr

/-- A link controller after hard reset (R152). -/
def Link.reset : Link :=
  { receiver := Receiver.hunting, check := 0, format := 0, unknown := 0, device := 0, drop := 0, queue := [],
    transmitter := .idle }

/-! ## The deadlock monitor (R134) -/

/-- A deadlock record in use (R134). -/
structure DeadlockRec where
  count : Nat
  members : List Nat
  tick : Tick
  deriving DecidableEq, Repr

/-! ## The records an event's work changes -/

/-- The runtime records of every block, and the alert flags (R160). `cells`, `corridors` and `gates` list one record
for each that MAP-END created. `reservations` holds each carrier's reservation list with the route step of each
reserved cell (R21, R34). `seniority` is the one order of R23, most senior first. `deadlocks` lists the records in
use; `marks` the membership marks. -/
structure Records where
  cells : Table CellRun
  reservations : Table (List (Nat × Nat))
  seniority : List Nat
  corridors : Table CorridorRun
  gates : Table GateRun
  carriers : Table Context
  slots : Table Slot
  engine : Engine
  links : Table Link
  deadlocks : Table DeadlockRec
  marks : Table Nat
  alerts : BitVec 10
  deriving DecidableEq, Repr

/-- The records after hard reset (R42, R79, R103, R120, R132, R141, R152, R159). -/
def Records.reset : Records :=
  { cells := [], reservations := [], seniority := [], corridors := [], gates := [], carriers := [], slots := [],
    engine := Engine.reset, links := [], deadlocks := [], marks := [], alerts := 0 }

/-! ## What holds still while an event's work is done -/

/-- The operating states (R155). -/
inductive OpState where
  | unconfigured
  | loading
  | standby
  | active
  | allStop
  deriving DecidableEq, Repr

/-- What every block reads while an event is handled and no event's work changes: the map store, the operating
state, the tick counter and the levels of the READY inputs. -/
structure Setting where
  map : MapStore
  op : OpState
  tick : Tick
  ready : Table Level
  deriving DecidableEq, Repr

/-- The setting after hard reset; the READY inputs are taken low (log entry 6). -/
def Setting.reset : Setting := { map := MapStore.empty, op := .unconfigured, tick := 0, ready := [] }

/-! ## The supervisor link and the pins -/

/-- The supervisor link's own records: the enable mask, the kept ESTOP_N level, the response buffer, the response
sequence number, and `dataOut`, what the data-out line carried in the last transfer (R153, R156, R160). -/
structure Supervisor where
  enable : BitVec 10
  estopLevel : Level
  response : List Byte
  sequence : Byte
  dataOut : List Byte
  deriving DecidableEq, Repr

/-- The supervisor link after hard reset: the reset response is in the buffer (R159, R166). -/
def Supervisor.reset (estop : Level) : Supervisor :=
  { enable := 0, estopLevel := estop, response := [0, 0, 0, 0, 0], sequence := 0, dataOut := [] }

/-- The input pins the part follows outside any record: RESET_N, ESTOP_N as it stands at the pin, and the carrier
link rate sampled at the release of RESET_N (R159, pin summary). -/
structure Pins where
  resetN : Level
  estopN : Level
  clrate : BitVec 2
  deriving DecidableEq, Repr

/-- The whole part, with the commands and events that wait, first in, first out. -/
structure State where
  pending : List Instr
  setting : Setting
  records : Records
  supervisor : Supervisor
  pins : Pins
  deriving DecidableEq, Repr

/-- Why the part stops. -/
inductive Fault where
  /-- Raised by any event whose consequences have not come to rest after `Config.workBound` pieces of work: the two
  gates of a pair with READY active at both hand each other the door without end (R124 to R127). Safe: the model
  stops where the rules give no end of the event. -/
  | endlessEvent
  deriving DecidableEq, Repr

/-- Why the model gives a command no meaning. -/
inductive Refusal where
  /-- Raised by a refused arm of `exec` alone: the command of that mnemonic has no meaning yet. Safe. -/
  | notModelled (mnemonic : String)
  deriving DecidableEq, Repr

/-- The part right after hard reset (R159): RESET_N has been released, the map is empty, the controller is
UNCONFIGURED and no command waits. The input levels at that moment are log entry 6's. -/
def State.reset : State :=
  { pending := [], setting := Setting.reset, records := Records.reset, supervisor := Supervisor.reset .high,
    pins := { resetN := .high, estopN := .high, clrate := 0 } }

end Sys2Proof.Machine
end

