-- ==== Sys2Proof/Machine/Run.lean ====
section
/-! DEFINITION. Machine/Run.lean: one event in progress. An event is taken whole (R40, R46); the consequences one piece
of it has are pieces of work done in the order the rules give, each with its own consequences before the next. `Run`
holds the records and the working values of the event; nothing of it but the records outlives the event (R63). -/

namespace Sys2Proof.Machine

/-- What follows an extension attempt (the last column of R45's table): the reply to a request, an AUTH notice always
and then the reply to the frame (R45, R96; log entry 29), an AUTH notice always, an AUTH notice if a run was granted, or
the rest of the offer that took the carrier (R39), with the original waiters not yet tried. -/
inductive After where
  | reply
  | noticeAndReply
  | noticeAlways
  | noticeIfGranted
  | offered (cell : Nat) (left : List Nat)
  deriving DecidableEq, Repr

/-- A piece of work of an event. -/
inductive Task where
  -- the authority unit (R45, R48, R54)
  | attempt (carrier : Nat) (after : After)
  | round (carrier : Nat) (granted : Bool) (after : After)
  | attemptEnd (carrier : Nat) (reason : Reason) (granted : Bool) (after : After)
  | openDeferred
  -- offers (R39)
  | offer (cell : Nat)
  | offerNext (cell : Nat) (left : List Nat)
  -- the gate unit (R123 to R129)
  | gateCall (gate : Nat)
  | gateOpened (gate : Nat)
  | gateAfterOffer (gate : Nat)
  | gateDrain (gate : Nat)
  | gateShut (gate : Nat)
  | gateOwedPartner (gate : Nat)
  | gateOwedSelf (gate : Nat)
  -- releases (R35, R36)
  | freed (carrier cell : Nat) (emptied wasOldest : Bool) (behind : Option Nat)
  | freedSettle (cell : Nat) (offers : Bool)
  -- the carrier table
  | halt (carrier : Nat) (cause : StopCause)
  | clearReservations (carrier : Nat)
  | cancelTurns (carrier : Nat)
  | stopNotice (carrier : Nat)
  | waitReply (carrier : Nat) (reason : Reason)
  | passRest (carrier speed : Nat)
  | haltingRest (carrier speed : Nat)
  | haltingExit (carrier : Nat)
  | routeEndRest (carrier : Nat) (result : RouteResult)
  | resume (carrier : Nat)
  | recoverRest (carrier : Nat)
  | retireRelease (carrier : Nat)
  | retireRest (carrier : Nat)
  | fetchTrigger (carrier : Nat)
  deriving DecidableEq, Repr

/-- An event in progress: the records, the work still to be done, whether an attempt or an offer is in progress
(so that a gate's opening waits for its end, R126), the gates whose opening waits, and the gates that are OPEN with
their opening not yet completed. -/
structure Run where
  records : Records
  work : List Task
  deferring : Bool
  deferred : List Nat
  opening : List Nat
  deriving DecidableEq, Repr

/-- The start of an event. -/
def Run.start (r : Records) : Run := { records := r, work := [], deferring := false, deferred := [], opening := [] }

/-- `v` with more work to be done, after the work it has. -/
def Run.later (v : Run) (ts : List Task) : Run := { v with work := v.work ++ ts }

/-! ## The records by number -/

/-- The runtime record of a cell (R21). -/
def Run.cell (v : Run) (x : Nat) : CellRun := Table.at v.records.cells CellRun.free x

/-- `v` with the runtime record of a cell set. -/
def Run.setCell (v : Run) (x : Nat) (r : CellRun) : Run :=
  { v with records := { v.records with cells := Table.set v.records.cells x r } }

/-- The context of a carrier (R80). -/
def Run.ctx (v : Run) (c : Nat) : Context := Table.at v.records.carriers Context.vacant c

/-- `v` with the context of a carrier changed by `f`. -/
def Run.modCtx (v : Run) (c : Nat) (f : Context → Context) : Run :=
  { v with records :=
    { v.records with carriers := Table.put v.records.carriers Context.vacant c (f (v.ctx c)) } }

/-- The reservation list of a carrier: cells with their route steps, in the order of reservation (R21). -/
def Run.reservations (v : Run) (c : Nat) : List (Nat × Nat) := Table.at v.records.reservations [] c

/-- `v` with the reservation list of a carrier set. -/
def Run.setReservations (v : Run) (c : Nat) (l : List (Nat × Nat)) : Run :=
  { v with records := { v.records with reservations := Table.put v.records.reservations [] c l } }

/-- `v` with the order of seniority set (R23). -/
def Run.setSeniority (v : Run) (l : List Nat) : Run :=
  { v with records := { v.records with seniority := l } }

/-- The runtime record of a corridor (R64). -/
def Run.corridor (v : Run) (k : Nat) : CorridorRun := Table.at v.records.corridors CorridorRun.idle k

/-- `v` with the runtime record of a corridor set. -/
def Run.setCorridor (v : Run) (k : Nat) (r : CorridorRun) : Run :=
  { v with records := { v.records with corridors := Table.set v.records.corridors k r } }

/-- The runtime record of a gate, if the gate has one (R121). -/
def Run.gate (v : Run) (g : Nat) : Option GateRun := Table.find v.records.gates g

/-- `v` with the runtime record of a gate changed by `f`; a gate without a record is left so. -/
def Run.modGate (v : Run) (g : Nat) (f : GateRun → GateRun) : Run :=
  { v with records := { v.records with gates := Table.update v.records.gates g f } }

/-- A slot of the step store (R107). -/
def Run.slot (v : Run) (n : Nat) : Slot := Table.at v.records.slots Slot.blank n

/-- `v` with a slot of the step store written. -/
def Run.setSlot (v : Run) (n : Nat) (x : Slot) : Run :=
  { v with records := { v.records with slots := Table.put v.records.slots Slot.blank n x } }

/-- `v` with the route fetch engine's records set. -/
def Run.setEngine (v : Run) (g : Engine) : Run := { v with records := { v.records with engine := g } }

/-- A link controller (R142). -/
def Run.link (v : Run) (l : Nat) : Link := Table.at v.records.links Link.reset l

/-- `v` with a link controller set. -/
def Run.setLink (v : Run) (l : Nat) (k : Link) : Run :=
  { v with records := { v.records with links := Table.put v.records.links Link.reset l k } }

end Sys2Proof.Machine
end

