-- ==== Sys2Proof/Machine/Flags.lean ====
section
/-! DEFINITION. Machine/Flags.lean: the ten alert flags and ALERT_N (R160, R161). -/

namespace Sys2Proof.Machine

/-- The alert flags (R160). -/
inductive AlertFlag where
  | deadlock
  | deadlockLost
  | gate
  | overrun
  | stopped
  | routeEnd
  | routeFault
  | bus
  | queueDrop
  | estop
  deriving DecidableEq, Repr

/-- A flag's bit in an alert mask (Data Formats 11.3). -/
def AlertFlag.bit : AlertFlag → Nat
  | .deadlock => 0
  | .deadlockLost => 1
  | .gate => 2
  | .overrun => 3
  | .stopped => 4
  | .routeEnd => 5
  | .routeFault => 6
  | .bus => 7
  | .queueDrop => 8
  | .estop => 9

/-- The mask that names one flag. -/
def AlertFlag.mask (f : AlertFlag) : BitVec 10 := 1#10 <<< f.bit

/-- `v` with a flag raised; raising a set flag leaves it set (R160). -/
def Run.raise (v : Run) (f : AlertFlag) : Run :=
  { v with records := { v.records with alerts := v.records.alerts ||| f.mask } }

/-- Whether a flag is set. -/
def Records.flag (r : Records) (f : AlertFlag) : Bool := r.alerts.getLsbD f.bit

/-- Whether ALERT_N is driven low: a flag is set whose enable is set, and the part is not in reset (R159, R160). -/
def State.alertAsserted (s : State) : Bool :=
  s.pins.resetN == .high && (s.records.alerts &&& s.supervisor.enable) != 0

end Sys2Proof.Machine
end

