-- ==== Sys2Proof/Machine/Edges.lean ====
section
/-! DEFINITION. Machine/Edges.lean: wait edges and the deadlock monitor (Chapter 8). -/

namespace Sys2Proof.Machine

/-- A carrier's wait edge: part of its wait record (R80). -/
def Run.edge (v : Run) (c : Nat) : Option Nat := (v.ctx c).wait.bind WaitRec.edge

/-- `v` with the edge of a carrier's wait record written. -/
def Run.putEdge (v : Run) (c : Nat) (t : Option Nat) : Run :=
  v.modCtx c (fun x => { x with wait := x.wait.map (fun w => { w with edge := t }) })

/-- Retiring a deadlock record: it becomes free and every member's mark becomes absent (R135). -/
def Run.retireRecord (v : Run) (n : Nat) : Run :=
  { v with records := { v.records with
      deadlocks := Table.erase v.records.deadlocks n
      marks := v.records.marks.filter (fun p => p.2 != n) } }

/-- Retiring the record that a carrier's mark names, where the mark is present (R135, R136). -/
def Run.retireMark (v : Run) (c : Nat) : Run :=
  match Table.find v.records.marks c with
  | some n => v.retireRecord n
  | none => v

/-- The chain walk of R137 for setter `s`, with the carriers seen so far (latest first) and the carrier `x` the last
hop reached: the members of the ring it closes, or none. -/
def chainWalk (edge : Nat → Option Nat) (s : Nat) : Nat → List Nat → Nat → Option (List Nat)
  | 0, _, _ => none
  | hops + 1, seen, x =>
    if x = s then some seen.reverse
    else match edge x with
      | none => none
      | some y => if x ∈ seen then none else chainWalk edge s hops (x :: seen) y

/-- The lowest free deadlock record (R138). -/
def Run.freeRecord (v : Run) : Option Nat :=
  (List.range Config.deadlockRecords).find? (fun n => (Table.find v.records.deadlocks n).isNone)

/-- Recording a closed ring, or DEADLOCK-LOST when every record is in use (R138). -/
def recordRing (e : Setting) (v : Run) (members : List Nat) : Run :=
  match v.freeRecord with
  | none => v.raise .deadlockLost
  | some n =>
    let d : DeadlockRec :=
      { count := members.length, members := members.take Config.listedMembers, tick := e.tick }
    let marks := members.foldl (fun t c => Table.set t c n) v.records.marks
    Run.raise { v with records := { v.records with deadlocks := Table.set v.records.deadlocks n d, marks := marks } }
      .deadlock

/-- The chain walk from setter `c` whose edge is set to `t`, and the record of a ring it closes (R137, R138). -/
def walkFrom (e : Setting) (v : Run) (c t : Nat) : Run :=
  match chainWalk v.edge c Config.walkHops [c] t with
  | some members => recordRing e v members
  | none => v

/-- The monitor's handling of one report, made after the edge has changed (R133, R136). -/
def reportEdge (e : Setting) (v : Run) (c : Nat) (previous new : Option Nat) : Run :=
  match previous, new with
  | none, none => v
  | some _, none => v.retireMark c
  | previous, some t =>
    if previous = some t then
      if (Table.find v.records.marks c).isSome then v else walkFrom e v c t
    else walkFrom e (v.retireMark c) c t

/-- A target equal to the carrier itself is absent (R29). -/
def targetFor (c : Nat) (t : Option Nat) : Option Nat := if t = some c then none else t

/-- Setting or clearing a carrier's edge with its report, whether or not it changed (R29, R74, R133). -/
def setEdge (e : Setting) (v : Run) (c : Nat) (t : Option Nat) : Run :=
  reportEdge e (v.putEdge c (targetFor c t)) c (v.edge c) (targetFor c t)

/-- Changing a carrier's edge in a recomputation or a retarget: only a changed edge is reported (R31, R66, R76). -/
def changeEdge (e : Setting) (v : Run) (c : Nat) (t : Option Nat) : Run :=
  if v.edge c = targetFor c t then v else setEdge e v c t

/-- Clearing a carrier's wait record and its edge (R24, R27, R54). -/
def clearWait (e : Setting) (v : Run) (c : Nat) : Run :=
  (setEdge e v c none).modCtx c (fun x => { x with wait := none })

/-- Whether a carrier's wait record is for a cell of its next run, at cell `x` (R29). -/
def Context.waitsAt (k : Context) (x : Nat) : Bool :=
  match k.wait with
  | some w => w.reason == .cell && w.cell == x
  | none => false

/-- Whether a carrier's wait record is for its order in lane `x` (R74). -/
def Context.waitsInLane (k : Context) (x : Nat) : Bool :=
  match k.wait with
  | some w => w.reason == .order && w.cell == x
  | none => false

end Sys2Proof.Machine
end

