-- ==== Sys2Proof/Machine/Gates.lean ====
section
/-! DEFINITION. Machine/Gates.lean: the gate unit (Chapter 7). A gate's change of state and its REQUEST line are one
(R122), so REQUEST is a function of the state. -/

namespace Sys2Proof.Machine

/-- A gate is active when it is CALLING, OPEN or DRAINING (R121). -/
def GateState.active : GateState → Bool
  | .shut => false
  | .calling => true
  | .opened => true
  | .draining => true
  | .fault => false

/-- The partner of a gate: an airlock pair is declared on its even gate (R6). -/
def MapStore.partner (m : MapStore) (g : Nat) : Option Nat :=
  let even := g - g % 2
  match Table.find m.gates even with
  | some b => if b.partner then some (if g % 2 = 0 then g + 1 else g - 1) else none
  | none => none

/-- The portal cell of a defined gate (R5). -/
def MapStore.portalOf (m : MapStore) (g : Nat) : Option Nat := (Table.find m.gates g).map GateBinding.portal

/-- The gate of a PORTAL cell (R2). -/
def MapStore.gateOf (m : MapStore) (x : Nat) : Option Nat :=
  match Table.find m.cells x with
  | some c => if c.kind = .portal then c.gate else none
  | none => none

/-- Whether a gate's READY input is at the level its binding calls active (R122). -/
def Setting.readyActive (e : Setting) (g : Nat) : Bool :=
  match Table.find e.map.gates g with
  | some b => Table.at e.ready .low g == b.polarity
  | none => false

/-- A gate's state; a gate without a record is never active and never OPEN. -/
def Run.gateState (v : Run) (g : Nat) : GateState := ((v.gate g).map GateRun.state).getD .shut

/-- Whether a gate is active (R121). -/
def Run.gateActive (v : Run) (g : Nat) : Bool := (v.gateState g).active

/-- Whether a gate's partner, if it has one, is active. -/
def partnerActive (e : Setting) (v : Run) (g : Nat) : Bool :=
  match e.map.partner g with
  | some p => v.gateActive p
  | none => false

/-- Whether a call is owed to the gate's partner. -/
def partnerPending (e : Setting) (v : Run) (g : Nat) : Bool :=
  match e.map.partner g with
  | some p => ((v.gate p).map GateRun.callPending).getD false
  | none => false

/-- Whether the portal of a gate has a holder. -/
def portalHeld (e : Setting) (v : Run) (g : Nat) : Bool :=
  match e.map.portalOf g with
  | some x => !(v.cell x).holders.isEmpty
  | none => false

/-- Whether the portal of a gate has a waiter in its queue. -/
def portalAwaited (e : Setting) (v : Run) (g : Nat) : Bool :=
  match e.map.portalOf g with
  | some x => !(v.cell x).queue.isEmpty
  | none => false

/-- The portal is idle when it has no holder and no waiter (R121). -/
def portalIdle (e : Setting) (v : Run) (g : Nat) : Bool := !portalHeld e v g && !portalAwaited e v g

/-- Stopping a gate's timer. -/
def Run.stopTimer (v : Run) (g : Nat) : Run := v.modGate g (fun r => { r with timer := none, due := false })

/-- The portal of a gate has gained a holder or a waiter: an OPEN gate's hold-open timer stops (R127). -/
def gateBusy (v : Run) (g : Nat) : Run := if v.gateState g = .opened then v.stopTimer g else v

/-- The start of the hold-open timer; a hold-open time of 0 expires at the moment it starts (R127). -/
def startHold (e : Setting) (v : Run) (g : Nat) : Run :=
  match Table.find e.map.gates g with
  | some b =>
    if b.holdOpen = 0 then v.later [.gateShut g]
    else v.modGate g (fun r => { r with timer := some b.holdOpen, due := false })
  | none => v

/-- The portal may have become idle: the hold-open timer of an OPEN gate starts when it has, except while the gate's
opening is still to be completed (R126, R127). -/
def gateIdleCheck (e : Setting) (v : Run) (g : Nat) : Run :=
  if v.gateState g = .opened && !v.opening.contains g && portalIdle e v g then startHold e v g else v

/-- The queue of cell `x` has become non-empty: the gate of a PORTAL is told (R24). -/
def queueFilled (e : Setting) (v : Run) (x : Nat) : Run :=
  match e.map.gateOf x with
  | some g => gateBusy v g
  | none => v

/-- The queue of cell `x` has become empty: the gate of a PORTAL is told (R24). -/
def queueEmptied (e : Setting) (v : Run) (x : Nat) : Run :=
  match e.map.gateOf x with
  | some g => gateIdleCheck e v g
  | none => v

/-- The release notice of a portal left without a holder (R35, R127). -/
def gateReleased (e : Setting) (v : Run) (g : Nat) : Run :=
  if portalHeld e v g then v
  else if v.gateState g = .draining then v.later [.gateShut g]
  else gateIdleCheck e v g

/-- A gate becomes OPEN: step 1 of R126. The later steps are made at once, or at the end of the attempt or the offer
in progress. -/
def gateOpens (v : Run) (g : Nat) : Run :=
  let v := v.modGate g (fun r => { r with state := .opened, timer := none, due := false })
  let v := if v.opening.contains g then v else { v with opening := v.opening ++ [g] }
  if v.deferring then
    if v.deferred.contains g then v else { v with deferred := v.deferred ++ [g] }
  else v.later [.gateOpened g]

/-- A gate becomes CALLING: REQUEST on, the call timer started, and OPEN at once where READY is already active
(R125). -/
def gateCalls (e : Setting) (v : Run) (g : Nat) : Run :=
  let limit := (Table.find e.map.gates g).map GateBinding.callLimit
  let v := v.modGate g (fun r => { r with state := .calling, callPending := false, timer := limit, due := false })
  if e.readyActive g then gateOpens v g else v

/-- A call becomes owed to a gate. -/
def Run.owe (v : Run) (g : Nat) : Run := v.modGate g (fun r => { r with callPending := true })

/-- A call request to a gate (R123). -/
def gateCall (e : Setting) (v : Run) (g : Nat) : Run :=
  match v.gate g with
  | none => v
  | some r =>
    match r.state with
    | .shut =>
      match e.map.partner g with
      | none => gateCalls e v g
      | some p =>
        if v.gateState p = .opened then (v.owe g).later [.gateDrain p]
        else if v.gateActive p then v.owe g
        else gateCalls e v g
    | .draining => v.owe g
    | .calling => v
    | .opened => v
    | .fault => v

/-- Step 2 of R126: the portal of a gate that has become OPEN is offered. A gate that opens during this offer makes
its own later steps at the offer's end, before steps 3 and 4 of this one (log entry 16). -/
def gateOpened (e : Setting) (v : Run) (g : Nat) : Run :=
  if v.gateState g = .opened then
    match e.map.portalOf g with
    | some x => v.later [.offer x, .gateAfterOffer g]
    | none => v.later [.gateAfterOffer g]
  else { v with opening := v.opening.erase g }

/-- Steps 3 and 4 of R126. Where the offer has granted nothing and a waiter is left, the portal is not idle, as R121
defines it and R127 repeats, so no hold-open timer starts; the text of R126 calls that portal idle (log entry 31). -/
def gateAfterOffer (e : Setting) (v : Run) (g : Nat) : Run :=
  let v := { v with opening := v.opening.erase g }
  if v.gateState g = .opened then
    if partnerPending e v g then v.later [.gateDrain g] else gateIdleCheck e v g
  else v

/-- An OPEN gate becomes DRAINING, and SHUT at once where its portal has no holder (R127). -/
def gateDrain (e : Setting) (v : Run) (g : Nat) : Run :=
  if v.gateState g = .opened then
    let v := v.modGate g (fun r => { r with state := .draining, timer := none, due := false })
    if portalHeld e v g then v else v.later [.gateShut g]
  else v

/-- A gate becomes SHUT from OPEN or DRAINING, and the owed calls are released (R124, R127). -/
def gateShut (v : Run) (g : Nat) : Run :=
  if v.gateState g = .opened || v.gateState g = .draining then
    let v := v.modGate g (fun r => { r with state := .shut, timer := none, due := false })
    { v with opening := v.opening.erase g }.later [.gateOwedPartner g, .gateOwedSelf g]
  else v

/-- Step 1 of R124: the partner of the gate that changed is called when it is owed a call. -/
def gateOwedPartner (e : Setting) (v : Run) (g : Nat) : Run :=
  match e.map.partner g with
  | none => v
  | some p =>
    if partnerPending e v g && v.gateState p = .shut && !v.gateActive g then gateCalls e v p else v

/-- Step 2 of R124: the gate that became SHUT is called where its portal has a holder or a waiter. -/
def gateOwedSelf (e : Setting) (v : Run) (g : Nat) : Run :=
  if portalIdle e v g then v else gateCall e v g

/-- Entry to FAULT (R128, R129): the alert, the halt requests to the holders of the portal, and the partner's owed
call. -/
def gateFaults (e : Setting) (v : Run) (g : Nat) : Run :=
  let v := v.modGate g (fun _ => { state := .fault, callPending := false, timer := none, due := false })
  let v := ({ v with opening := v.opening.erase g }).raise .gate
  let holders := match e.map.portalOf g with
    | some x => (v.cell x).holders
    | none => []
  v.later (holders.map (fun c => .halt c .gate) ++ [.gateOwedPartner g])

/-- The REQUEST output of a gate: on exactly while the gate is CALLING, OPEN or DRAINING, and off in reset (R122,
R159). -/
def State.request (s : State) (g : Nat) : Bool :=
  s.pins.resetN == .high &&
    (((Table.find s.records.gates g).map (fun r => r.state.active)).getD false)

end Sys2Proof.Machine
end

