-- ==== Sys2Proof/Machine/Windows.lean ====
section
/-! DEFINITION. Machine/Windows.lean: step windows and the fetch trigger (R107 to R110). -/

namespace Sys2Proof.Machine

/-- The oldest step in a carrier's window (R107). -/
def Context.oldest (k : Context) : Nat := k.nextStep - k.windowCount

/-- The window's read position: the oldest step mod the window size (R107). -/
def Context.readPosition (k : Context) : Nat := k.oldest % k.windowSize

/-- The window's write position: the next step to fetch mod the window size (R107). -/
def Context.writePosition (k : Context) : Nat := k.nextStep % k.windowSize

/-- The free slots of a window (R107). -/
def Context.freeSlots (k : Context) : Nat := k.windowSize - k.windowCount

/-- The steps in the window that are not granted (R107). -/
def Context.ungranted (k : Context) : Nat := k.nextStep - k.grantMark

/-- Whether step `j` is in the window. -/
def Context.inWindow (k : Context) (j : Nat) : Bool := decide (k.oldest ≤ j) && decide (j < k.nextStep)

/-- The slot of the step store that step `j` of a route occupies (R107). -/
def Context.slotNumber (k : Context) (j : Nat) : Nat := k.windowBase + j % k.windowSize

/-- Step `j` of a carrier's route, where it is in the window. -/
def Run.step (v : Run) (c j : Nat) : Option Slot :=
  if (v.ctx c).inWindow j then some (v.slot ((v.ctx c).slotNumber j)) else none

/-- A carrier may come to rest on TRACK, LANE and DOCK cells (R2). -/
def CellKind.standing : CellKind → Bool
  | .track => true
  | .junction => false
  | .lane => true
  | .portal => false
  | .dock => true

/-- The kind of a defined cell. -/
def MapStore.kindOf (m : MapStore) (x : Nat) : Option CellKind := (Table.find m.cells x).map CellStatic.kind

/-- Whether a cell is a standing cell (R2). -/
def MapStore.standing (m : MapStore) (x : Nat) : Bool := ((m.kindOf x).map CellKind.standing).getD false

/-- The corridor of a cell and its position there, derived at MAP-END (R4). -/
def MapStore.corridorOf (m : MapStore) (x : Nat) : Option (Nat × Nat) :=
  (Table.find m.cells x).bind CellStatic.corridor

/-- Whether a fetch request of a carrier is in the engine queue. -/
def Engine.fetchQueued (g : Engine) (c : Nat) : Bool :=
  g.queue.any (fun r => match r with
    | .fetch d _ => d == c
    | .writeBack _ _ _ _ _ _ => false)

/-- Whether a write-back request of a carrier is in the engine queue. -/
def Engine.writeBackQueued (g : Engine) (c : Nat) : Bool :=
  g.queue.any (fun r => match r with
    | .fetch _ _ => false
    | .writeBack d _ _ _ _ _ => d == c)

/-- Whether a carrier's read is in flight. -/
def Engine.reading (g : Engine) (c : Nat) : Bool :=
  match g.inFlight with
  | some r => r.carrier == c
  | none => false

/-- The engine with a request at the tail of its queue (R109). -/
def Engine.enqueue (g : Engine) (r : EngineRequest) : Engine := { g with queue := g.queue ++ [r] }

/-- The engine without a carrier's fetch request (R85, R99, R109). -/
def Engine.dropFetch (g : Engine) (c : Nat) : Engine :=
  { g with queue := g.queue.filter (fun r => match r with
    | .fetch d _ => d != c
    | .writeBack _ _ _ _ _ _ => true) }

/-- Whether the fetch trigger holds for a carrier (R110). -/
def fetchWanted (v : Run) (c : Nat) : Bool :=
  let k := v.ctx c
  let g := v.records.engine
  (k.state == .attached || k.state == .running) &&
    (match k.stepCount with
      | some n => decide (k.nextStep < n)
      | none => false) &&
    k.cutPoint.isNone && decide (0 < k.freeSlots) && decide (2 * k.ungranted ≤ k.windowSize) &&
    !g.fetchQueued c && !g.reading c

/-- The fetch trigger: a step read request joins the tail of the engine queue where the trigger holds (R110). -/
def fetchTrigger (v : Run) (c : Nat) : Run :=
  if fetchWanted v c then v.setEngine (v.records.engine.enqueue (.fetch c false)) else v

/-- The steps that are released leave the window from its oldest end, while the carrier holds a step entry (R108). -/
def freeWindow (v : Run) (c : Nat) : Run :=
  v.modCtx c (fun k =>
    match (k.held.filterMap Held.step).min? with
    | some low => { k with windowCount := k.windowCount - (low - k.oldest) }
    | none => k)

/-- The steps above the cut point leave the window (R108, R117). -/
def Context.cutWindow (k : Context) (cut : Nat) : Context :=
  { k with windowCount := k.windowCount - (k.nextStep - (cut + 1)), nextStep := cut + 1 }

end Sys2Proof.Machine
end

