-- ==== Sys2Proof/Machine/Links.lean ====
section
/-! DEFINITION. Machine/Links.lean: the link controllers: checks and counters, outbound queues, transmitters, frames
(Chapter 9, R164). -/

namespace Sys2Proof.Machine

/-- A counter increased by one, saturating at 65535 (R145, R149). -/
def countUp (n : Nat) : Nat := min Config.counterMax (n + 1)

/-- One more failure of a kind (R145). -/
def Link.fail (k : Link) : FrameFailure → Link
  | .check => { k with check := countUp k.check }
  | .format => { k with format := countUp k.format }
  | .unknown => { k with unknown := countUp k.unknown }
  | .device => { k with device := countUp k.device }

/-- A transmitter that is IDLE starts the head of a non-empty queue (R150). -/
def Link.start (k : Link) : Link :=
  match k.transmitter, k.queue with
  | .idle, m :: rest => { k with queue := rest, transmitter := .sending m }
  | _, _ => k

/-- The last character of what was being sent has left the line (R150, R152). -/
def Link.complete (k : Link) : Link :=
  match k.transmitter with
  | .idle => k
  | .sending _ => Link.start { k with transmitter := .idle }
  | .finishing => Link.start { k with transmitter := .idle }

/-- Whether an outbound queue holds a message for a carrier. -/
def Link.holdsFor (k : Link) (c : Nat) : Bool := k.queue.any (fun m => m.carrier == c)

/-- A message replaced in place, joined at the tail, or dropped (R149); the flag says whether it was dropped. -/
def Link.place (k : Link) (m : Message) : Link × Bool :=
  if k.holdsFor m.carrier then
    ({ k with queue := k.queue.map (fun o => if o.carrier = m.carrier then m else o) }, false)
  else if k.queue.length < Config.outboundLimit then ({ k with queue := k.queue ++ [m] }, false)
  else ({ k with drop := countUp k.drop }, true)

/-- A carrier's message removed from an outbound queue, without being sent and without a drop (R151). -/
def Link.remove (k : Link) (c : Nat) : Link := { k with queue := k.queue.filter (fun m => m.carrier != c) }

/-- A message handed to link `l`: placed, and started at once where the transmitter is IDLE (R149, R150). -/
def placeOn (v : Run) (l : Nat) (m : Message) : Run :=
  let placed := (v.link l).place m
  let v := v.setLink l placed.1.start
  if placed.2 then v.raise .queueDrop else v

/-- A message for a carrier, handed to its home link; none is sent without a home link (R61, R148, R149). -/
def send (v : Run) (c : Nat) (p : Payload) : Run :=
  match (v.ctx c).homeLink with
  | some l => placeOn v l { carrier := c, payload := p }
  | none => v

/-- The home link step of a good frame on link `l` (R148). -/
def setHome (v : Run) (c l : Nat) : Run :=
  let v := match (v.ctx c).homeLink with
    | some old => if old = l then v else v.setLink old ((v.link old).remove c)
    | none => v
  v.modCtx c (fun k => { k with homeLink := some l })

/-- A carrier's queued message removed from every link (R99, R151). -/
def removeMessages (v : Run) (c : Nat) : Run :=
  (List.range Config.links).foldl (fun v l => v.setLink l ((v.link l).remove c)) v

/-! ## Frames -/

/-- One bit of the CRC: shift left, and exclusive-or with the polynomial where a one leaves the top (R144). -/
def crcBit (r : Half) : Half := if r.msb then (r <<< 1) ^^^ 0x1021#16 else r <<< 1

/-- One byte entering the CRC register, most significant bit first (R144). -/
def crcByte (r : Half) (b : Byte) : Half :=
  let r := r ^^^ (joinBytes b 0)
  crcBit (crcBit (crcBit (crcBit (crcBit (crcBit (crcBit (crcBit r)))))))

/-- The CRC-16 of a body: initial value 0xFFFF, no final inversion (R144). -/
def crc16 (body : List Byte) : Half := body.foldl crcByte 0xFFFF#16

/-- The wire code of a reason (Data Formats 11.1). -/
def Reason.code : Reason → Byte
  | .none => 0
  | .horizon => 1
  | .routeEnd => 2
  | .hold => 3
  | .cell => 4
  | .order => 5
  | .fetch => 6
  | .device => 7
  | .noRoute => 8

/-- The wire code of a stop cause (Data Formats 11.1). -/
def StopCause.code : StopCause → Byte
  | .overrun => 0
  | .faults => 1
  | .detach => 2
  | .supervisor => 3
  | .gate => 4
  | .allStop => 5
  | .lost => 6

/-- A kind byte: the code in bits 3..0 and its ones' complement in bits 7..4 (R164). -/
def kindByte (code : BitVec 4) : Byte := (~~~code) ++ code

/-- Whether a kind byte's high half is the ones' complement of its low half (R144, check 2). -/
def kindChecks (b : Byte) : Bool := b == kindByte (b.extractLsb' 0 4)

/-- The body of a message's frame: the kind byte, the carrier number and the payload (R164). -/
def Message.body (m : Message) : List Byte :=
  match m.payload with
  | .auth endStep speed reason =>
    kindByte 9 :: BitVec.ofNat 8 m.carrier :: (halfBytes (BitVec.ofNat 16 endStep) ++ [BitVec.ofNat 8 speed, reason.code])
  | .wait endStep speed reason =>
    kindByte 10 :: BitVec.ofNat 8 m.carrier ::
      (halfBytes (BitVec.ofNat 16 endStep) ++ [BitVec.ofNat 8 speed, reason.code])
  | .stop cause => [kindByte 12, BitVec.ofNat 8 m.carrier, cause.code]

/-- The frame around a body: start byte, length, body, CRC high byte first (R164). -/
def frameOf (body : List Byte) : List Byte :=
  0xA5 :: BitVec.ofNat 8 body.length :: (body ++ halfBytes (crc16 body))

/-- The frame a message is sent as (R164). -/
def Message.frame (m : Message) : List Byte := frameOf m.body

/-- What a link's transmit line carries: the frame being sent (R150). -/
def Link.transmitting (k : Link) : Option (List Byte) :=
  match k.transmitter with
  | .idle => none
  | .sending m => some m.frame
  | .finishing => none

/-- A carrier request as a link controller hands it over (R147). -/
inductive Request where
  | ask (front speed requested : Nat) (resume : Bool)
  | pass (front rear cell speed : Nat)
  | done (front speed : Nat)
  deriving DecidableEq, Repr

/-- The RESUME flag of an ASK: bit 0 of its flags byte (R147). -/
def resumeFlag (flags : Byte) : Bool := flags.getLsbD 0

/-- Checks 4 and 5 of R144 on a body whose CRC is good: the carrier and its request, or the failure. -/
def decodeBody (body : List Byte) : FrameFailure ⊕ (Nat × Request) :=
  match body with
  | [] => .inl .unknown
  | kind :: rest =>
    match (kind.extractLsb' 0 4).toNat, rest with
    | 1, [c, f1, f0, speed, requested, flags] =>
      .inr (c.toNat, .ask (joinBytes f1 f0).toNat speed.toNat requested.toNat (resumeFlag flags))
    | 1, _ => .inl .format
    | 2, [c, f1, f0, r1, r0, x1, x0, speed] =>
      .inr (c.toNat, .pass (joinBytes f1 f0).toNat (joinBytes r1 r0).toNat (joinBytes x1 x0).toNat speed.toNat)
    | 2, _ => .inl .format
    | 3, [c, f1, f0, speed] => .inr (c.toNat, .done (joinBytes f1 f0).toNat speed.toNat)
    | 3, _ => .inl .format
    | _, _ => .inl .unknown

/-- What a character does at a receiver: the receiver afterwards, and either nothing more, a frame that fails, or
a frame whose CRC and layout are good, for check 6 (R143 to R145). -/
inductive Reception where
  | collecting
  | failed (failure : FrameFailure)
  | framed (carrier : Nat) (request : Request)
  deriving DecidableEq, Repr

/-- The checks made when the second CRC byte has arrived (R144, checks 3 to 5). -/
def checkFrame (body crc : List Byte) : Reception :=
  if crc = halfBytes (crc16 body) then
    match decodeBody body with
    | .inl f => .failed f
    | .inr (c, q) => .framed c q
  else .failed .check

/-- A character arriving at a receiver (R143, R145). -/
def Receiver.take (r : Receiver) (ch : Byte) (framingError : Bool) : Receiver × Reception :=
  match r.state with
  | .hunt =>
    if framingError || ch != 0xA5 then (r, .collecting)
    else ({ state := .length, length := 0, body := [], crc := [] }, .collecting)
  | .length =>
    if framingError || ch.toNat < 3 || 9 < ch.toNat then (Receiver.hunting, .failed .format)
    else ({ r with state := .kind, length := ch.toNat }, .collecting)
  | .kind =>
    if framingError || !kindChecks ch then (Receiver.hunting, .failed .format)
    else ({ r with state := .body, body := [ch] }, .collecting)
  | .body =>
    if framingError then (Receiver.hunting, .failed .format)
    else
      let body := r.body ++ [ch]
      ({ r with body := body, state := if r.length ≤ body.length then .crc else .body }, .collecting)
  | .crc =>
    if framingError then (Receiver.hunting, .failed .format)
    else
      match r.crc with
      | [] => ({ r with crc := [ch] }, .collecting)
      | _ => (Receiver.hunting, checkFrame r.body (r.crc ++ [ch]))

end Sys2Proof.Machine
end

