-- ==== Sys2Proof/Machine/Rights.lean ====
section
/-! DEFINITION. Machine/Rights.lean: the rights table (Chapter 2) with the corridor unit (Chapter 4): grantability, the
recomputation of edges, wait queues, corridor records, reservations and releases. -/

namespace Sys2Proof.Machine

/-! ## Capacity, lanes and corridor ends -/

/-- The capacity of a defined cell (R2). -/
def CellStatic.places (x : CellStatic) : Nat :=
  match x.kind with
  | .lane => x.capacity.getD 1
  | .track => 1
  | .junction => 1
  | .portal => 1
  | .dock => 1

/-- The capacity of a cell: the limit on its holder list (R2). -/
def MapStore.capacity (m : MapStore) (x : Nat) : Nat := ((Table.find m.cells x).map CellStatic.places).getD 1

/-- Whether a cell is a LANE. -/
def MapStore.isLane (m : MapStore) (x : Nat) : Bool := m.kindOf x == some .lane

/-- The cell a port names (R3). -/
def CellStatic.port (x : CellStatic) (p : Nat) : Option Nat := (x.ports[p]?).join

/-- The cell on a LANE's entry port. -/
def MapStore.entryOf (m : MapStore) (x : Nat) : Option Nat :=
  (Table.find m.cells x).bind (fun k => k.entryPort.bind k.port)

/-- The cell on a LANE's exit port. -/
def MapStore.exitOf (m : MapStore) (x : Nat) : Option Nat :=
  (Table.find m.cells x).bind (fun k => k.exitPort.bind k.port)

/-- The members of a corridor, end A first (R4). -/
def MapStore.members (m : MapStore) (k : Nat) : List Nat := Table.at m.corridors [] k

/-- The two ends of a corridor, end A then end B. -/
def MapStore.ends (m : MapStore) (k : Nat) : List Nat :=
  let l := m.members k
  match l.head?, l.getLast? with
  | some a, some b => [a, b]
  | _, _ => []

/-- The end by which a carrier enters in a direction (R65, R70). -/
def MapStore.entryEnd (m : MapStore) (k : Nat) (d : Direction) : Option Nat :=
  match d with
  | .ab => (m.members k).head?
  | .ba => (m.members k).getLast?
  | .free => none

/-- The direction of a carrier entering at a member: AB at end A, BA at end B (R65). -/
def entryDirection (position : Nat) : Direction := if position = 0 then .ab else .ba

/-- The direction opposite to a direction. -/
def Direction.opposite : Direction → Direction
  | .free => .free
  | .ab => .ba
  | .ba => .ab

/-- The conditions of a corridor (R64). -/
inductive Condition where
  | free
  | flowing
  | turnPending
  | turned
  deriving DecidableEq, Repr

/-- The condition that follows from a corridor's fields (R64). -/
def CorridorRun.condition (r : CorridorRun) : Condition :=
  if r.direction = .free then .free
  else if r.turnRequested then .turnPending
  else if r.turnCarrier.isSome then .turned
  else .flowing

/-- The newest occupant of a corridor (R65). -/
def CorridorRun.newest (r : CorridorRun) : Option Nat := r.occupants.getLast?

/-- The corridor check for a carrier going in direction `d` that is not an occupant: none where it passes, the wait
edge it gives where it fails (R65). -/
def corridorCheck (r : CorridorRun) (d : Direction) : Option (Option Nat) :=
  match r.condition with
  | .free => none
  | .flowing => if d = r.direction then none else some r.newest
  | .turnPending => if d = r.direction then some r.turnCarrier else some r.newest
  | .turned => if d = r.direction then none else some (r.newest <|> r.turnCarrier)

/-! ## Grantability (R25) -/

/-- Whether a carrier holds a cell, by its held list (R22). -/
def Context.holds (k : Context) (x : Nat) : Bool := k.held.any (fun h => h.cell == x)

/-- Condition 4: enough places, and a LANE entered by its entry port. None where it holds, the wait edge where it
fails. -/
def capacityTest (e : Setting) (v : Run) (c x j : Nat) : Option (Option Nat) :=
  let r := v.cell x
  if (r.holders.filter (· != c)).length < e.map.capacity x then
    if e.map.isLane x then
      if (v.step c (j - 1)).map Slot.cell = e.map.entryOf x && (e.map.entryOf x).isSome then none else some none
    else none
  else if e.map.isLane x then some r.holders.head?
  else some (r.holders.filter (· != c)).head?

/-- Condition 6: the corridor check, for a corridor member and a carrier that is not an occupant. -/
def corridorTest (e : Setting) (v : Run) (c x : Nat) : Option (Option Nat) :=
  match e.map.corridorOf x with
  | none => none
  | some (k, position) =>
    if (v.corridor k).occupants.contains c then none
    else corridorCheck (v.corridor k) (entryDirection position)

/-- Condition 7: the gate of a PORTAL is OPEN. -/
def gateTest (e : Setting) (v : Run) (x : Nat) : Bool :=
  match e.map.kindOf x with
  | some .portal =>
    match e.map.gateOf x with
    | some g => v.gateState g == .opened
    | none => false
  | _ => true

/-- Condition 3 fails for a cell reserved for another carrier. -/
def reservedForOther (r : CellRun) (c : Nat) : Bool :=
  match r.reservedFor with
  | some d => d != c
  | none => false

/-- The grantability of cell `x`, step `j` of its route, to carrier `c`: none where every condition holds; where one
fails, the block cause of the first and the wait edge it gives (R25). -/
def grantTest (e : Setting) (v : Run) (c x j : Nat) : Option (BlockCause × Option Nat) :=
  let r := v.cell x
  if r.closed then some (.closed, none)
  else if r.countdown ≠ 0 then some (.clearance, none)
  else if reservedForOther r c then some (.reserved, r.reservedFor)
  else match capacityTest e v c x j with
    | some t => some (.capacity, t)
    | none =>
      if (v.ctx c).holds x then some (.selfHeld, none)
      else match corridorTest e v c x with
        | some t => some (.corridor, t)
        | none => if gateTest e v x then none else some (.gate, none)

/-! ## The recomputation of edges (R31, R66) -/

/-- A waiter's block cause recorded in a queue. -/
def recordCause (q : List Waiter) (c : Nat) (b : BlockCause) : List Waiter :=
  q.map (fun w => if w.carrier = c then { w with cause := b } else w)

/-- The recomputation for one waiter of cell `x`, where its wait record names the cell (R31). -/
def recomputeWaiter (e : Setting) (x : Nat) (v : Run) (c : Nat) : Run :=
  match (v.cell x).queue.find? (fun w => w.carrier == c) with
  | none => v
  | some w =>
    if (v.ctx c).waitsAt x then
      match grantTest e v c x w.step with
      | none => changeEdge e v c none
      | some (b, t) =>
        changeEdge e (v.setCell x { v.cell x with queue := recordCause (v.cell x).queue c b }) c t
    else v

/-- The recomputation of the causes and edges of a cell's waiters, in queue order (R31). -/
def recompute (e : Setting) (v : Run) (x : Nat) : Run :=
  ((v.cell x).queue.map Waiter.carrier).foldl (recomputeWaiter e x) v

/-- The recomputation at both ends of a corridor, end A first (R66). -/
def recomputeEnds (e : Setting) (v : Run) (k : Nat) : Run := (e.map.ends k).foldl (recompute e) v

/-! ## Wait queues (R23, R24) -/

/-- Whether waiter `a` stands ahead of waiter `b`: by priority, then by seniority (R23). -/
def aheadOf (seniority : List Nat) (a b : Waiter) : Bool :=
  decide (a.priority < b.priority) ||
    (a.priority == b.priority && decide (seniority.idxOf a.carrier < seniority.idxOf b.carrier))

/-- A queue with a waiter at the place that its priority and seniority give it (R23). -/
def insertWaiter (seniority : List Nat) (w : Waiter) : List Waiter → List Waiter
  | [] => [w]
  | x :: rest => if aheadOf seniority w x then w :: x :: rest else x :: insertWaiter seniority w rest

/-- The cell in whose queue a carrier stands (R24). -/
def Run.queueOf (v : Run) (c : Nat) : Option Nat :=
  (v.records.cells.find? (fun p => p.2.queue.any (fun w => w.carrier == c))).map Prod.fst

/-- A carrier out of the order of seniority. -/
def Run.dropSeniority (v : Run) (c : Nat) : Run := v.setSeniority (v.records.seniority.filter (· != c))

/-- A carrier junior to every queued carrier (R23). -/
def Run.joinSeniority (v : Run) (c : Nat) : Run := v.setSeniority (v.records.seniority.filter (· != c) ++ [c])

/-- A carrier taken out of the queue of cell `x`; nothing else changes. -/
def Run.takeFrom (v : Run) (x c : Nat) : Run :=
  v.setCell x { v.cell x with queue := (v.cell x).queue.filter (fun w => w.carrier != c) }

/-- A carrier leaves any queue it stands in, for good (R23, R24). -/
def leaveQueue (e : Setting) (v : Run) (c : Nat) : Run :=
  match v.queueOf c with
  | none => v.dropSeniority c
  | some x =>
    let v := (v.takeFrom x c).dropSeniority c
    if (v.cell x).queue.isEmpty then queueEmptied e v x else v

/-- A carrier leaves any queue, and its wait record and wait edge are cleared (R24). -/
def leaveWaiting (e : Setting) (v : Run) (c : Nat) : Run := clearWait e (leaveQueue e v c) c

/-! ## The corridor unit's records -/

/-- Appointing a turn carrier in a corridor left FLOWING (R67). -/
def appointTurn (e : Setting) (v : Run) (k : Nat) : Run :=
  let r := v.corridor k
  if r.condition = .flowing then
    match e.map.entryEnd k r.direction.opposite with
    | none => v
    | some y =>
      match (v.cell y).queue.find? (fun w => !r.occupants.contains w.carrier && (v.ctx w.carrier).waitsAt y) with
      | some w => v.setCorridor k { r with turnRequested := true, turnCarrier := some w.carrier }
      | none => v
  else v

/-- A carrier that is granted a member cell and is no occupant enters the corridor (R68). -/
def corridorEnter (e : Setting) (v : Run) (k position c : Nat) : Run :=
  let r := v.corridor k
  let direction := if r.direction = .free then entryDirection position else r.direction
  let turn := if r.turnCarrier = some c then none else r.turnCarrier
  let v := v.setCorridor k { r with occupants := r.occupants ++ [c], direction := direction, turnCarrier := turn }
  recomputeEnds e (appointTurn e v k) k

/-- The failed entry of a carrier at an end cell of a corridor with cause CORRIDOR (R69). -/
def corridorFailed (e : Setting) (v : Run) (k c : Nat) : Run :=
  let r := v.corridor k
  if r.condition = .flowing then
    recomputeEnds e (v.setCorridor k { r with turnRequested := true, turnCarrier := some c }) k
  else v

/-- A carrier that holds no member any more leaves the occupant list; the corridor may become FREE or turn, and its
ends are offered (R70). A turn carrier that goes SILENT in a later event still stands in its queue here, and the offer
may grant it (R24, R70, against R72; log entry 30). -/
def corridorLeave (e : Setting) (v : Run) (k c : Nat) : Run :=
  let r := v.corridor k
  let left := r.occupants.filter (· != c)
  let r' := { r with occupants := left }
  if left.isEmpty then
    match r.condition with
    | .flowing =>
      (recomputeEnds e (v.setCorridor k { r' with direction := .free }) k).later ((e.map.ends k).map .offer)
    | .turnPending =>
      let d := r.direction.opposite
      (recomputeEnds e (v.setCorridor k { r' with direction := d, turnRequested := false }) k).later
        ((e.map.entryEnd k d).toList.map .offer)
    | .turned => recomputeEnds e (v.setCorridor k r') k
    | .free => recomputeEnds e (v.setCorridor k r') k
  else recomputeEnds e (v.setCorridor k r') k

/-- The cancellation of the turn of one corridor (R71). -/
def cancelTurn (e : Setting) (v : Run) (k : Nat) : Run :=
  let r := v.corridor k
  let r' := { r with turnRequested := false, turnCarrier := none }
  if r.condition = .turned ∧ r.occupants.isEmpty then
    (recomputeEnds e (v.setCorridor k { r' with direction := .free }) k).later ((e.map.ends k).map .offer)
  else recomputeEnds e (appointTurn e (v.setCorridor k r') k) k

/-- The cancellation of every turn a carrier is turn carrier for (R71). -/
def cancelTurns (e : Setting) (v : Run) (c : Nat) : Run :=
  (Table.keys v.records.corridors).foldl
    (fun v k => if (v.corridor k).turnCarrier = some c then cancelTurn e v k else v) v

/-! ## Reservations (R33, R34) -/

/-- A cell reserved for a carrier, at the tail of its reservation list (R33). -/
def reserve (e : Setting) (c : Nat) (v : Run) (p : Nat × Nat) : Run :=
  if e.map.capacity p.1 = 1 ∧ ¬e.map.isLane p.1 ∧ (v.cell p.1).reservedFor = none then
    recompute e ((v.setCell p.1 { v.cell p.1 with reservedFor := some c }).setReservations c
      (v.reservations c ++ [p])) p.1
  else v

/-- One reservation cleared, with the recomputation of the cell's waiters (R34). -/
def clearReservation (e : Setting) (c : Nat) (v : Run) (p : Nat × Nat) : Run :=
  recompute e ((v.setCell p.1 { v.cell p.1 with reservedFor := none }).setReservations c
    ((v.reservations c).filter (· != p))) p.1

/-- Reservations cleared, and each cleared cell offered in the order of the list (R34). -/
def clearReservations (e : Setting) (v : Run) (c : Nat) (ps : List (Nat × Nat)) : Run :=
  (ps.foldl (clearReservation e c) v).later (ps.map (fun p => .offer p.1))

/-! ## Releases (R35 to R37) -/

/-- The holder directly behind a carrier in an order of holders. -/
def behindIn (holders : List Nat) (c : Nat) : Option Nat := (holders.dropWhile (· != c)).tail.head?

/-- The holder directly ahead of a carrier in an order of holders. -/
def aheadIn (holders : List Nat) (c : Nat) : Option Nat := (holders.takeWhile (· != c)).getLast?

/-- One held-list entry released: the carrier leaves the cell's holder list with the entry, and a cell left without a
holder starts its clearance countdown (R35, R37); the cell's consequences are left as work. -/
def releaseEntry (e : Setting) (c : Nat) (v : Run) (h : Held) : Run :=
  let r := v.cell h.cell
  let left := r.holders.filter (· != c)
  let clearance := ((Table.find e.map.cells h.cell).map CellStatic.clearance).getD 0
  let r' := if left.isEmpty ∧ clearance ≠ 0 then { r with holders := left, countdown := clearance, due := false }
    else { r with holders := left }
  let v := (v.setCell h.cell r').modCtx c (fun k => { k with held := k.held.erase h })
  v.later [.freed c h.cell left.isEmpty (r.holders.head? == some c) (behindIn r.holders c)]

/-- A release request: the carrier leaves every named cell, rear first, its released steps leave its window, and then
come the consequences cell by cell (R35, R108). -/
def release (e : Setting) (v : Run) (c : Nat) (entries : List Held) : Run :=
  if entries.isEmpty then v else freeWindow (entries.foldl (releaseEntry e c) v) c

/-- The retargeting of the remaining holders of a lane, in lane order (R76). -/
def retargetLane (e : Setting) (x : Nat) : Run → Option Nat → List Nat → Run
  | v, _, [] => v
  | v, ahead, h :: rest =>
    let v := if (v.ctx h).waitsInLane x then changeEdge e v h ahead else v
    retargetLane e x v (some h) rest

/-- The lane order closing up after a release from a LANE that keeps other holders: the lane advance where the oldest
left (R76), the new edge of the holder behind where another left (R77). -/
def laneClosesUp (e : Setting) (v : Run) (x : Nat) (wasOldest : Bool) (behind : Option Nat) : Run :=
  let holders := (v.cell x).holders
  if wasOldest then
    (retargetLane e x v none holders).later (holders.head?.toList.map (fun h => .attempt h .noticeIfGranted))
  else match behind with
    | some b => if (v.ctx b).waitsInLane x then changeEdge e v b (aheadIn holders b) else v
    | none => v

/-- Step 2 of R35: the carrier leaves a corridor of which it holds no other member. -/
def leaveCorridorOf (e : Setting) (v : Run) (c x : Nat) : Run :=
  match e.map.corridorOf x with
  | none => v
  | some (k, _) =>
    if (v.corridor k).occupants.contains c && !(e.map.members k).any (fun m => (v.ctx c).holds m)
    then corridorLeave e v k c else v

/-- The consequences of one released cell, in the order of R35. -/
def freed (e : Setting) (v : Run) (c x : Nat) (emptied wasOldest : Bool) (behind : Option Nat) : Run :=
  let v := if e.map.isLane x && !emptied then laneClosesUp e v x wasOldest behind else v
  let v := leaveCorridorOf e v c x
  let v := match e.map.gateOf x with
    | some g => gateReleased e v g
    | none => v
  let offers := if emptied then (v.cell x).countdown == 0 else e.map.isLane x
  v.later [.freedSettle x offers]

/-- The recomputation of a released cell's waiters, before its offer (R35). -/
def freedSettle (e : Setting) (v : Run) (x : Nat) (offers : Bool) : Run :=
  let v := recompute e v x
  if offers then v.later [.offer x] else v

end Sys2Proof.Machine
end

