-- ==== Sys2Proof/Machine/Authority.lean ====
section
/-! DEFINITION. Machine/Authority.lean: the authority unit (Chapter 3): distance and speed, the messages composed from
a carrier's records, runs, stop tests, grants, run failures, attempts and offers. -/

namespace Sys2Proof.Machine

/-! ## Distance and permitted speed (R55 to R59) -/

/-- The integer square root by its bits from the highest: the root of `n` found so far is `r`. -/
def isqrtFrom : Nat → Nat → Nat → Nat
  | 0, _, r => r
  | b + 1, n, r => if (r + 2 ^ b) * (r + 2 ^ b) ≤ n then isqrtFrom b n (r + 2 ^ b) else isqrtFrom b n r

/-- The integer square root rounded down, for n below 2^64 (Conventions 4.3). -/
def isqrt (n : Nat) : Nat := isqrtFrom 32 n 0

/-- The distance contribution of a cell: its length, or one place of a LANE (R55). -/
def CellStatic.contribution (x : CellStatic) : Nat :=
  match x.kind with
  | .lane => x.length / x.capacity.getD 1
  | .track => x.length
  | .junction => x.length
  | .portal => x.length
  | .dock => x.length

/-- The distance contribution of a cell by its number. -/
def MapStore.contribution (m : MapStore) (x : Nat) : Nat := ((Table.find m.cells x).map CellStatic.contribution).getD 0

/-- A class record that no MAP-CLASS has defined. -/
def ClassRec.undefined : ClassRec :=
  { decel := 0, margin := 0, vmax := 0, hmax := 0, priority := 0, allowance := 0, silence := 0, lost := 0 }

/-- The class of a carrier (R7, R82). -/
def MapStore.classOf (m : MapStore) (k : Context) : ClassRec := Table.at m.classes ClassRec.undefined k.cls

/-- The step entries ahead of a carrier's front step (R49, R55). -/
def Context.ahead (k : Context) : List Held :=
  k.held.filter (fun h => match h.step with
    | some j => decide (k.front < j)
    | none => false)

/-- The granted distance G, saturating at 65535 mm (R55). -/
def Context.granted (k : Context) : Nat := min Config.distanceMax (k.ahead.map Held.distance).sum

/-- The count of steps ahead (R49). -/
def Context.countAhead (k : Context) : Nat := k.ahead.length

/-- The required distance Dreq (R56). -/
def requiredDistance (cls : ClassRec) (requested : Nat) : Nat :=
  let v := requested * 10
  cls.margin + (v * v + (2 * cls.decel - 1)) / (2 * cls.decel)

/-- The braking-feasible speed S, in mm/s (R57). -/
def brakingSpeed (cls : ClassRec) (granted : Nat) : Nat :=
  if granted ≤ cls.margin then 0 else isqrt (2 * cls.decel * (granted - cls.margin))

/-- The speed limits, in units, of the cells a carrier holds (R58). -/
def heldLimits (m : MapStore) (k : Context) : List Nat :=
  k.held.filterMap (fun h => (Table.find m.cells h.cell).map CellStatic.limit)

/-- The step caps, in units, of the step entries a carrier holds; a cap of 0 is no cap (R58). -/
def heldCaps (v : Run) (c : Nat) : List Nat :=
  ((v.ctx c).held.filterMap (fun h => h.step.bind (v.step c))).filterMap
    (fun s => if s.cap = 0 then none else some s.cap)

/-- The permitted speed P of a carrier, in units (R58). -/
def permittedSpeed (e : Setting) (v : Run) (c : Nat) : Nat :=
  let k := v.ctx c
  let cls := e.map.classOf k
  ((heldLimits e.map k ++ heldCaps v c).map (· * 10)).foldl min
    (min (brakingSpeed cls k.granted) (cls.vmax * 10)) / 10

/-- The authority end of a carrier (R59). -/
def Context.authorityEnd (k : Context) : Nat := ((k.held.filterMap Held.step).getLast?).getD k.front

/-! ## Messages (R60 to R62) -/

/-- The block reason a message carries; a RUNNING carrier's is never absent when a reply is composed (R60, log entry
9). -/
def Context.reason (k : Context) : Reason := k.blockReason.getD .fetch

/-- Whether a block reason is answered AUTH (R60). -/
def Reason.isAuth : Reason → Bool
  | .none => true
  | .horizon => true
  | .routeEnd => true
  | .hold => true
  | .cell => false
  | .order => false
  | .fetch => false
  | .device => false
  | .noRoute => false

/-- The current reply to a RUNNING carrier: AUTH or WAIT with its records as they stand (R60). -/
def currentReply (e : Setting) (v : Run) (c : Nat) : Payload :=
  let k := v.ctx c
  if k.reason.isAuth then .auth k.authorityEnd (permittedSpeed e v c) k.reason
  else .wait k.authorityEnd (permittedSpeed e v c) k.reason

/-- An AUTH notice with a carrier's records as they stand (R61). -/
def authNotice (e : Setting) (v : Run) (c : Nat) : Payload :=
  .auth (v.ctx c).authorityEnd (permittedSpeed e v c) (v.ctx c).reason

/-- An AUTH notice queued for a carrier (R61). -/
def sendNotice (e : Setting) (v : Run) (c : Nat) : Run := send v c (authNotice e v c)

/-- A WAIT reply made without an attempt: permitted speed 0 (R60, R86). -/
def sendWait (v : Run) (c : Nat) (r : Reason) : Run := send v c (.wait (v.ctx c).authorityEnd 0 r)

/-- A STOP with a carrier's stop cause; none where the carrier has no cause (R93, R164). -/
def sendStop (v : Run) (c : Nat) : Run :=
  match (v.ctx c).stopCause with
  | some cause => send v c (.stop cause)
  | none => v

/-! ## Runs and stop tests (R47 to R52) -/

/-- The run from step `j`: cells with their step indices up to the first standing step, where all of them are in the
window (R47, R52). -/
def collectRun (e : Setting) (v : Run) (c : Nat) : Nat → Nat → Option (List (Nat × Nat))
  | 0, _ => none
  | n + 1, j =>
    match v.step c j with
    | none => none
    | some s =>
      if e.map.standing s.cell then some [(s.cell, j)]
      else (collectRun e v c n (j + 1)).map ((s.cell, j) :: ·)

/-- The next run of a carrier, where the whole of it is in the window (R52). -/
def nextRun (e : Setting) (v : Run) (c : Nat) : Option (List (Nat × Nat)) :=
  collectRun e v c Config.windowMax (v.ctx c).grantMark

/-- The first step of a run whose cell an earlier step of the run has (R47). -/
def repeatedCell : List Nat → List (Nat × Nat) → Option (Nat × Nat)
  | _, [] => none
  | seen, (x, j) :: rest => if seen.contains x then some (x, j) else repeatedCell (x :: seen) rest

/-- Test 2 of R48: the route is exhausted, or cut short of the grant mark (R51). -/
def Context.atRouteEnd (k : Context) : Bool :=
  k.stepCount == some k.grantMark ||
    (match k.cutPoint with
      | some cut => decide (cut < k.grantMark)
      | none => false)

/-- Whether step `j` of a carrier's route is a HOLD step in its window (R50). -/
def Run.isHold (v : Run) (c j : Nat) : Bool := ((v.step c j).map Slot.hold).getD false

/-- The LANE a carrier holds at the step before its grant mark (R48, R74). -/
def laneBefore (e : Setting) (v : Run) (c : Nat) : Option Nat :=
  let k := v.ctx c
  ((k.held.find? (fun h => h.step == some (k.grantMark - 1))).map Held.cell).filter (fun x => e.map.isLane x)

/-- Test 5 of R48: a holder of the lane at the step before the grant mark that is not its oldest. -/
def behindInLane (e : Setting) (v : Run) (c : Nat) : Bool :=
  match laneBefore e v c with
  | some x => (v.cell x).holders.contains c && (v.cell x).holders.head? != some c
  | none => false

/-- The stop tests of R48 in their order: the block reason of the first that is met. -/
def stopTest (e : Setting) (v : Run) (c : Nat) : Option Reason :=
  let k := v.ctx c
  let cls := e.map.classOf k
  if requiredDistance cls k.requested ≤ k.granted then some .none
  else if k.atRouteEnd then some .routeEnd
  else if v.isHold c (k.grantMark - 1) && !k.holdLifted then some .hold
  else if cls.hmax ≤ k.countAhead then some .horizon
  else if behindInLane e v c then some .order
  else if (nextRun e v c).isNone then some .fetch
  else none

/-! ## Grants (R26 to R28, R53) -/

/-- The first cell of a run that is not grantable, with its step, block cause and edge (R26). -/
def firstFailing (e : Setting) (v : Run) (c : Nat) : List (Nat × Nat) → Option ((Nat × Nat) × BlockCause × Option Nat)
  | [] => none
  | (x, j) :: rest =>
    match grantTest e v c x j with
    | some (b, t) => some ((x, j), b, t)
    | none => firstFailing e v c rest

/-- One cell of a granted run: the carrier at the tail of its holder list, the reservation for it removed, and an
entry in the held list (R27). -/
def grantCell (e : Setting) (c : Nat) (v : Run) (p : Nat × Nat) : Run :=
  let r := v.cell p.1
  let mine := r.reservedFor == some c
  let v := v.setCell p.1 { r with
    holders := r.holders ++ [c], reservedFor := if mine then none else r.reservedFor }
  let v := if mine then v.setReservations c ((v.reservations c).filter (fun q => q.1 != p.1)) else v
  v.modCtx c (fun k => { k with
    held := k.held ++ [{ cell := p.1, step := some p.2, distance := e.map.contribution p.1 }] })

/-- The reports of a grant to the corridor unit and the gate unit for one cell (R28). -/
def grantReport (e : Setting) (c : Nat) (v : Run) (p : Nat × Nat) : Run :=
  let v := match e.map.corridorOf p.1 with
    | some (k, position) =>
      if (v.corridor k).occupants.contains c then v else corridorEnter e v k position c
    | none => v
  match e.map.gateOf p.1 with
  | some g => gateBusy v g
  | none => v

/-- A run granted whole (R27, R28), with the changes of R53 to the carrier's grant mark and hold lifted flag. -/
def grantRun (e : Setting) (v : Run) (c : Nat) (run : List (Nat × Nat)) : Run :=
  let v := run.foldl (grantCell e c) v
  let v := leaveWaiting e v c
  let v := v.modCtx c (fun k => { k with
    passOver := 0, grantMark := k.grantMark + run.length, holdLifted := false })
  let v := (run.map Prod.fst).foldl (recompute e) v
  run.foldl (grantReport e c) v

/-! ## Run failures (R29, R30, R32, R33) -/

/-- The free run cells of a failed run: its cells other than the failing one that are grantable now (R32). -/
def freeRunCells (e : Setting) (v : Run) (c y : Nat) (run : List (Nat × Nat)) : List (Nat × Nat) :=
  run.filter (fun p => p.1 != y && (grantTest e v c p.1 p.2).isNone)

/-- The pass-over count after a run failure, and the reservations it leads to (R32, R33). -/
def passOver (e : Setting) (v : Run) (c y : Nat) (run : List (Nat × Nat)) : Run :=
  let free := freeRunCells e v c y run
  if free.isEmpty then v
  else
    let count := min Config.passOverMax ((v.ctx c).passOver + 1)
    let v := v.modCtx c (fun k => { k with passOver := count })
    if count = Config.passOverMax then free.foldl (reserve e c) v else v

/-- Steps 1 and 2 of R29: a carrier leaves another cell's queue and stands in the queue of cell `y`. `taken` is the
cell whose offer took the carrier out of its queue for this attempt. -/
def placeWaiter (e : Setting) (v : Run) (c y j : Nat) (cause : BlockCause) (taken : Option Nat) : Run :=
  let w : Waiter :=
    { carrier := c, priority := (e.map.classOf (v.ctx c)).priority, step := j, cause := cause }
  if v.queueOf c = some y then
    v.setCell y { v.cell y with queue := (v.cell y).queue.map (fun o => if o.carrier = c then { w with priority := o.priority } else o) }
  else
    let v := if (v.queueOf c).isSome then leaveQueue e v c else v
    let v := if taken = some y ∧ v.records.seniority.contains c then v else v.joinSeniority c
    let first := (v.cell y).queue.isEmpty
    let v := v.setCell y { v.cell y with queue := insertWaiter v.records.seniority w (v.cell y).queue }
    if first then queueFilled e v y else v

/-- Step 3 of R29: the wait record for cell `y`; the edge is left for step 4. -/
def recordWait (e : Setting) (v : Run) (c y : Nat) (kept : Bool) : Run :=
  v.modCtx c (fun k => { k with wait := some {
    reason := .cell, cell := y,
    since := match k.wait with
      | some w => if kept then w.since else e.tick
      | none => e.tick,
    edge := k.wait.bind WaitRec.edge } })

/-- The block cause and the edge recorded with a failure at cell `y`, from those of the first failing condition (R25): a
run that fails for CAPACITY at the portal of a DRAINING gate, whose holders keep it, or of a gate in FAULT is recorded
with cause GATE, which has no edge (R127, R129; log entry 27). -/
def recordedFailure (e : Setting) (v : Run) (y : Nat) (cause : BlockCause) (target : Option Nat) :
    BlockCause × Option Nat :=
  match e.map.gateOf y with
  | none => (cause, target)
  | some g =>
    if cause = .capacity ∧ (v.gateState g = .draining ∨ v.gateState g = .fault) then (.gate, none) else (cause, target)

/-- A run of a carrier fails at cell `y`, step `j` (R29, R30). -/
def runFails (e : Setting) (v : Run) (c : Nat) (run : List (Nat × Nat)) (y j : Nat) (cause : BlockCause)
    (target taken : Option Nat) : Run :=
  let kept := decide (v.queueOf c = some y) || decide (taken = some y)
  let v := placeWaiter e v c y j cause taken
  let v := recordWait e v c y kept
  let v := setEdge e v c target
  let v := passOver e v c y run
  let v := match e.map.gateOf y with
    | some g => v.later [.gateCall g]
    | none => v
  if cause = .corridor then
    match e.map.corridorOf y with
    | some (k, _) => corridorFailed e v k c
    | none => v
  else v

/-! ## Extension attempts (R45 to R54) -/

/-- Whether an extension attempt for a carrier is made: ACTIVE, RUNNING and LIVE (R45). -/
def attemptAllowed (e : Setting) (v : Run) (c : Nat) : Bool :=
  e.op == .active && (v.ctx c).state == .running && (v.ctx c).contact == .live

/-- The start of an extension attempt, where it is made (R45, R46). -/
def attemptStart (e : Setting) (v : Run) (c : Nat) (after : After) : Run :=
  if attemptAllowed e v c then
    match after with
    | .offered _ _ => v.later [.round c false after]
    | .reply => { v with deferring := true }.later [.round c false after, .openDeferred]
    | .noticeAndReply => { v with deferring := true }.later [.round c false after, .openDeferred]
    | .noticeAlways => { v with deferring := true }.later [.round c false after, .openDeferred]
    | .noticeIfGranted => { v with deferring := true }.later [.round c false after, .openDeferred]
  else
    match after with
    | .offered x left => v.later [.offerNext x left]
    | .reply => v
    | .noticeAndReply => v
    | .noticeAlways => v
    | .noticeIfGranted => v

/-- The cell whose offer took the carrier, while no run of the attempt has been granted (R29, R39). -/
def takenFrom (granted : Bool) : After → Option Nat
  | .offered x _ => if granted then none else some x
  | .reply => none
  | .noticeAndReply => none
  | .noticeAlways => none
  | .noticeIfGranted => none

/-- One round of an attempt that is still allowed: the stop tests, then the next run is asked for (R48, R53). -/
def attemptRound (e : Setting) (v : Run) (c : Nat) (granted : Bool) (after : After) : Run :=
  if ¬attemptAllowed e v c then v
  else match stopTest e v c with
  | some reason => v.later [.attemptEnd c reason granted after]
  | none =>
    let run := (nextRun e v c).getD []
    match repeatedCell [] run with
    | some (y, j) =>
      (runFails e v c run y j .selfHeld none (takenFrom granted after)).later [.attemptEnd c .cell granted after]
    | none =>
      match firstFailing e v c run with
      | some ((y, j), cause, target) =>
        let f := recordedFailure e v y cause target
        (runFails e v c run y j f.1 f.2 (takenFrom granted after)).later [.attemptEnd c .cell granted after]
      | none => (grantRun e v c run).later [.round c true after]

/-- The wait record and edge of a carrier stopped by its order in a lane (R74). -/
def waitInLane (e : Setting) (v : Run) (c x : Nat) : Run :=
  let v := leaveQueue e v c
  let v := v.modCtx c (fun k => { k with wait := some {
    reason := .order, cell := x,
    since := match k.wait with
      | some w => if w.reason = .order ∧ w.cell = x then w.since else e.tick
      | none => e.tick,
    edge := k.wait.bind WaitRec.edge } })
  setEdge e v c (aheadIn (v.cell x).holders c)

/-- The wait state settled to match the block reason an attempt ends with (R54). -/
def settleWait (e : Setting) (v : Run) (c : Nat) (reason : Reason) : Run :=
  match reason with
  | .cell => v
  | .order =>
    match laneBefore e v c with
    | some x => waitInLane e v c x
    | none => v
  | .none => leaveWaiting e v c
  | .horizon => leaveWaiting e v c
  | .routeEnd => leaveWaiting e v c
  | .hold => leaveWaiting e v c
  | .fetch => leaveWaiting e v c
  | .device => leaveWaiting e v c
  | .noRoute => leaveWaiting e v c

/-- The end of an extension attempt: the block reason recorded, the wait state settled (R54), the message of R45's
table, and the fetch trigger where a run was granted (R110). -/
def attemptEnd (e : Setting) (v : Run) (c : Nat) (reason : Reason) (granted : Bool) (after : After) : Run :=
  let v := settleWait e (v.modCtx c (fun k => { k with blockReason := some reason })) c reason
  let v := match after with
    | .reply => send v c (currentReply e v c)
    | .noticeAndReply =>
      let v := sendNotice e v c
      send v c (currentReply e v c)
    | .noticeAlways => sendNotice e v c
    | .noticeIfGranted => if granted then sendNotice e v c else v
    | .offered _ _ => if granted then sendNotice e v c else v
  let v := if granted then fetchTrigger v c else v
  match after with
  | .offered x left =>
    (if (v.cell x).queue.isEmpty then queueEmptied e v x else v).later [.offerNext x left]
  | .reply => v
  | .noticeAndReply => v
  | .noticeAlways => v
  | .noticeIfGranted => v

/-- The attempt or the offer in progress has ended: the gates that became OPEN in it make the rest of their opening
(R126). -/
def openDeferred (v : Run) : Run :=
  { v with deferring := false, deferred := [] }.later (v.deferred.map .gateOpened)

/-! ## Offers (R38, R39) -/

/-- The start of an offer; while the controller is not ACTIVE it ends without taking any waiter (R38). The gates that
open in it make the rest of their opening at its end, before what was waiting behind the offer (log entry 16). -/
def offerStart (e : Setting) (v : Run) (x : Nat) : Run :=
  if e.op = .active then
    { v with deferring := true }.later [.offerNext x ((v.cell x).queue.map Waiter.carrier), .openDeferred]
  else v

/-- The next original waiter of an offer, taken out of the queue for an attempt where the cell is grantable to it
(R39). -/
def offerNext (e : Setting) (v : Run) (x : Nat) (left : List Nat) : Run :=
  match (v.cell x).queue.find? (fun w => left.contains w.carrier) with
  | none => v
  | some w =>
    match grantTest e v w.carrier x w.step with
    | some _ => v
    | none => (v.takeFrom x w.carrier).later [.attempt w.carrier (.offered x (left.erase w.carrier))]

end Sys2Proof.Machine
end

