-- ==== Sys2Proof/Machine/Carriers.lean ====
section
/-! DEFINITION. Machine/Carriers.lean: the carrier table (Chapter 5): halting, trims, the ends and starts of routes,
contact, and the handling of carrier requests. -/

namespace Sys2Proof.Machine

/-! ## Leaving RUNNING and halting (R93) -/

/-- What a RUNNING carrier gives up when it leaves RUNNING or goes SILENT: its queue place, its pass-over count, its
reservations and its turn (R24, R32, R34, R71). -/
def giveUpClaims (e : Setting) (v : Run) (c : Nat) : Run :=
  ((leaveWaiting e v c).modCtx c (fun k => { k with passOver := 0 })).later [.clearReservations c, .cancelTurns c]

/-- A halt request (R93). -/
def halt (e : Setting) (v : Run) (c : Nat) (cause : StopCause) : Run :=
  let k := v.ctx c
  match k.state with
  | .running =>
    let v := v.modCtx c (fun k => { k with state := .halting, stopCause := some cause })
    (giveUpClaims e v c).later [.stopNotice c]
  | .halting =>
    if k.stopCause = some .allStop ∧ cause ≠ .allStop then v.modCtx c (fun k => { k with stopCause := some cause })
    else v
  | .stopped =>
    if k.stopCause = some .allStop ∧ cause = .gate then
      (v.modCtx c (fun k => { k with stopCause := some .gate })).raise .stopped
    else v
  | .vacant => v
  | .idle => v
  | .attached => v

/-- A carrier becomes STOPPED with a cause, untrimmed, with the STOPPED alert (R94, R96, R101). -/
def becomeStopped (v : Run) (c : Nat) (cause : StopCause) : Run :=
  (v.modCtx c (fun k => { k with state := .stopped, stopCause := some cause })).raise .stopped

/-! ## Trim (R95) -/

/-- Whether a step entry lies outside a range of steps; a resting entry does not. -/
def Held.outside (h : Held) (low high : Nat) : Bool :=
  match h.step with
  | some j => decide (j < low) || decide (high < j)
  | none => false

/-- A trim to the recorded rear and front steps (R95); the consequences of the release are left as work. -/
def trim (e : Setting) (v : Run) (c : Nat) : Run :=
  let k := v.ctx c
  let v := release e v c (k.held.filter (fun h => h.outside k.rear k.front))
  v.modCtx c (fun k => { k with grantMark := k.front + 1, holdLifted := false })

/-! ## The end of a route (R85) -/

/-- Whether a held entry is kept when a route ends with a result: at COMPLETE the entry of the last step alone (R91);
otherwise the step entries from rear to front, and resting entries (R85, R89, R95, R98; log entry 14). -/
def keptAtEnd (k : Context) (result : RouteResult) (h : Held) : Bool :=
  match result with
  | .complete => h.step == some k.front
  | .detached => !h.outside k.rear k.front
  | .stepFault => !h.outside k.rear k.front
  | .header => !h.outside k.rear k.front
  | .bus => !h.outside k.rear k.front
  | .retired => !h.outside k.rear k.front

/-- Whether an entry is a step entry within a range of steps. -/
def Held.inside (h : Held) (low high : Nat) : Bool :=
  match h.step with
  | some j => decide (low ≤ j) && decide (j ≤ high)
  | none => false

/-- Step 1 of R85 for an ending that keeps the entries `kept`, with the rest of the ending left as work after the
release. -/
def routeEndKeeping (e : Setting) (v : Run) (c : Nat) (result : RouteResult) (kept : Held → Bool) : Run :=
  (release e v c ((v.ctx c).held.filter (fun h => !kept h))).later [.routeEndRest c result]

/-- The end of a route with the entries its result keeps (R85). -/
def routeEnd (e : Setting) (v : Run) (c : Nat) (result : RouteResult) : Run :=
  routeEndKeeping e v c result (keptAtEnd (v.ctx c) result)

/-- The end of a route that keeps the entries from the rear step to the front step and no other: for want of a usable cut
point (R117, R118), and by the DETACH of a carrier that has come to rest (R96). -/
def rangeEnd (e : Setting) (v : Run) (c : Nat) (result : RouteResult) : Run :=
  let k := v.ctx c
  routeEndKeeping e v c result (fun h => h.inside k.rear k.front)

/-- The step index a route has reached: the front step, or 0 when the route has not started (R85, R106). -/
def Context.stepReached (k : Context) : Nat := if k.state = .attached then 0 else k.front

/-- The write-back of a route's result joins the engine queue (R119); none where no route is attached. -/
def queueWriteBack (v : Run) (c : Nat) (result : RouteResult) : Run :=
  let k := v.ctx c
  match k.routeAddr with
  | some a => v.setEngine (v.records.engine.enqueue (.writeBack c a result k.stepReached k.used k.generation))
  | none => v

/-- A context whose route has ended with a result: steps 2, 4, 5 and 6 of R85. -/
def Context.endRoute (k : Context) (result : RouteResult) : Context :=
  let front := (k.held.find? (fun h => h.step == some k.front)).map Held.cell
  { k with
    held := k.held.map (fun h => { h with step := none })
    lastResult := some result
    routeAddr := none, routeTag := none, stepCount := none, cutPoint := none, cutResult := none, faultStep := none
    nextStep := 0, windowCount := 0, validation := none
    frontCell := front.getD k.frontCell
    front := 0, rear := 0, grantMark := 1
    blockReason := none, stopCause := none, holdLifted := false
    state := .idle }

/-- Steps 2 to 7 of R85, for an enrolled carrier. -/
def routeEndRest (e : Setting) (v : Run) (c : Nat) (result : RouteResult) : Run :=
  if (v.ctx c).state = .vacant then v
  else
    let wasRunning := (v.ctx c).state == .running
    let v := queueWriteBack v c result
    let v := v.setEngine (v.records.engine.dropFetch c)
    let v := clearWait e (v.modCtx c (fun k => k.endRoute result)) c
    let v := if wasRunning then giveUpClaims e v c else v
    v.raise .routeEnd

/-! ## The start of a route (R43, R84) -/

/-- The route starting values of R43: the resting entry on the cell of step 0 becomes the step-0 entry. -/
def Context.startRoute (k : Context) : Context :=
  let isFirst := fun (h : Held) => h.step.isNone && h.cell == k.frontCell
  { k with
    front := 0, rear := 0, grantMark := 1, holdLifted := false, blockReason := none
    held := k.held.map (fun h => if isFirst h then { h with step := some 0 } else h) }

/-- The start of a route whose step 0 has been read and is valid (R84). -/
def routeStart (e : Setting) (v : Run) (c : Nat) : Run :=
  let v := v.modCtx c Context.startRoute
  match (v.ctx c).contact, e.op with
  | .lost, _ => (becomeStopped v c .lost).later [.stopNotice c]
  | .live, .active => (v.modCtx c (fun k => { k with state := .running })).later [.attempt c .noticeAlways]
  | .silent, .active => v.modCtx c (fun k => { k with state := .running })
  | .live, _ => (v.modCtx c (fun k => { k with state := .stopped, stopCause := some .allStop })).later [.stopNotice c]
  | .silent, _ => (v.modCtx c (fun k => { k with state := .stopped, stopCause := some .allStop })).later [.stopNotice c]

/-! ## Resuming, recovering, retiring (R98, R99, R102) -/

/-- A STOPPED carrier whose stop cause is ALL-STOP is resumed when the controller is ACTIVE again (R102). -/
def resume (e : Setting) (v : Run) (c : Nat) : Run :=
  let k := v.ctx c
  if e.op = .active ∧ k.state = .stopped ∧ k.stopCause = some .allStop then
    (v.modCtx c (fun k => { k with state := .running, stopCause := none, silence := 0 })).later
      [.attempt c .noticeAlways, .fetchTrigger c]
  else v

/-- Steps 2 and 3 of RECOVER (R98). -/
def recoverRest (e : Setting) (v : Run) (c : Nat) : Run :=
  if e.op = .active ∧ (v.ctx c).state = .stopped then
    (v.modCtx c (fun k => { k with
      allowance := (e.map.classOf k).allowance, contact := .live, silence := 0, stopCause := none,
      state := .running })).later [.attempt c .noticeAlways, .fetchTrigger c]
  else v

/-- Step 2 of RETIRE: every held entry is released, rear first (R99). -/
def retireRelease (e : Setting) (v : Run) (c : Nat) : Run := release e v c (v.ctx c).held

/-- The VACANT values that RETIRE and RESTART give a context: class and generation are kept (R103). -/
def Context.vacated (k : Context) : Context := { Context.vacant with cls := k.cls, generation := k.generation }

/-- Steps 3 to 7 of RETIRE (R99), made when steps 1 and 2 have left the carrier in no queue, with no reservation and
with an empty held list. -/
def retireRest (v : Run) (c : Nat) : Run :=
  if (v.ctx c).held.isEmpty && (v.queueOf c).isNone && (v.reservations c).isEmpty then
    let v := v.setEngine (v.records.engine.dropFetch c)
    let v := queueWriteBack v c .retired
    let v := removeMessages v c
    let v := v.retireMark c
    v.modCtx c Context.vacated
  else v

/-! ## Carrier requests (R86 to R97) -/

/-- The cut-route test of R89. -/
def Context.atCut (k : Context) (speed : Nat) : Bool := k.cutPoint == some k.front && speed == 0

/-- The ending of a cut route at its cut point, with its reply (R89). -/
def cutEnd (e : Setting) (v : Run) (c : Nat) : Run :=
  (routeEnd e v c ((v.ctx c).cutResult.getD .stepFault)).later [.waitReply c .noRoute]

/-- What follows the release of an accepted PASS of a RUNNING carrier (R88). -/
def passRest (e : Setting) (v : Run) (c speed : Nat) : Run :=
  if (v.ctx c).atCut speed then cutEnd e v c else v.later [.attempt c .reply, .fetchTrigger c]

/-- What follows the release of an accepted PASS of a HALTING carrier, and any report of its speed: a trim where the
speed is 0, and the reply (R94). -/
def haltingRest (e : Setting) (v : Run) (c speed : Nat) : Run :=
  if speed = 0 then (trim e v c).later [.haltingExit c] else v.later [.stopNotice c]

/-- A carrier leaves HALTING after the trim of a zero-speed report, with the reply to the frame (R96); a return to
RUNNING from ALL-STOP has its AUTH notice as well (R45, R61; log entry 29). -/
def haltingExit (e : Setting) (v : Run) (c : Nat) : Run :=
  if (v.ctx c).state = .halting then
    match (v.ctx c).stopCause with
    | some .detach => (rangeEnd e v c .detached).later [.waitReply c .noRoute]
    | some .allStop =>
      if e.op = .active then
        (v.modCtx c (fun k => { k with state := .running, stopCause := none, silence := 0 })).later
          [.attempt c .noticeAndReply, .fetchTrigger c]
      else (v.modCtx c (fun k => { k with state := .stopped })).later [.stopNotice c]
    | some cause => (becomeStopped v c cause).later [.stopNotice c]
    | none => v.later [.stopNotice c]
  else v

/-- How a PASS is sorted (R87). -/
inductive PassSort where
  | stale
  | overrun
  | inconsistent
  | accepted
  deriving DecidableEq, Repr

/-- The sorting of a PASS with front step `f`, rear step `r` and front cell `x` (R87). -/
def sortPass (v : Run) (c f r x : Nat) : PassSort :=
  let k := v.ctx c
  if f < k.front then .stale
  else if k.grantMark ≤ f then .overrun
  else if (v.step c f).map Slot.cell ≠ some x ∨ f < r ∨ 2 < f - r ∨ r < k.rear then .inconsistent
  else .accepted

/-- Steps 1 and 2 of R88: the position moves, and the track behind it is released. -/
def movePosition (e : Setting) (v : Run) (c f r x : Nat) : Run :=
  let v := v.modCtx c (fun k => { k with front := f, rear := r, frontCell := x })
  release e v c ((v.ctx c).held.filter (fun h => match h.step with
    | some j => decide (j < r)
    | none => true))

/-- The current reply, after an extension attempt where the frame found contact SILENT (R60, R100). -/
def replyAfterRestore (e : Setting) (v : Run) (c : Nat) (wasSilent : Bool) : Run :=
  if wasSilent then v.later [.attempt c .reply, .fetchTrigger c] else send v c (currentReply e v c)

/-- One unit of fault allowance charged, and the reply to the frame (R92). -/
def charge (e : Setting) (v : Run) (c : Nat) (wasSilent : Bool) : Run :=
  let v := v.modCtx c (fun k => { k with allowance := k.allowance - 1, used := min 255 (k.used + 1) })
  if (v.ctx c).allowance = 0 then v.later [.halt c .faults] else replyAfterRestore e v c wasSilent

/-- A carrier's last reported speed recorded. -/
def Run.recordSpeed (v : Run) (c speed : Nat) : Run := v.modCtx c (fun k => { k with lastSpeed := speed })

/-- A carrier's requested speed stored, clamped to its class top speed (R44). -/
def recordRequest (e : Setting) (v : Run) (c requested : Nat) : Run :=
  v.modCtx c (fun k => { k with requested := min requested (e.map.classOf k).vmax })

/-- A PASS from a RUNNING carrier (R87, R88). -/
def runningPass (e : Setting) (v : Run) (c f r x speed : Nat) (wasSilent : Bool) : Run :=
  match sortPass v c f r x with
  | .stale => replyAfterRestore e v c wasSilent
  | .overrun => ((v.recordSpeed c speed).raise .overrun).later [.halt c .overrun]
  | .inconsistent => charge e (v.recordSpeed c speed) c wasSilent
  | .accepted => (movePosition e (v.recordSpeed c speed) c f r x).later [.passRest c speed]

/-- An ASK from a RUNNING carrier (R90). -/
def runningAsk (e : Setting) (v : Run) (c f speed requested : Nat) (resume : Bool) : Run :=
  let v := (recordRequest e v c requested).recordSpeed c speed
  let atFront := f == (v.ctx c).front
  let v := if resume && atFront && v.isHold c (v.ctx c).front then v.modCtx c (fun k => { k with holdLifted := true })
    else v
  if atFront && (v.ctx c).atCut speed then cutEnd e v c else v.later [.attempt c .reply, .fetchTrigger c]

/-- Whether a DONE completes the route (R91). -/
def Context.arrived (k : Context) (f speed : Nat) : Bool :=
  match k.stepCount with
  | some n => f + 1 == n && k.front + 1 == n && k.rear + 1 == n && speed == 0
  | none => false

/-- A DONE from a RUNNING carrier (R91). -/
def runningDone (e : Setting) (v : Run) (c f speed : Nat) (wasSilent : Bool) : Run :=
  let v := v.recordSpeed c speed
  if (v.ctx c).arrived f speed then (routeEnd e v c .complete).later [.waitReply c .noRoute]
  else charge e v c wasSilent

/-- The overrun of a HALTING carrier: the alert, and STOPPED untrimmed where the speed is 0 (R94). -/
def haltingOverrun (v : Run) (c speed : Nat) : Run :=
  let v := v.raise .overrun
  let v := if speed = 0 then becomeStopped v c .overrun else v
  v.later [.stopNotice c]

/-- A PASS from a HALTING carrier (R94). -/
def haltingPass (e : Setting) (v : Run) (c f r x speed : Nat) : Run :=
  match sortPass v c f r x with
  | .stale => v.later [.stopNotice c]
  | .overrun => haltingOverrun (v.recordSpeed c speed) c speed
  | .inconsistent => (v.recordSpeed c speed).later [.haltingRest c speed]
  | .accepted => (movePosition e (v.recordSpeed c speed) c f r x).later [.haltingRest c speed]

/-- An ASK from a HALTING carrier (R94). -/
def haltingAsk (e : Setting) (v : Run) (c f speed requested : Nat) : Run :=
  let v := (recordRequest e v c requested).recordSpeed c speed
  if speed = 0 ∧ (v.ctx c).grantMark ≤ f then
    (becomeStopped (v.raise .overrun) c .overrun).later [.stopNotice c]
  else v.later [.haltingRest c speed]

/-- A DONE from a HALTING carrier (R94). -/
def haltingDone (v : Run) (c speed : Nat) : Run := (v.recordSpeed c speed).later [.stopNotice c]

/-- A good frame sets contact LIVE and the silence counter to 0 (R86). -/
def restoreContact (v : Run) (c : Nat) : Run := v.modCtx c (fun k => { k with contact := .live, silence := 0 })

/-- The request of a RUNNING carrier in ACTIVE, by its kind (R86). -/
def runningRequest (e : Setting) (v : Run) (c : Nat) (q : Request) (wasSilent : Bool) : Run :=
  match q with
  | .ask f speed requested resume => runningAsk e v c f speed requested resume
  | .pass f r x speed => runningPass e v c f r x speed wasSilent
  | .done f speed => runningDone e v c f speed wasSilent

/-- The request of a HALTING carrier, by its kind (R94). -/
def haltingRequest (e : Setting) (v : Run) (c : Nat) (q : Request) : Run :=
  match q with
  | .ask f speed requested _ => haltingAsk e v c f speed requested
  | .pass f r x speed => haltingPass e v c f r x speed
  | .done _ speed => haltingDone v c speed

/-- A good frame handed to the carrier table, after the home link step (R86). A combination the part does not reach
is answered as its row gives for the nearest state (log entry 9). -/
def carrierRequest (e : Setting) (v : Run) (c : Nat) (q : Request) : Run :=
  let wasSilent := (v.ctx c).contact == .silent
  let v := restoreContact v c
  match (v.ctx c).state with
  | .vacant => v
  | .idle => sendWait v c (if e.op = .active then .noRoute else .device)
  | .attached => sendWait v c (if e.op = .active then .fetch else .device)
  | .running => if e.op = .active then runningRequest e v c q wasSilent else sendWait v c .device
  | .halting => haltingRequest e v c q
  | .stopped => sendStop v c

/-- A failed frame on link `l` is discarded and counted (R145). -/
def countFailure (v : Run) (l : Nat) (f : FrameFailure) : Run := v.setLink l ((v.link l).fail f)

/-- A frame that has passed checks 1 to 5 completes on link `l`: check 6, the home link, and the hand-over (R144,
R147, R148). -/
def frameArrives (e : Setting) (v : Run) (l c : Nat) (q : Request) : Run :=
  if (v.ctx c).state = .vacant then countFailure v l .device else carrierRequest e (setHome v c l) c q

/-! ## Contact (R100, R101) -/

/-- The silence counter runs in ATTACHED, RUNNING and HALTING (R100). -/
def CarrierState.counts : CarrierState → Bool
  | .vacant => false
  | .idle => false
  | .attached => true
  | .running => true
  | .halting => true
  | .stopped => false

/-- A carrier's silence counter has reached its class silence limit (R100). -/
def silenceReached (e : Setting) (v : Run) (c : Nat) : Run :=
  let k := v.ctx c
  if k.state.counts && k.contact == .live && decide ((e.map.classOf k).silence ≤ k.silence) then
    let v := v.modCtx c (fun k => { k with contact := .silent })
    if k.state = .running then giveUpClaims e v c else v
  else v

/-- A carrier's silence counter has reached its class lost limit (R101). -/
def lostReached (e : Setting) (v : Run) (c : Nat) : Run :=
  let k := v.ctx c
  if k.state.counts && k.contact != .lost && decide ((e.map.classOf k).lost ≤ k.silence) then
    let v := v.modCtx c (fun k => { k with contact := .lost })
    match k.state with
    | .running => (giveUpClaims e (becomeStopped v c .lost) c).later [.stopNotice c]
    | .halting => (becomeStopped v c .lost).later [.stopNotice c]
    | .attached => v
    | .vacant => v
    | .idle => v
    | .stopped => v
  else v

end Sys2Proof.Machine
end

