-- ==== Sys2Proof/Machine/Engine.lean ====
section
/-! DEFINITION. Machine/Engine.lean: the route fetch engine (Chapter 6): serving the queue, accepting completions,
checking and appending steps, cuts and bus faults, the result word. -/

namespace Sys2Proof.Machine

/-! ## Formats in supervisor memory (R165) -/

/-- A number of bytes, low byte first, as they lie in supervisor memory (R165). -/
def littleEndian : List Byte → Nat
  | [] => 0
  | b :: rest => b.toNat + 256 * littleEndian rest

/-- `n` bytes from offset `at` of what a read brought; bytes beyond its end read as 0. -/
def field (data : List Byte) (start n : Nat) : Nat := littleEndian ((data.drop start).take n)

/-- A step record (R104, R165). -/
def decodeStep (data : List Byte) : Slot :=
  { cell := field data 0 2 % 2048
    last := (field data 2 1).testBit 0
    hold := (field data 2 1).testBit 1
    cap := field data 3 1 }

/-- The step records of a read's data, in order (R104). -/
def decodeSteps : Nat → List Byte → List Slot
  | 0, _ => []
  | n + 1, data => decodeStep data :: decodeSteps n (data.drop 8)

/-- Whether a header is valid: marker 0x5A31 and a step count in 1..1023 (R105). -/
def headerValid (data : List Byte) : Bool :=
  field data 0 2 == 0x5A31 && decide (1 ≤ field data 2 2) && decide (field data 2 2 ≤ 1023)

/-- The code of a route result in the result word (Data Formats 11.2). -/
def RouteResult.code : RouteResult → BitVec 3
  | .complete => 0
  | .detached => 1
  | .stepFault => 2
  | .header => 3
  | .bus => 4
  | .retired => 5

/-- The result word: written marker, two zero bits, result code, step index reached, allowance used, generation (R106,
R165). -/
def resultWord (result : RouteResult) (step used : Nat) (generation : Byte) : BitVec 32 :=
  1#1 ++ 0#2 ++ result.code ++ BitVec.ofNat 10 step ++ BitVec.ofNat 8 used ++ generation

/-- A four-byte word as it lies in supervisor memory, low byte first (R165). -/
def wordBytes (w : BitVec 32) : List Byte :=
  [w.extractLsb' 0 8, w.extractLsb' 8 8, w.extractLsb' 16 8, w.extractLsb' 24 8]

/-! ## Serving the queue (R111 to R113) -/

/-- Whether the engine may serve the head of its queue (R111). -/
def Engine.free (g : Engine) : Bool := g.inFlight.isNone && !g.perst

/-- Bytes before the next 4 KiB boundary from an address. -/
def toBoundary (a : Address) : Nat := 4096 - a.toNat % 4096

/-- The address of a step record: the route address plus 16 plus 8 times the step (R104, R112), which wraps at 2^64 (DESIGN
CHOICE, unsafe, log entry 32). -/
def stepAddress (a : Address) (s : Nat) : Address := a + BitVec.ofNat 64 (16 + 8 * s)

/-- The step records a step read covers (R112). -/
def stepReadSize (k : Context) (a : Address) : Nat :=
  min (min Config.stepReadLimit k.freeSlots)
    (min (k.stepCount.getD 0 - k.nextStep) (toBoundary (stepAddress a k.nextStep) / 8))

/-- The step records a first read covers beside the header (R113). -/
def firstReadSize (k : Context) (a : Address) : Nat :=
  min (min Config.firstReadLimit k.freeSlots) ((4096 - (a.toNat % 4096 + 16)) / 8)

/-- A read issued for a carrier: the read number increases, the read is in flight and the read timer starts (R111). -/
def issueRead (v : Run) (c : Nat) (first : Bool) (a : Address) (length : Nat) : Run :=
  let g := v.records.engine
  let number := g.readNumber + 1
  v.setEngine { g with
    inFlight := some { carrier := c, generation := (v.ctx c).generation, number := number, first := first,
                       length := length, received := [] }
    timer := some Config.readTicks, due := false, readNumber := number
    lastIssued := some (.read a length number) }

/-- The fetch request at the head of the queue is served (R111 to R113). -/
def serveFetch (v : Run) : Run :=
  let g := v.records.engine
  match g.queue with
  | .fetch c first :: rest =>
    if g.free then
      let v := v.setEngine { g with queue := rest }
      let k := v.ctx c
      let a := k.routeAddr.getD 0
      if first then issueRead v c true a (16 + 8 * firstReadSize k a)
      else issueRead v c false (stepAddress a k.nextStep) (8 * stepReadSize k a)
    else v
  | .writeBack _ _ _ _ _ _ :: _ => v
  | [] => v

/-- The write-back at the head of the queue is served: one posted four-byte write of the result word (R111, R165). -/
def serveWriteBack (v : Run) : Run :=
  let g := v.records.engine
  match g.queue with
  | .writeBack _ a result step used generation :: rest =>
    if g.free then
      v.setEngine { g with
        queue := rest
        lastIssued := some (.write (a + 8) (wordBytes (resultWord result step used generation))) }
    else v
  | .fetch _ _ :: _ => v
  | [] => v

/-! ## Step validation (R115, R116) -/

/-- Whether two cells are neighbours: the relation is symmetric after MAP-END (R3). -/
def MapStore.neighbours (m : MapStore) (x y : Nat) : Bool :=
  match Table.find m.cells x with
  | some k => k.ports.contains (some y)
  | none => false

/-- Lane entry and exit between the step before and the step (R116). -/
def lanesFollow (m : MapStore) (p x : Nat) : Bool :=
  (!m.isLane x || m.entryOf x == some p) && (!m.isLane p || m.exitOf p == some x)

/-- Whether a position is an end position of a corridor. -/
def MapStore.isEnd (m : MapStore) (k position : Nat) : Bool :=
  position == 0 || position + 1 == (m.members k).length

/-- Whether a route travelling in direction `d` may leave corridor `k` from a position: the far end (R116). -/
def leavesFrom (m : MapStore) (k position : Nat) (d : Direction) : Bool :=
  match d with
  | .ab => position + 1 == (m.members k).length
  | .ba => position == 0
  | .free => false

/-- Corridor travel from the step before, lying in `before` with the route's direction there, to cell `x` (R116): none
where it is refused, else the corridor and direction afterwards. -/
def corridorTravel (m : MapStore) (p x : Nat) (before : Option (Nat × Direction)) : Option (Option (Nat × Direction)) :=
  match before, m.corridorOf x with
  | none, none => some none
  | none, some (k, i) => if m.isEnd k i then some (some (k, entryDirection i)) else none
  | some (j, d), none => if leavesFrom m j (((m.corridorOf p).map Prod.snd).getD 0) d then some none else none
  | some (j, d), some (k, i) =>
    let from_ := ((m.corridorOf p).map Prod.snd).getD 0
    if j = k then
      let ok := match d with
        | .ab => i == from_ + 1
        | .ba => i + 1 == from_
        | .free => false
      if ok then some (some (k, d)) else none
    else if leavesFrom m j from_ d && m.isEnd k i then some (some (k, entryDirection i)) else none

/-- The corridor and direction that the step before lies in; for step 0 the direction is the corridor's own (R116). -/
def corridorBefore (v : Run) (w : Validation) (i : Nat) : Option (Nat × Direction) :=
  if i = 1 then w.corridor.map (fun p => (p.1, (v.corridor p.1).direction)) else w.corridor

/-- Validation of the step numbered `i` of a route of `n` steps: the validation record afterwards, or none where the
step is invalid (R115). -/
def validateStep (e : Setting) (v : Run) (c i n : Nat) (s : Slot) : Option Validation :=
  let k := v.ctx c
  let m := e.map
  let standing := m.standing s.cell
  let isLast := i + 1 == n
  let common := (Table.find m.cells s.cell).isSome && (!s.hold || standing) && s.last == isLast &&
    (!isLast || (standing && (m.corridorOf s.cell).isNone))
  if i = 0 then
    if common && s.cell == k.frontCell then
      some { cell := s.cell
             corridor := (m.corridorOf s.cell).map (fun p => (p.1, (v.corridor p.1).direction))
             nonStanding := if standing then 0 else 1 }
    else none
  else
    match k.validation with
    | none => none
    | some w =>
      let count := if standing then 0 else w.nonStanding + 1
      if common && m.neighbours w.cell s.cell && lanesFollow m w.cell s.cell &&
          decide (count ≤ Config.nonStandingLimit) then
        (corridorTravel m w.cell s.cell (corridorBefore v w i)).map
          (fun after => { cell := s.cell, corridor := after, nonStanding := count })
      else none

/-! ## Appending and cutting (R117, R118) -/

/-- A valid step appended to a carrier's window (R117). -/
def appendStep (v : Run) (c : Nat) (s : Slot) (w : Validation) : Run :=
  let k := v.ctx c
  (v.setSlot (k.slotNumber k.nextStep) s).modCtx c (fun k =>
    { k with windowCount := k.windowCount + 1, nextStep := k.nextStep + 1, validation := some w })

/-- The step records of an accepted read taken in order, stopping at the step count: the run afterwards, and the
index of the first invalid step (R115, R117). -/
def appendSteps (e : Setting) (c n : Nat) : Run → List Slot → Run × Option Nat
  | v, [] => (v, none)
  | v, s :: rest =>
    let i := (v.ctx c).nextStep
    if n ≤ i then (v, none)
    else match validateStep e v c i n s with
      | some w => appendSteps e c n (appendStep v c s w) rest
      | none => (v, some i)

/-- The highest standing step in a carrier's window below step `f` (R117). -/
def cutPointBelow (e : Setting) (v : Run) (c f : Nat) : Option Nat :=
  ((List.range f).reverse.find? (fun j => ((v.step c j).map (fun s => e.map.standing s.cell)).getD false))

/-- What a read has come to for the carrier table (R117). -/
inductive ReadOutcome where
  | failedStart (result : RouteResult)
  | noUsableCut (result : RouteResult)
  | cut
  | appended
  | nothing
  deriving DecidableEq, Repr

/-- A route cut below step `f` with a result: the cut point and the shortened window, or no usable cut point (R117,
R118). -/
def cutRoute (e : Setting) (v : Run) (c f : Nat) (result : RouteResult) : Run × ReadOutcome :=
  match cutPointBelow e v c f with
  | some cut =>
    (v.modCtx c (fun k => { k.cutWindow cut with cutPoint := some cut, cutResult := some result }), .cut)
  | none => (v, .noUsableCut result)

/-- Reservations on cells of steps above the cut point cleared, with their offers (R34, R117). -/
def clearBeyondCut (e : Setting) (v : Run) (c : Nat) : Run :=
  match (v.ctx c).cutPoint with
  | some cut => clearReservations e v c ((v.reservations c).filter (fun p => decide (cut < p.2)))
  | none => v

/-- The carrier table's action on a read's outcome, by the carrier's state (R84, R117). -/
def actOnRead (e : Setting) (v : Run) (c : Nat) (o : ReadOutcome) : Run :=
  match o, (v.ctx c).state with
  | .failedStart result, .attached => routeEnd e v c result
  | .failedStart _, _ => v
  | .noUsableCut result, .attached => routeEnd e v c result
  | .noUsableCut result, .running => rangeEnd e v c result
  | .noUsableCut result, .halting => rangeEnd e v c result
  | .noUsableCut result, .stopped => rangeEnd e v c result
  | .noUsableCut _, _ => v
  | .cut, .attached => routeStart e v c
  | .cut, .running => (clearBeyondCut e v c).later [.attempt c .noticeIfGranted]
  | .cut, _ => v
  | .appended, .attached => routeStart e v c
  | .appended, .running => v.later [.attempt c .noticeIfGranted]
  | .appended, _ => v
  | .nothing, _ => v

/-- The step records of an accepted read used (R117). -/
def useSteps (e : Setting) (v : Run) (c : Nat) (records : List Slot) : Run :=
  let start := (v.ctx c).nextStep
  let n := (v.ctx c).stepCount.getD 0
  let (v, invalid) := appendSteps e c n v records
  match invalid with
  | none => actOnRead e v c (if (v.ctx c).nextStep = start then .nothing else .appended)
  | some f =>
    let v := (v.modCtx c (fun k => { k with faultStep := some f })).raise .routeFault
    if f = 0 then actOnRead e v c (.failedStart .stepFault)
    else
      let (v, o) := cutRoute e v c f .stepFault
      actOnRead e v c o

/-- The data of an accepted read used: for a first read the header is checked first (R105, R117). -/
def useData (e : Setting) (v : Run) (c : Nat) (first : Bool) (data : List Byte) : Run :=
  if first then
    if headerValid data then
      let v := v.modCtx c (fun k => { k with
        stepCount := some (field data 2 2), routeTag := some (BitVec.ofNat 32 (field data 4 4)) })
      useSteps e v c (decodeSteps ((data.length - 16) / 8) (data.drop 16))
    else actOnRead e (v.raise .routeFault) c (.failedStart .header)
  else useSteps e v c (decodeSteps (data.length / 8) data)

/-- A bus fault on an accepted read (R118). -/
def busFault (e : Setting) (v : Run) (c : Nat) : Run :=
  let v := v.raise .bus
  if (v.ctx c).nextStep = 0 then actOnRead e v c (.failedStart .bus)
  else
    let (v, o) := cutRoute e v c (v.ctx c).nextStep .bus
    actOnRead e v c o

/-- Whether a read still belongs to its carrier's route (R114). -/
def readAccepted (v : Run) (r : ReadInFlight) : Bool :=
  let k := v.ctx r.carrier
  k.state != .vacant && k.generation == r.generation && k.routeAddr.isSome

/-- A read ends, with its data or as a bus fault: it is no longer in flight and its timer stops; an accepted read is
used, and the fetch trigger is tested (R110, R111, R114). -/
def endRead (e : Setting) (v : Run) (r : ReadInFlight) (data : Option (List Byte)) : Run :=
  let v := v.setEngine { v.records.engine with inFlight := none, timer := none, due := false }
  let v := if readAccepted v r then
      match data with
      | some d => useData e v r.carrier r.first d
      | none => busFault e v r.carrier
    else v
  v.later [.fetchTrigger r.carrier]

/-- A completion arrives (R111): discarded without a read of its number in flight or in port reset; otherwise its data
are taken, and the read ends when they are whole, aborted or poisoned. -/
def completionArrives (e : Setting) (v : Run) (number : Byte) (status : CompletionStatus) (data : List Byte) : Run :=
  let g := v.records.engine
  match g.inFlight with
  | none => v
  | some r =>
    if g.perst || r.number != number then v
    else
      match status with
      | .aborted => endRead e v r none
      | .poisoned => endRead e v r none
      | .good =>
        let received := r.received ++ data
        if r.length ≤ received.length then endRead e v r (some (received.take r.length))
        else v.setEngine { g with inFlight := some { r with received := received } }

/-- The read timer's expiry has come: the read in flight ends as a bus fault (R111). -/
def readTimerExpires (e : Setting) (v : Run) : Run :=
  let g := v.records.engine
  match g.inFlight with
  | some r => if g.due then endRead e v r none else v
  | none => v

/-- PE_PERST_N becomes asserted: a read in flight ends in this event as a bus fault (R111). -/
def perstAsserted (e : Setting) (v : Run) : Run :=
  let g := v.records.engine
  let v := v.setEngine { g with perst := true }
  match g.inFlight with
  | some r => if g.perst then v else endRead e v r none
  | none => v

end Sys2Proof.Machine
end

