-- ==== Sys2Proof/Machine/Work.lean ====
section
/-! DEFINITION. Machine/Work.lean: the pieces of work of an event, done one after another. A piece's own consequences
are done before what was waiting behind it, as R35, R39, R40 and R126 order them. -/

namespace Sys2Proof.Machine

/-- One piece of work: each is the operation of its name. -/
def runTask (e : Setting) (t : Task) (v : Run) : Run :=
  match t with
  | .attempt c after => attemptStart e v c after
  | .round c granted after => attemptRound e v c granted after
  | .attemptEnd c reason granted after => attemptEnd e v c reason granted after
  | .openDeferred => openDeferred v
  | .offer x => offerStart e v x
  | .offerNext x left => offerNext e v x left
  | .gateCall g => gateCall e v g
  | .gateOpened g => gateOpened e v g
  | .gateAfterOffer g => gateAfterOffer e v g
  | .gateDrain g => gateDrain e v g
  | .gateShut g => gateShut v g
  | .gateOwedPartner g => gateOwedPartner e v g
  | .gateOwedSelf g => gateOwedSelf e v g
  | .freed c x emptied wasOldest behind => freed e v c x emptied wasOldest behind
  | .freedSettle x offers => freedSettle e v x offers
  | .halt c cause => halt e v c cause
  | .clearReservations c => clearReservations e v c (v.reservations c)
  | .cancelTurns c => cancelTurns e v c
  | .stopNotice c => sendStop v c
  | .waitReply c reason => sendWait v c reason
  | .passRest c speed => passRest e v c speed
  | .haltingRest c speed => haltingRest e v c speed
  | .haltingExit c => haltingExit e v c
  | .routeEndRest c result => routeEndRest e v c result
  | .resume c => resume e v c
  | .recoverRest c => recoverRest e v c
  | .retireRelease c => retireRelease e v c
  | .retireRest c => retireRest v c
  | .fetchTrigger c => fetchTrigger v c

/-- The first piece of work done, its own consequences put ahead of what was waiting behind it. -/
def Run.advance (e : Setting) (v : Run) : Run :=
  match v.work with
  | [] => v
  | t :: rest =>
    let v := runTask e t { v with work := [] }
    { v with work := v.work ++ rest }

/-- An event's work done until none is left; none where `fuel` pieces of work do not bring it to rest. -/
def settle : Nat → Setting → Run → Option Records
  | 0, _, v => if v.work.isEmpty then some v.records else none
  | fuel + 1, e, v => if v.work.isEmpty then some v.records else settle fuel e (v.advance e)

/-- The records after an event whose first effects have left the run `v` (log entry 2). -/
def settled (e : Setting) (v : Run) : Option Records := settle Config.workBound e v

end Sys2Proof.Machine
end

