-- ==== Sys2Proof/Machine/Ops.lean ====
section
/-! DEFINITION. Machine/Ops.lean: the two shapes of an event. A supervisor command is tested, takes its effect and is
answered (R153, R154); any other event takes its effect on the records. -/

namespace Sys2Proof.Machine

/-- The five statuses of a response (R154). -/
inductive Status where
  | ok
  | state
  | range
  | conflict
  | unknown
  deriving DecidableEq, Repr

/-- The code of a status (Data Formats 11.3). -/
def Status.code : Status → Byte
  | .ok => 0
  | .state => 1
  | .range => 2
  | .conflict => 3
  | .unknown => 4

/-- A response: code answered, status, sequence number, data length, data (R166). -/
def responseBytes (code : Byte) (status : Status) (sequence : Byte) (data : List Byte) : List Byte :=
  code :: status.code :: sequence :: (halfBytes (BitVec.ofNat 16 data.length) ++ data)

/-- The bytes that a transfer of `n` bytes shifts out: the response buffer from its first byte, then fill bytes of
0x00 (R153). -/
def shiftOut (response : List Byte) (n : Nat) : List Byte :=
  response.take n ++ List.replicate (n - response.length) 0

/-- The supervisor link after a transfer of `n` bytes has taken a command: what was shifted out, the sequence number
increased by one, and the response to the command in the buffer (R153). -/
def Supervisor.answer (p : Supervisor) (n : Nat) (code : Byte) (status : Status) (data : List Byte) : Supervisor :=
  { p with
    dataOut := shiftOut p.response n
    sequence := p.sequence + 1
    response := responseBytes code status (p.sequence + 1) data }

/-- What a command comes to: refused with a status (and data, for a MAP-END that fails), or accepted, with the part
as its first effects leave it, the run that holds the records and the work that is left, and the data it returns. -/
inductive Plan where
  | refuse (status : Status) (data : List Byte)
  | accept (part : State) (run : Run) (data : List Byte)
  deriving DecidableEq, Repr

/-- Refusal without data. -/
def Plan.refused (status : Status) : Plan := .refuse status []

/-- Acceptance that leaves no work, with the data it returns. -/
def Plan.done (s : State) (data : List Byte) : Plan := .accept s (Run.start s.records) data

/-- Acceptance whose first effects are those of a run. -/
def Plan.acts (s : State) (v : Run) : Plan := .accept s v []

/-- `s` with the records its event's work leaves, or the fault of an event without an end (log entry 2). -/
def finish (s : State) (v : Run) : Host.Outcome State Fault Refusal :=
  match settled s.setting v with
  | some r => .next { s with records := r }
  | none => .fault .endlessEvent

/-- A part with what its supervisor link answers. -/
def State.answered (s : State) (length : Nat) (code : Byte) (status : Status) (data : List Byte) : State :=
  { s with supervisor := s.supervisor.answer length code status data }

/-- A command of a given code whose frame has `length` bytes: nothing happens while RESET_N is asserted (R159);
otherwise the plan's changes and the response belong to one event (R153). -/
def runCommand (code : Byte) (length : Nat) (s : State) (plan : Plan) : Host.Outcome State Fault Refusal :=
  if s.pins.resetN = .low then .next s
  else
    match plan with
    | .refuse status data => .next (s.answered length code status data)
    | .accept part run data => finish (part.answered length code .ok data) run

/-- An event that is no command: nothing happens while RESET_N is asserted (R159). -/
def runEvent (s : State) (f : Setting → Run → Run) : Host.Outcome State Fault Refusal :=
  if s.pins.resetN = .low then .next s else finish s (f s.setting (Run.start s.records))

end Sys2Proof.Machine
end

