-- ==== Sys2Proof/Machine/Operands.lean ====
section
/-! DEFINITION. Machine/Operands.lean: the fields of supervisor commands: their ranges, and what they stand for
(R1 to R12, R81 to R83, R166). -/

namespace Sys2Proof.Machine

/-- Whether a number lies in a stated range, both ends included. -/
def within (low high n : Nat) : Bool := decide (low ≤ n) && decide (n ≤ high)

/-- A cell number 1..2047 (R1). -/
def isCell (h : Half) : Bool := within 1 Config.maxCell h.toNat

/-- A carrier number 0..255 (R81). -/
def isCarrier (h : Half) : Bool := decide (h.toNat < Config.carriers)

/-- The cell a neighbour port names: 0 is no cell (R166). -/
def portCell (h : Half) : Option Nat := if h = 0 then none else some h.toNat

/-- The kind of a kind code (Data Formats 11.3). -/
def kindOfCode (b : Byte) : Option CellKind :=
  match b.toNat with
  | 0 => some .track
  | 1 => some .junction
  | 2 => some .lane
  | 3 => some .portal
  | 4 => some .dock
  | _ => none

/-- The level of a polarity code (Data Formats 11.3). -/
def polarityOfCode (b : Byte) : Option Level :=
  match b.toNat with
  | 0 => some .low
  | 1 => some .high
  | _ => none

/-- The declaration of a partner code: 0 for none and 1 for a declared pair (Data Formats 11.3). -/
def partnerOfCode (b : Byte) : Option Bool :=
  match b.toNat with
  | 0 => some false
  | 1 => some true
  | _ => none

/-- Whether a list of ports names a cell twice. -/
def namesTwice : List (Option Nat) → Bool
  | [] => false
  | none :: rest => namesTwice rest
  | some x :: rest => rest.contains (some x) || namesTwice rest

/-- The ports of a MAP-CELL are in range: each absent or a cell 1..2047, none the cell itself, no two the same
(R3, R9). -/
def portsAllowed (cell : Half) (ports : List Half) : Bool :=
  ports.all (fun p => p == 0 || (isCell p && p != cell)) && !namesTwice (ports.map portCell)

/-- The static record a MAP-CELL defines, where its fields are in range (R9); kind-specific fields of another kind
are recorded absent. -/
def cellOfFields (cell : Half) (kind : Byte) (length : Half) (limit clearance : Byte) (ports : List Half)
    (capacity entryPort exitPort gate : Byte) : Option CellStatic :=
  match kindOfCode kind with
  | none => none
  | some k =>
    let common := isCell cell && within 200 20000 length.toNat && limit != 0 && portsAllowed cell ports
    let own := match k with
      | .lane => within 2 8 capacity.toNat && decide (entryPort.toNat ≤ 3) && decide (exitPort.toNat ≤ 3)
      | .portal => decide (gate.toNat < Config.gates)
      | .track => true
      | .junction => true
      | .dock => true
    if common && own then some {
      kind := k, length := length.toNat, limit := limit.toNat, clearance := clearance.toNat
      ports := ports.map portCell
      capacity := if k = .lane then some capacity.toNat else none
      entryPort := if k = .lane then some entryPort.toNat else none
      exitPort := if k = .lane then some exitPort.toNat else none
      gate := if k = .portal then some gate.toNat else none
      corridor := none }
    else none

/-- The member list a MAP-CORRIDOR defines, where its fields are in range (R10). -/
def corridorOfFields (corridor : Byte) (members : List Half) : Option (List Nat) :=
  if decide (corridor.toNat < Config.corridors) && within 2 32 members.length && members.all isCell then
    some (members.map BitVec.toNat)
  else none

/-- The binding a MAP-GATE defines, where its fields are in range (R11). -/
def bindingOfFields (gate : Byte) (portal : Half) (polarity : Byte) (callLimit holdOpen : Half) (partner : Byte) :
    Option GateBinding :=
  match polarityOfCode polarity, partnerOfCode partner with
  | some level, some paired =>
    if decide (gate.toNat < Config.gates) && isCell portal && within 1 6000 callLimit.toNat &&
        decide (holdOpen.toNat ≤ 1000) && !(gate.toNat % 2 == 1 && paired) then some {
      portal := portal.toNat, polarity := level, callLimit := callLimit.toNat, holdOpen := holdOpen.toNat
      partner := paired }
    else none
  | _, _ => none

/-- The record a MAP-CLASS defines, where its fields are in range and the lost limit is greater than the silence
limit (R7, R12). -/
def classOfFields (cls : Byte) (decel margin : Half) (vmax hmax priority allowance : Byte) (silence lost : Half) :
    Option ClassRec :=
  if decide (cls.toNat < Config.classes) && within 100 4000 decel.toNat && decide (margin.toNat ≤ 2000) &&
      decide (10 ≤ vmax.toNat) && within 1 16 hmax.toNat && decide (priority.toNat ≤ 3) &&
      within 1 15 allowance.toNat && within 5 500 silence.toNat && within 10 6000 lost.toNat &&
      decide (silence.toNat < lost.toNat) then some {
    decel := decel.toNat, margin := margin.toNat, vmax := vmax.toNat, hmax := hmax.toNat
    priority := priority.toNat, allowance := allowance.toNat, silence := silence.toNat, lost := lost.toNat }
  else none

/-- A window base and size that ENROL accepts (R82, first check). -/
def windowAllowed (base size : Nat) : Bool :=
  (size == 8 || size == 16 || size == 32) && base % size == 0 && decide (base + size ≤ Config.slots)

/-- The operating states in which a map is loaded (R16, R130, R158, R163). -/
def OpState.loaded : OpState → Bool
  | .unconfigured => false
  | .loading => false
  | .standby => true
  | .active => true
  | .allStop => true

/-- ACTIVE or ALL-STOP (R98). -/
def OpState.moving : OpState → Bool
  | .unconfigured => false
  | .loading => false
  | .standby => false
  | .active => true
  | .allStop => true

/-- STANDBY or ACTIVE (R82). -/
def OpState.enrols : OpState → Bool
  | .unconfigured => false
  | .loading => false
  | .standby => true
  | .active => true
  | .allStop => false

/-- The context of a carrier in the part. -/
def State.ctx (s : State) (c : Nat) : Context := Table.at s.records.carriers Context.vacant c

/-- Whether a cell number is that of a defined cell. -/
def State.cellDefined (s : State) (h : Half) : Bool := isCell h && (Table.find s.setting.map.cells h.toNat).isSome

end Sys2Proof.Machine
end

