-- ==== Sys2Proof/Machine/Response.lean ====
section
/-! DEFINITION. Machine/Response.lean: the data of responses: the encoding of each kind of value (R166), and the
values each query returns, in the order its rule names them (R41, R80, R132, R140, R146, R161, R163). -/

namespace Sys2Proof.Machine

/-! ## Encodings (R166) -/

/-- A number in one byte. -/
def byteField (n : Nat) : List Byte := [BitVec.ofNat 8 n]

/-- A number in two bytes, high byte first. -/
def halfField (n : Nat) : List Byte := halfBytes (BitVec.ofNat 16 n)

/-- A tick value in four bytes, high byte first. -/
def tickField (t : BitVec 32) : List Byte :=
  [t.extractLsb' 24 8, t.extractLsb' 16 8, t.extractLsb' 8 8, t.extractLsb' 0 8]

/-- A flag. -/
def flagField (b : Bool) : List Byte := [if b then 1 else 0]

/-- A one-byte number or named value that may be absent. -/
def optByteField (n : Option Nat) : List Byte := byteField (n.getD 255)

/-- A two-byte number, carrier number or step index that may be absent. -/
def optHalfField (n : Option Nat) : List Byte := halfField (n.getD 65535)

/-- A cell that may be absent: 0. -/
def cellField (x : Option Nat) : List Byte := halfField (x.getD 0)

/-- A list: a count byte, then the entries. -/
def listField (entries : List (List Byte)) : List Byte := byteField entries.length ++ entries.flatten

/-- The operating states in the order of Section 10.2. -/
def OpState.code : OpState → Nat
  | .unconfigured => 0
  | .loading => 1
  | .standby => 2
  | .active => 3
  | .allStop => 4

/-- LOW 0 and HIGH 1 (Data Formats 11.3). -/
def levelCode : Level → Nat
  | .low => 0
  | .high => 1

/-- The cell kinds (Data Formats 11.3). -/
def CellKind.code : CellKind → Nat
  | .track => 0
  | .junction => 1
  | .lane => 2
  | .portal => 3
  | .dock => 4

/-- The block causes in the order of R25. -/
def BlockCause.code : BlockCause → Nat
  | .closed => 0
  | .clearance => 1
  | .reserved => 2
  | .capacity => 3
  | .selfHeld => 4
  | .corridor => 5
  | .gate => 6

/-- The carrier states in the order of R80. -/
def CarrierState.code : CarrierState → Nat
  | .vacant => 0
  | .idle => 1
  | .attached => 2
  | .running => 3
  | .halting => 4
  | .stopped => 5

/-- The contacts in the order of R80. -/
def Contact.code : Contact → Nat
  | .live => 0
  | .silent => 1
  | .lost => 2

/-- The directions in the order of R64. -/
def Direction.code : Direction → Nat
  | .free => 0
  | .ab => 1
  | .ba => 2

/-- The gate states in the order of R121. -/
def GateState.code : GateState → Nat
  | .shut => 0
  | .calling => 1
  | .opened => 2
  | .draining => 3
  | .fault => 4

/-- The receiver states in the order of R142. -/
def RxState.code : RxState → Nat
  | .hunt => 0
  | .length => 1
  | .kind => 2
  | .body => 3
  | .crc => 4

/-- A wait reason, by its reason code (Data Formats 11.1). -/
def WaitReason.code : WaitReason → Nat
  | .cell => 4
  | .order => 5

/-! ## What the commands return -/

/-- The data of CLEAR-ALERTS and SET-ALERT-ENABLE: the flags and the enable mask (R161). -/
def alertData (alerts enable : BitVec 10) : List Byte := halfField alerts.toNat ++ halfField enable.toNat

/-- How many carriers are in a state. -/
def State.carriersIn (s : State) (k : CarrierState) : Nat :=
  ((List.range Config.carriers).filter (fun c => (s.ctx c).state == k)).length

/-- The numbers of defined cells, corridors, gate bindings and classes (R15). -/
def MapStore.counts (m : MapStore) : List Byte :=
  halfField m.cells.length ++ byteField m.corridors.length ++ byteField m.gates.length ++ byteField m.classes.length

/-- The data of READ-STATUS (R163). -/
def statusData (s : State) : List Byte :=
  byteField s.setting.op.code ++ byteField (levelCode s.supervisor.estopLevel) ++
    alertData s.records.alerts s.supervisor.enable ++ tickField s.setting.tick ++
    ([CarrierState.vacant, .idle, .attached, .running, .halting, .stopped].flatMap
      (fun k => halfField (s.carriersIn k))) ++
    s.setting.map.counts ++
    halfField s.records.engine.queue.length ++ flagField s.records.engine.inFlight.isSome

/-- The static record of a cell, in the order of R1. -/
def staticData (x : Nat) (k : CellStatic) : List Byte :=
  cellField (some x) ++ byteField k.kind.code ++ halfField k.length ++ byteField k.limit ++ byteField k.clearance ++
    k.ports.flatMap cellField ++ optByteField k.capacity ++ optByteField k.entryPort ++ optByteField k.exitPort ++
    optByteField k.gate ++ optByteField (k.corridor.map Prod.fst) ++ optByteField (k.corridor.map Prod.snd)

/-- One queue entry of READ-CELL: carrier, priority and since value (R41). -/
def waiterData (s : State) (w : Waiter) : List Byte :=
  halfField w.carrier ++ byteField w.priority ++ tickField (((s.ctx w.carrier).wait.map WaitRec.since).getD 0)

/-- The block cause of the head of a cell's queue, recomputed at the time of the read (R41); the recorded one where
the cell is grantable to it. -/
def headCause (s : State) (x : Nat) : Option BlockCause :=
  let v := Run.start s.records
  (v.cell x).queue.head?.map (fun w => ((grantTest s.setting v w.carrier x w.step).map Prod.fst).getD w.cause)

/-- The runtime record of a cell (R41); its clearance countdown is a timer (R162, R166). -/
def runtimeData (s : State) (x : Nat) : List Byte :=
  let r := Table.at s.records.cells CellRun.free x
  listField (r.holders.map halfField) ++ optHalfField r.reservedFor ++ flagField r.closed ++ halfField r.countdown ++
    halfField r.queue.length ++ listField ((r.queue.take 8).map (waiterData s)) ++
    optByteField ((headCause s x).map BlockCause.code)

/-- The data of READ-CELL: no runtime part in LOADING (R163). -/
def cellData (s : State) (x : Nat) (k : CellStatic) : List Byte :=
  staticData x k ++ (if s.setting.op = .loading then [] else runtimeData s x)

/-- One entry of a held list: cell, step, distance contribution. -/
def heldData (h : Held) : List Byte := halfField h.cell ++ optHalfField h.step ++ halfField h.distance

/-- A wait record that may be absent (R80). -/
def waitData : Option WaitRec → List Byte
  | some w =>
    flagField true ++ byteField w.reason.code ++ halfField w.cell ++ tickField w.since ++ optHalfField w.edge
  | none => List.replicate 10 0

/-- A route tag that may be absent. -/
def tagData : Option (BitVec 32) → List Byte
  | some t => flagField true ++ tickField t
  | none => List.replicate 5 0

/-- A route address that may be absent. -/
def routeAddressData (a : Option Address) : List Byte := addressBytes (a.getD (BitVec.allOnes 64))

/-- A context, in the order of R80. -/
def contextData (k : Context) : List Byte :=
  byteField k.state.code ++ byteField k.cls ++ byteField k.contact.code ++ halfField k.silence ++
    byteField k.allowance ++ byteField k.used ++ optByteField k.homeLink ++
    halfField k.windowBase ++ byteField k.windowSize ++
    byteField k.readPosition ++ byteField k.writePosition ++ byteField k.windowCount ++
    routeAddressData k.routeAddr ++ tagData k.routeTag ++ optHalfField k.stepCount ++ halfField k.nextStep ++
    optHalfField k.cutPoint ++ optByteField (k.cutResult.map (fun r => r.code.toNat)) ++ optHalfField k.faultStep ++
    [k.generation] ++ halfField k.grantMark ++ halfField k.front ++ halfField k.rear ++
    halfField k.frontCell ++ byteField k.lastSpeed ++ byteField k.requested ++
    listField (k.held.map heldData) ++ optByteField (k.blockReason.map (fun r => r.code.toNat)) ++
    waitData k.wait ++ byteField k.passOver ++ flagField k.holdLifted ++
    optByteField (k.stopCause.map (fun r => r.code.toNat)) ++ optByteField (k.lastResult.map (fun r => r.code.toNat))

/-- The data of READ-CARRIER: the context, the reservation list and the membership mark (R163). -/
def carrierData (s : State) (c : Nat) : List Byte :=
  contextData (s.ctx c) ++
    listField ((Table.at s.records.reservations [] c).map (fun p => halfField p.1)) ++
    optByteField (Table.find s.records.marks c)

/-- The data of READ-CORRIDOR: no runtime part in LOADING (R163). -/
def corridorData (s : State) (k : Nat) (members : List Nat) : List Byte :=
  let r := Table.at s.records.corridors CorridorRun.idle k
  listField (members.map halfField) ++
    (if s.setting.op = .loading then []
    else byteField r.direction.code ++ listField (r.occupants.map halfField) ++ flagField r.turnRequested ++
      optHalfField r.turnCarrier)

/-- The data of READ-GATE: the binding, and the runtime fields and line levels of R132 except in LOADING (R163). The
READY level, read as active or inactive, is sent as a flag, 1 for active (log entry 10). -/
def gateData (s : State) (g : Nat) (b : GateBinding) : List Byte :=
  let r := Table.at s.records.gates GateRun.shut g
  halfField b.portal ++ byteField (levelCode b.polarity) ++ halfField b.callLimit ++ halfField b.holdOpen ++
    flagField b.partner ++
    (if s.setting.op = .loading then []
    else byteField r.state.code ++ flagField r.callPending ++ halfField (r.timer.getD 0) ++
      flagField (s.setting.readyActive g) ++ flagField (s.request g))

/-- The data of READ-DEADLOCK (R140): a record that may be absent. -/
def deadlockData (r : Option DeadlockRec) : List Byte :=
  match r with
  | some d => flagField true ++ halfField d.count ++ listField (d.members.map halfField) ++ tickField d.tick
  | none => List.replicate 8 0

/-- Whether a link is sending a frame (R142). -/
def Link.sending (k : Link) : Bool := k.transmitting.isSome

/-- The data of READ-LINK (R146). -/
def linkData (k : Link) : List Byte :=
  halfField k.check ++ halfField k.format ++ halfField k.unknown ++ halfField k.device ++ halfField k.drop ++
    byteField k.queue.length ++ flagField k.sending ++ byteField k.receiver.state.code

/-- A link with its five counters at 0 (R146). -/
def Link.cleared (k : Link) : Link := { k with check := 0, format := 0, unknown := 0, device := 0, drop := 0 }

end Sys2Proof.Machine
end

