-- ==== Sys2Proof/Machine/MapCommands.lean ====
section
/-! DEFINITION. Machine/MapCommands.lean: MAP-BEGIN, the map record commands and MAP-END (R8 to R15). -/

namespace Sys2Proof.Machine

/-- The carriers whose context a test picks, ascending. -/
def State.carriersWith (s : State) (p : Context → Bool) : List Nat :=
  (List.range Config.carriers).filter (fun c => p (s.ctx c))

/-- `s` with the map store changed. -/
def State.setMap (s : State) (m : MapStore) : State := { s with setting := { s.setting with map := m } }

/-- `s` in another operating state (R155). -/
def State.enter (s : State) (o : OpState) : State := { s with setting := { s.setting with op := o } }

/-- The records of the rights table, corridor unit, gate unit and deadlock monitor as after hard reset (R8). -/
def Records.unloaded (r : Records) : Records :=
  { r with cells := [], reservations := [], seniority := [], corridors := [], gates := [], deadlocks := [], marks := [] }

/-- The part with an accepted MAP-BEGIN's changes made (R8). -/
def State.beginMap (s : State) : State :=
  { (s.setMap MapStore.empty).enter .loading with records := s.records.unloaded }

/-- Whether any carrier is enrolled (R80). -/
def State.anyEnrolled (s : State) : Bool := !(s.carriersWith (fun k => k.state != .vacant)).isEmpty

/-- MAP-BEGIN (R8). -/
def execMapBegin (s : State) : Host.Outcome State Fault Refusal :=
  runCommand 0x01 1 s
    (match s.setting.op with
    | .unconfigured => .done s.beginMap []
    | .loading => .done s.beginMap []
    | .standby => if s.anyEnrolled then .refused .conflict else .done s.beginMap []
    | .active => .refused .state
    | .allStop => .refused .state)

/-- A map record command: STATE outside LOADING, RANGE where its fields define nothing (R9 to R12). -/
def mapRecord {α : Type} (s : State) (fields : Option α) (store : α → MapStore) : Plan :=
  if s.setting.op = .loading then
    match fields with
    | some a => .done (s.setMap (store a)) []
    | none => .refused .range
  else .refused .state

/-- MAP-CELL (R9). -/
def execMapCell (cell : Half) (kind : Byte) (length : Half) (limit clearance : Byte) (port0 port1 port2 port3 : Half)
    (capacity entryPort exitPort gate : Byte) (s : State) : Host.Outcome State Fault Refusal :=
  let m := s.setting.map
  runCommand 0x02 20 s
    (mapRecord s (cellOfFields cell kind length limit clearance [port0, port1, port2, port3] capacity entryPort exitPort gate)
      (fun k => { m with cells := Table.set m.cells cell.toNat k }))

/-- MAP-CORRIDOR (R10). -/
def execMapCorridor (corridor : Byte) (members : List Half) (s : State) : Host.Outcome State Fault Refusal :=
  let m := s.setting.map
  runCommand 0x03 (3 + 2 * members.length) s
    (mapRecord s (corridorOfFields corridor members)
      (fun l => { m with corridors := Table.set m.corridors corridor.toNat l }))

/-- MAP-GATE (R11). -/
def execMapGate (gate : Byte) (portal : Half) (polarity : Byte) (callLimit holdOpen : Half) (partner : Byte) (s : State) :
    Host.Outcome State Fault Refusal :=
  let m := s.setting.map
  runCommand 0x04 10 s
    (mapRecord s (bindingOfFields gate portal polarity callLimit holdOpen partner)
      (fun b => { m with gates := Table.set m.gates gate.toNat b }))

/-- MAP-CLASS (R12). -/
def execMapClass (cls : Byte) (decel margin : Half) (vmax hmax priority allowance : Byte) (silence lost : Half)
    (s : State) : Host.Outcome State Fault Refusal :=
  let m := s.setting.map
  runCommand 0x05 14 s
    (mapRecord s (classOfFields cls decel margin vmax hmax priority allowance silence lost)
      (fun k => { m with classes := Table.set m.classes cls.toNat k }))

/-! ## The checks of MAP-END (R13) -/

/-- The failures of MAP-END, in the order of R13. -/
inductive MapFailure where
  | undefinedNeighbour
  | oneWay
  | lanePorts
  | portalGate
  | gatePortal
  | memberKind
  | memberRepeated
  | memberShared
  | memberGap
  | partnerUndefined
  deriving DecidableEq, Repr

/-- The code of a failure name (R166). -/
def MapFailure.code : MapFailure → Nat
  | .undefinedNeighbour => 0
  | .oneWay => 1
  | .lanePorts => 2
  | .portalGate => 3
  | .gatePortal => 4
  | .memberKind => 5
  | .memberRepeated => 6
  | .memberShared => 7
  | .memberGap => 8
  | .partnerUndefined => 9

/-- The check a failure belongs to: 4 for both 4a and 4b (R13, R14). -/
def MapFailure.check : MapFailure → Nat
  | .undefinedNeighbour => 1
  | .oneWay => 2
  | .lanePorts => 3
  | .portalGate => 4
  | .gatePortal => 4
  | .memberKind => 5
  | .memberRepeated => 5
  | .memberShared => 5
  | .memberGap => 5
  | .partnerUndefined => 6

/-- The object a failure is reported at (R14). -/
inductive MapObject where
  | cell (x : Nat)
  | corridor (k : Nat)
  | gate (g : Nat)
  deriving DecidableEq, Repr

/-- An object's kind and number (R166). -/
def MapObject.bytes : MapObject → List Byte
  | .cell x => byteField 0 ++ cellField (some x)
  | .corridor k => byteField 1 ++ byteField k
  | .gate g => byteField 2 ++ byteField g

/-- The report of a failed MAP-END: failure, object and the bytes of the detail values (R14). -/
structure MapReport where
  failure : MapFailure
  object : MapObject
  detail : List Byte
  deriving DecidableEq, Repr

/-- The data of a failed MAP-END, in the order of R14. -/
def MapReport.bytes (r : MapReport) : List Byte :=
  byteField r.failure.check ++ byteField r.failure.code ++ r.object.bytes ++ r.detail

/-- The ports of a cell that name a cell, with their numbers, ascending. -/
def CellStatic.named (k : CellStatic) : List (Nat × Nat) :=
  (List.range 4).filterMap (fun p => (k.port p).map (fun y => (p, y)))

/-- Whether cell `y` names cell `x` on one of its ports (R3). -/
def MapStore.names (m : MapStore) (y x : Nat) : Bool := ((Table.find m.cells y).map (fun k => k.ports.contains (some x))).getD false

/-- Check 1 on one cell. -/
def checkNeighbours (m : MapStore) (p : Nat × CellStatic) : Option MapReport :=
  (p.2.named.find? (fun q => (Table.find m.cells q.2).isNone)).map
    (fun q => { failure := .undefinedNeighbour, object := .cell p.1, detail := byteField q.1 ++ cellField (some q.2) })

/-- Check 2 on one cell. -/
def checkReturned (m : MapStore) (p : Nat × CellStatic) : Option MapReport :=
  (p.2.named.find? (fun q => !m.names q.2 p.1)).map
    (fun q => { failure := .oneWay, object := .cell p.1, detail := byteField q.1 ++ cellField (some q.2) })

/-- Check 3 on one cell: an absent entry port first, then an absent exit port, then equal ports (R14). -/
def checkLane (p : Nat × CellStatic) : Option MapReport :=
  let report := fun (d : Nat) => some { failure := .lanePorts, object := .cell p.1, detail := byteField d }
  if p.2.kind = .lane then
    if (p.2.entryPort.bind p.2.port).isNone then report 0
    else if (p.2.exitPort.bind p.2.port).isNone then report 1
    else if p.2.entryPort = p.2.exitPort then report 2
    else none
  else none

/-- Check 4a on one cell. -/
def checkPortal (m : MapStore) (p : Nat × CellStatic) : Option MapReport :=
  if p.2.kind = .portal then
    if p.2.gate.bind m.portalOf = some p.1 then none
    else some { failure := .portalGate, object := .cell p.1, detail := byteField (p.2.gate.getD 0) }
  else none

/-- Check 4b on one gate binding. -/
def checkBinding (m : MapStore) (p : Nat × GateBinding) : Option MapReport :=
  if m.gateOf p.2.portal = some p.1 then none
  else some { failure := .gatePortal, object := .gate p.1, detail := cellField (some p.2.portal) }

/-- The lowest defined corridor below `k` that lists a cell. -/
def lowerCorridor (m : MapStore) (k x : Nat) : Option Nat :=
  (m.corridors.find? (fun q => decide (q.1 < k) && q.2.contains x)).map Prod.fst

/-- The tests of check 5 on the member at position `i` of corridor `k`, in their order. -/
def checkMember (m : MapStore) (k : Nat) (members : List Nat) (i : Nat) : Option MapReport :=
  let x := members.getD i 0
  let report := fun (f : MapFailure) (more : List Byte) =>
    some { failure := f, object := .corridor k, detail := byteField i ++ cellField (some x) ++ more }
  if m.kindOf x ≠ some .track then report .memberKind []
  else if (members.take i).contains x then report .memberRepeated []
  else match lowerCorridor m k x with
    | some j => report .memberShared (byteField j)
    | none => if i ≠ 0 ∧ m.names x (members.getD (i - 1) 0) = false then report .memberGap [] else none

/-- Check 5 on one corridor. -/
def checkCorridor (m : MapStore) (p : Nat × List Nat) : Option MapReport :=
  (List.range p.2.length).findSome? (checkMember m p.1 p.2)

/-- Check 6 on one gate binding. -/
def checkPartner (m : MapStore) (p : Nat × GateBinding) : Option MapReport :=
  if p.1 % 2 = 0 ∧ p.2.partner ∧ (Table.find m.gates (p.1 + 1)).isNone then
    some { failure := .partnerUndefined, object := .gate p.1, detail := byteField (p.1 + 1) }
  else none

/-- The first test of R13 that fails, in the order of its table. -/
def mapFailure (m : MapStore) : Option MapReport :=
  (m.cells.findSome? (checkNeighbours m)) <|>
  (m.cells.findSome? (checkReturned m)) <|>
  (m.cells.findSome? checkLane) <|>
  (m.cells.findSome? (checkPortal m)) <|>
  (m.gates.findSome? (checkBinding m)) <|>
  (m.corridors.findSome? (checkCorridor m)) <|>
  (m.gates.findSome? (checkPartner m))

/-! ## Completion (R15) -/

/-- The corridor and position of a cell, from the corridor definitions (R4). -/
def MapStore.placeIn (m : MapStore) (x : Nat) : Option (Nat × Nat) :=
  (m.corridors.find? (fun q => q.2.contains x)).map (fun q => (q.1, q.2.idxOf x))

/-- The map store with the derived corridor fields of every cell set (R4, R15). -/
def MapStore.derived (m : MapStore) : MapStore :=
  { m with cells := m.cells.map (fun p => (p.1, { p.2 with corridor := m.placeIn p.1 })) }

/-- The runtime records that a map's completion, or RESTART, gives every block built on the map (R15, R42, R79, R132,
R141). -/
def Records.loaded (m : MapStore) (r : Records) : Records :=
  { r with
    cells := m.cells.map (fun p => (p.1, CellRun.free))
    reservations := [], seniority := []
    corridors := m.corridors.map (fun p => (p.1, CorridorRun.idle))
    gates := m.gates.map (fun p => (p.1, GateRun.shut))
    deadlocks := [], marks := [] }

/-- The part with a completed map (R15). -/
def State.completeMap (s : State) : State :=
  { (s.setMap s.setting.map.derived).enter .standby with records := s.records.loaded s.setting.map }

/-- MAP-END (R13 to R15). -/
def execMapEnd (s : State) : Host.Outcome State Fault Refusal :=
  runCommand 0x06 1 s
    (if s.setting.op = .loading then
      match mapFailure s.setting.map with
      | some r => .refuse .conflict r.bytes
      | none => .done s.completeMap s.setting.map.counts
    else .refused .state)

end Sys2Proof.Machine
end

