-- ==== Sys2Proof/Machine/StateCommands.lean ====
section
/-! DEFINITION. Machine/StateCommands.lean: the operating states: ACTIVATE, ALL-STOP, RESUME-ALL and RESTART (R155 to
R158). -/

namespace Sys2Proof.Machine

/-- Whether ESTOP_N is active, by the kept level (R156). -/
def State.estopActive (s : State) : Bool := s.supervisor.estopLevel == .low

/-- ACTIVATE (R155). -/
def execActivate (s : State) : Host.Outcome State Fault Refusal :=
  runCommand 0x07 1 s
    (if s.setting.op = .standby && !s.estopActive then .done (s.enter .active) [] else .refused .state)

/-- The halt requests of ALL-STOP entry, to every RUNNING carrier in ascending carrier number (R156, R102). -/
def State.haltAll (s : State) : List Task :=
  (s.carriersWith (fun k => k.state == .running)).map (fun c => .halt c .allStop)

/-- ALL-STOP (R156). -/
def execAllStop (s : State) : Host.Outcome State Fault Refusal :=
  runCommand 0x08 1 s
    (match s.setting.op with
    | .active => .acts (s.enter .allStop) ((Run.start s.records).later s.haltAll)
    | .allStop => .done s []
    | .unconfigured => .refused .state
    | .loading => .refused .state
    | .standby => .refused .state)

/-- The resumptions of RESUME-ALL, in ascending carrier number (R157, R102). -/
def State.resumeAll (s : State) : List Task :=
  (s.carriersWith (fun k => k.state == .stopped && k.stopCause == some .allStop)).map (fun c => .resume c)

/-- RESUME-ALL (R157). -/
def execResumeAll (s : State) : Host.Outcome State Fault Refusal :=
  runCommand 0x09 1 s
    (if s.setting.op = .allStop && !s.estopActive then
      .acts (s.enter .active) ((Run.start s.records).later s.resumeAll)
    else .refused .state)

/-- The engine after RESTART (R120). -/
def Engine.restarted (g : Engine) : Engine := { g with queue := [], inFlight := none, timer := none, due := false }

/-- A transmitter after RESTART: the character on the line is finished (R152). -/
def Transmitter.restarted : Transmitter → Transmitter
  | .idle => .idle
  | .sending _ => .finishing
  | .finishing => .finishing

/-- A link controller after RESTART (R152). -/
def Link.restarted (k : Link) : Link := { Link.reset with transmitter := k.transmitter.restarted }

/-- The records after RESTART (R42, R79, R103, R120, R132, R141, R152, R158). -/
def Records.restarted (m : MapStore) (r : Records) : Records :=
  { Records.loaded m r with
    carriers := (r.carriers.map (fun p => (p.1, p.2.vacated))).filter (fun p => p.2 != Context.vacant)
    engine := r.engine.restarted
    links := (r.links.map (fun p => (p.1, p.2.restarted))).filter (fun p => p.2 != Link.reset)
    alerts := 0 }

/-- RESTART (R158). -/
def execRestart (s : State) : Host.Outcome State Fault Refusal :=
  runCommand 0x0A 1 s
    (if s.setting.op.loaded then
      .done { s.enter .standby with records := s.records.restarted s.setting.map } []
    else .refused .state)

end Sys2Proof.Machine
end

