-- ==== Sys2Proof/Machine/Edits.lean ====
section
/-! DEFINITION. Machine/Edits.lean: the three edits of a loaded map and GATE-RESET (R16 to R19, R130). -/

namespace Sys2Proof.Machine

/-- An edit of a cell: STATE before a map has passed, RANGE for a cell that is not defined (R16). -/
def cellEdit (s : State) (cell : Half) (plan : Plan) : Plan :=
  if s.setting.op.loaded then
    if s.cellDefined cell then plan else .refused .range
  else .refused .state

/-- The run of a CLOSE-CELL on cell `x`: the flag is set and the waiters of the cell are recomputed (R17, R31; log
entry 28). -/
def closeRun (e : Setting) (v : Run) (x : Nat) : Run :=
  if (v.cell x).closed then v else recompute e (v.setCell x { v.cell x with closed := true }) x

/-- CLOSE-CELL (R17). -/
def execCloseCell (cell : Half) (s : State) : Host.Outcome State Fault Refusal :=
  runCommand 0x0B 3 s (cellEdit s cell (.acts s (closeRun s.setting (Run.start s.records) cell.toNat)))

/-- The run of an OPEN-CELL on cell `x`: the flag is cleared, the waiters are recomputed, and the cell is offered
where its countdown is 0 (R18, R31). -/
def openRun (e : Setting) (v : Run) (x : Nat) : Run :=
  if (v.cell x).closed then
    let v := recompute e (v.setCell x { v.cell x with closed := false }) x
    if (v.cell x).countdown = 0 then v.later [.offer x] else v
  else v

/-- OPEN-CELL (R18). -/
def execOpenCell (cell : Half) (s : State) : Host.Outcome State Fault Refusal :=
  runCommand 0x0C 3 s (cellEdit s cell (.acts s (openRun s.setting (Run.start s.records) cell.toNat)))

/-- The map store with the speed limit of a cell changed (R19). -/
def MapStore.withLimit (m : MapStore) (x limit : Nat) : MapStore :=
  { m with cells := Table.update m.cells x (fun k => { k with limit := limit }) }

/-- The speed limit of a cell. -/
def MapStore.limitOf (m : MapStore) (x : Nat) : Nat := ((Table.find m.cells x).map CellStatic.limit).getD 0

/-- The AUTH notice a lowered limit queues for one holder: a RUNNING carrier whose block reason is present (R19). -/
def limitNotice (e : Setting) (v : Run) (c : Nat) : Run :=
  if (v.ctx c).state = .running ∧ (v.ctx c).blockReason.isSome then sendNotice e v c else v

/-- The run of a SET-LIMIT on cell `x`: notices to its holders in holder-list order where the limit is lowered (R19). -/
def limitRun (e : Setting) (v : Run) (x : Nat) (lowered : Bool) : Run :=
  if lowered then (v.cell x).holders.foldl (limitNotice e) v else v

/-- SET-LIMIT (R19). -/
def execSetLimit (cell : Half) (limit : Byte) (s : State) : Host.Outcome State Fault Refusal :=
  let part := s.setMap (s.setting.map.withLimit cell.toNat limit.toNat)
  let lowered := decide (limit.toNat < s.setting.map.limitOf cell.toNat)
  runCommand 0x0D 4 s
    (cellEdit s cell
      (if limit = 0 then .refused .range
      else .acts part (limitRun part.setting (Run.start s.records) cell.toNat lowered)))

/-- The run of an accepted GATE-RESET: the gate is SHUT, and the owed calls are released (R130, R124). -/
def gateResetRun (v : Run) (g : Nat) : Run :=
  (v.modGate g (fun _ => GateRun.shut)).later [.gateOwedPartner g, .gateOwedSelf g]

/-- GATE-RESET (R130). -/
def execGateReset (gate : Byte) (s : State) : Host.Outcome State Fault Refusal :=
  runCommand 0x0E 2 s
    (if s.setting.op.loaded then
      match if gate.toNat < Config.gates then Table.find s.records.gates gate.toNat else none with
      | none => .refused .range
      | some r =>
        if r.state = .fault then .acts s (gateResetRun (Run.start s.records) gate.toNat) else .refused .conflict
    else .refused .state)

end Sys2Proof.Machine
end

