-- ==== Sys2Proof/Machine/CarrierCommands.lean ====
section
/-! DEFINITION. Machine/CarrierCommands.lean: ENROL, ATTACH, DETACH, STOP, RECOVER and RETIRE (R81 to R83, R98, R99).
The tests are made in the order of R81: the operating state, the fields, the carrier and the records. -/

namespace Sys2Proof.Machine

/-- A carrier command: STATE where the operating state does not accept it, RANGE for a carrier number above 255 or
other fields out of range, else the plan of its own tests (R81). -/
def carrierCommand (s : State) (accepts : OpState → Bool) (carrier : Half) (fields : Bool) (plan : Plan) : Plan :=
  if accepts s.setting.op then
    if isCarrier carrier && fields then plan else .refused .range
  else .refused .state

/-- Whether a slot of the window at `base` of `size` slots lies in a context's window (R82). -/
def Context.overlaps (k : Context) (base size : Nat) : Bool :=
  decide (base < k.windowBase + k.windowSize) && decide (k.windowBase < base + size)

/-- Whether the window lies in the window of an enrolled carrier (R82, last check). -/
def State.windowTaken (s : State) (base size : Nat) : Bool :=
  !(s.carriersWith (fun k => k.state != .vacant && k.overlaps base size)).isEmpty

/-- A cell on which a carrier may be enrolled: defined, standing and no corridor member (R82). -/
def MapStore.enrolCell (m : MapStore) (x : Nat) : Bool := m.standing x && (m.corridorOf x).isNone

/-- Whether a cell has room for a carrier being enrolled (R82): no holder and no reservation, or a place of a LANE. -/
def enrolRoom (m : MapStore) (x : Nat) (r : CellRun) : Bool :=
  if m.isLane x then decide (r.holders.length < m.capacity x) else r.holders.isEmpty && r.reservedFor.isNone

/-- The context of a carrier after ENROL (R82). -/
def Context.enrolled (k : Context) (cls : Nat) (r : ClassRec) (cell contribution base size : Nat) : Context :=
  { Context.vacant with
    state := .idle, cls := cls
    held := [{ cell := cell, step := none, distance := contribution }]
    allowance := r.allowance
    windowBase := base, windowSize := size
    frontCell := cell, requested := r.vmax
    generation := k.generation }

/-- The run of an accepted ENROL: the holder at the tail, the recomputation of the cell's waiters, the context (R82,
R31). -/
def enrolRun (e : Setting) (v : Run) (c cls : Nat) (r : ClassRec) (x base size : Nat) : Run :=
  let v := v.setCell x { v.cell x with holders := (v.cell x).holders ++ [c] }
  let v := recompute e v x
  v.modCtx c (fun k => k.enrolled cls r x (e.map.contribution x) base size)

/-- The checks of R82 after its first, in their order. -/
def enrolPlan (s : State) (c cls x base size : Nat) : Plan :=
  let m := s.setting.map
  let cell := Table.at s.records.cells CellRun.free x
  if (s.ctx c).state ≠ .vacant then .refused .conflict
  else match Table.find m.classes cls with
    | none => .refused .range
    | some r =>
      if m.enrolCell x then
        if enrolRoom m x cell && cell.countdown == 0 && !s.windowTaken base size then
          .acts s (enrolRun s.setting (Run.start s.records) c cls r x base size)
        else .refused .conflict
      else .refused .range

/-- ENROL (R82). -/
def execEnrol (carrier : Half) (cls : Byte) (cell base : Half) (size : Byte) (s : State) :
    Host.Outcome State Fault Refusal :=
  runCommand 0x0F 9 s
    (carrierCommand s OpState.enrols carrier
      (decide (cls.toNat < Config.classes) && isCell cell && windowAllowed base.toNat size.toNat)
      (enrolPlan s carrier.toNat cls.toNat cell.toNat base.toNat size.toNat))

/-- The context of a carrier after ATTACH (R83). -/
def Context.attached (k : Context) (r : ClassRec) (a : Address) : Context :=
  { k with
    routeAddr := some a, routeTag := none, stepCount := none
    generation := k.generation + 1
    windowCount := 0, nextStep := 0, cutPoint := none, cutResult := none, faultStep := none, validation := none
    allowance := r.allowance, used := 0
    requested := r.vmax, blockReason := none, holdLifted := false
    contact := .live, silence := 0
    state := .attached }

/-- The run of an accepted ATTACH: the context, and a first fetch request in the engine queue (R83, R109). -/
def attachRun (e : Setting) (v : Run) (c : Nat) (a : Address) : Run :=
  let v := v.modCtx c (fun k => k.attached (e.map.classOf k) a)
  v.setEngine (v.records.engine.enqueue (.fetch c true))

/-- ATTACH (R83): CONFLICT for a carrier that is not IDLE, or whose last route's write-back is still queued (R119). -/
def execAttach (carrier : Half) (address : Address) (s : State) : Host.Outcome State Fault Refusal :=
  let c := carrier.toNat
  runCommand 0x10 11 s
    (carrierCommand s (fun o => o == .active) carrier (address.toNat % 16 == 0)
      (if (s.ctx c).state = .idle && !s.records.engine.writeBackQueued c then
        .acts s (attachRun s.setting (Run.start s.records) c address)
      else .refused .conflict))

/-- DETACH (R98). -/
def execDetach (carrier : Half) (s : State) : Host.Outcome State Fault Refusal :=
  let c := carrier.toNat
  let v := Run.start s.records
  runCommand 0x11 3 s
    (carrierCommand s OpState.moving carrier true
      (match (s.ctx c).state with
      | .attached => .acts s (routeEnd s.setting v c .detached)
      | .running => .acts s (halt s.setting v c .detach)
      | .vacant => .refused .conflict
      | .idle => .refused .conflict
      | .halting => .refused .conflict
      | .stopped => .refused .conflict))

/-- STOP (R98). -/
def execStop (carrier : Half) (s : State) : Host.Outcome State Fault Refusal :=
  let c := carrier.toNat
  runCommand 0x12 3 s
    (carrierCommand s OpState.moving carrier true
      (if (s.ctx c).state = .running then .acts s (halt s.setting (Run.start s.records) c .supervisor)
      else .refused .conflict))

/-- RECOVER (R98). -/
def execRecover (carrier : Half) (s : State) : Host.Outcome State Fault Refusal :=
  let c := carrier.toNat
  runCommand 0x13 3 s
    (carrierCommand s (fun o => o == .active) carrier true
      (if (s.ctx c).state = .stopped then
        .acts s ((trim s.setting (Run.start s.records) c).later [.recoverRest c])
      else .refused .conflict))

/-- The run of an accepted RETIRE: the carrier leaves its queue, and the rest of R99 follows in order. -/
def retireRun (e : Setting) (v : Run) (c : Nat) : Run :=
  ((leaveWaiting e v c).modCtx c (fun k => { k with passOver := 0 })).later
    [.clearReservations c, .cancelTurns c, .retireRelease c, .retireRest c]

/-- RETIRE (R99). -/
def execRetire (carrier : Half) (s : State) : Host.Outcome State Fault Refusal :=
  let c := carrier.toNat
  runCommand 0x14 3 s
    (carrierCommand s OpState.loaded carrier true
      (if (s.ctx c).state = .vacant then .refused .conflict
      else .acts s (retireRun s.setting (Run.start s.records) c)))

end Sys2Proof.Machine
end

