-- ==== Sys2Proof/Machine/Queries.lean ====
section
/-! DEFINITION. Machine/Queries.lean: the alert commands, the queries, and the transfers that are no command (R153,
R154, R161, R163). -/

namespace Sys2Proof.Machine

/-- The ten flags a mask names; bits 10 to 15 are ignored (R161, R166). -/
def alertMask (mask : Half) : BitVec 10 := mask.extractLsb' 0 10

/-- CLEAR-ALERTS (R161). -/
def execClearAlerts (mask : Half) (s : State) : Host.Outcome State Fault Refusal :=
  let alerts := s.records.alerts &&& ~~~alertMask mask
  runCommand 0x15 3 s
    (.done { s with records := { s.records with alerts := alerts } } (alertData alerts s.supervisor.enable))

/-- SET-ALERT-ENABLE (R161). -/
def execSetAlertEnable (mask : Half) (s : State) : Host.Outcome State Fault Refusal :=
  runCommand 0x16 3 s
    (.done { s with supervisor := { s.supervisor with enable := alertMask mask } }
      (alertData s.records.alerts (alertMask mask)))

/-- READ-STATUS (R163). -/
def execReadStatus (s : State) : Host.Outcome State Fault Refusal := runCommand 0x17 1 s (.done s (statusData s))

/-- A query of a record that may not be defined: STATE, then RANGE, then the data (R163). -/
def query {α : Type} (s : State) (accepts : Bool) (record : Option α) (data : α → List Byte) : Plan :=
  if accepts then
    match record with
    | some a => .done s (data a)
    | none => .refused .range
  else .refused .state

/-- The record a number names, where the number is in its range. -/
def named {α : Type} (inRange : Bool) (t : Table α) (n : Nat) : Option α := if inRange then Table.find t n else none

/-- Every state but UNCONFIGURED (R163). -/
def OpState.mapped : OpState → Bool
  | .unconfigured => false
  | .loading => true
  | .standby => true
  | .active => true
  | .allStop => true

/-- READ-CELL (R163, R41). -/
def execReadCell (cell : Half) (s : State) : Host.Outcome State Fault Refusal :=
  runCommand 0x18 3 s
    (query s s.setting.op.mapped (named (isCell cell) s.setting.map.cells cell.toNat) (cellData s cell.toNat))

/-- READ-CARRIER (R163). -/
def execReadCarrier (carrier : Half) (s : State) : Host.Outcome State Fault Refusal :=
  runCommand 0x19 3 s
    (query s s.setting.op.loaded (if isCarrier carrier then some carrier.toNat else none) (carrierData s))

/-- READ-CORRIDOR (R163). -/
def execReadCorridor (corridor : Byte) (s : State) : Host.Outcome State Fault Refusal :=
  runCommand 0x1A 2 s
    (query s s.setting.op.mapped
      (named (decide (corridor.toNat < Config.corridors)) s.setting.map.corridors corridor.toNat)
      (corridorData s corridor.toNat))

/-- READ-GATE (R163, R132). -/
def execReadGate (gate : Byte) (s : State) : Host.Outcome State Fault Refusal :=
  runCommand 0x1B 2 s
    (query s s.setting.op.mapped (named (decide (gate.toNat < Config.gates)) s.setting.map.gates gate.toNat)
      (gateData s gate.toNat))

/-- READ-DEADLOCK (R163, R140). -/
def execReadDeadlock (record : Byte) (s : State) : Host.Outcome State Fault Refusal :=
  runCommand 0x1C 2 s
    (query s s.setting.op.loaded
      (if record.toNat < Config.deadlockRecords then some (Table.find s.records.deadlocks record.toNat) else none)
      deadlockData)

/-- A link of the part. -/
def State.link (s : State) (l : Nat) : Link := Table.at s.records.links Link.reset l

/-- `s` with a link controller set. -/
def State.setLink (s : State) (l : Nat) (k : Link) : State :=
  { s with records := { s.records with links := Table.put s.records.links Link.reset l k } }

/-- READ-LINK (R163, R146): the counters are cleared after their values have been taken, where the clear byte is not
0. -/
def execReadLink (link clear : Byte) (s : State) : Host.Outcome State Fault Refusal :=
  let k := s.link link.toNat
  let part := if clear = 0 then s else s.setLink link.toNat k.cleared
  runCommand 0x1D 3 s
    (if link.toNat < Config.links then .done part (linkData k) else .refused .range)

/-- The response buffer shifted out by a transfer that takes no command (R153); nothing happens while RESET_N is
asserted (R159). -/
def shiftBuffer (bytes : Nat) (s : State) : Host.Outcome State Fault Refusal :=
  if s.pins.resetN = .low then .next s
  else .next { s with supervisor := { s.supervisor with dataOut := shiftOut s.supervisor.response bytes } }

/-- A read transfer (R153): the response buffer is shifted out, and nothing else changes. -/
def execReadTransfer (bytes : Nat) (s : State) : Host.Outcome State Fault Refusal := shiftBuffer bytes s

/-- A frame that is no command of the part is answered UNKNOWN under its own code (R154, R166). A list without a
code, or with code 0, is no such frame but a read transfer (R153). -/
def execUnknownCommand (frame : List Byte) (s : State) : Host.Outcome State Fault Refusal :=
  match frame with
  | [] => shiftBuffer 0 s
  | code :: rest =>
    if code = 0 then shiftBuffer (rest.length + 1) s
    else runCommand code (rest.length + 1) s (.refused .unknown)

end Sys2Proof.Machine
end

