-- ==== Sys2Proof/Machine/Pins.lean ====
section
/-! DEFINITION. Machine/Pins.lean: ESTOP_N, RESET_N, the READY inputs and the PCI Express reset (R111, R122, R156,
R159). Pins are followed while RESET_N is asserted; records then are not (log entry 6). -/

namespace Sys2Proof.Machine

/-- The part after ESTOP_N has become active: the level kept and the ESTOP alert raised (R156). -/
def State.estopRaised (s : State) : State :=
  { s with
    supervisor := { s.supervisor with estopLevel := .low }
    records := ((Run.start s.records).raise .estop).records }

/-- A level change on ESTOP_N (R156). A presented level equal to the pin's is no change. -/
def execEstopNLevelChange (level : Level) (s : State) : Host.Outcome State Fault Refusal :=
  if s.pins.estopN = level then .next s
  else
    let s := { s with pins := { s.pins with estopN := level } }
    if s.pins.resetN = .low then .next s
    else
      match level with
      | .high => .next { s with supervisor := { s.supervisor with estopLevel := .high } }
      | .low =>
        let s := s.estopRaised
        if s.setting.op = .active then
          finish (s.enter .allStop) ((Run.start s.records).later s.haltAll)
        else .next s

/-- The part with every record at its hard reset value; the levels of the input pins are outside the records (R159,
log entry 6). -/
def State.hardReset (s : State) : State :=
  { s with
    setting := { Setting.reset with ready := s.setting.ready }
    records := { Records.reset with engine := { Engine.reset with perst := s.records.engine.perst } }
    supervisor := Supervisor.reset s.pins.estopN }

/-- The assertion of RESET_N (R159): from now on the part takes no command and counts no tick. -/
def execHardReset (s : State) : Host.Outcome State Fault Refusal :=
  .next { s.hardReset with pins := { s.pins with resetN := .low } }

/-- The release of RESET_N (R159): every record holds its hard reset value, the ESTOP_N level is read from the pin and
the carrier link rate is sampled. A RESET_N that is not asserted is not released. -/
def execResetNRelease (clrate : BitVec 2) (s : State) : Host.Outcome State Fault Refusal :=
  if s.pins.resetN = .low then
    .next { s.hardReset with pins := { s.pins with resetN := .high, clrate := clrate } }
  else .next s

/-- What a READY change to a level does to the gate unit: a CALLING gate opens, an OPEN or DRAINING gate faults (R122,
R125, R129). -/
def readyRun (e : Setting) (v : Run) (g : Nat) : Run :=
  match v.gateState g with
  | .calling => if e.readyActive g then gateOpens v g else v
  | .opened => if e.readyActive g then v else gateFaults e v g
  | .draining => if e.readyActive g then v else gateFaults e v g
  | .shut => v
  | .fault => v

/-- A level change on the READY input of a gate (R122). A presented level equal to the pin's is no change. -/
def execReadyChange (gate : Fin 16) (level : Level) (s : State) : Host.Outcome State Fault Refusal :=
  if Table.at s.setting.ready .low gate = level then .next s
  else
    let s := { s with setting := { s.setting with ready := Table.put s.setting.ready .low gate level } }
    if s.pins.resetN = .low then .next s
    else finish s (readyRun s.setting (Run.start s.records) gate)

/-- `s` with the level of PE_PERST_N set, seen by the engine. -/
def State.setPerst (s : State) (asserted : Bool) : State :=
  { s with records := { s.records with engine := { s.records.engine with perst := asserted } } }

/-- The assertion of PE_PERST_N (R111). -/
def execPePerstNAsserted (s : State) : Host.Outcome State Fault Refusal :=
  if s.pins.resetN = .low then .next (s.setPerst true)
  else finish s (perstAsserted s.setting (Run.start s.records))

/-- The release of PE_PERST_N (R111): the engine may serve its queue again. -/
def execPePerstNReleased (s : State) : Host.Outcome State Fault Refusal := .next (s.setPerst false)

end Sys2Proof.Machine
end

