-- ==== Sys2Proof/Machine/Timers.lean ====
section
/-! DEFINITION. Machine/Timers.lean: the tick and the expiries (R37, R100, R101, R111, R127, R128, R162). A tick that
counts a timer's last tick marks it due; its expiry is then an event of its own, taken after the tick (R37). An expiry
event of a timer that is not due does not occur, and leaves the part as it is. -/

namespace Sys2Proof.Machine

/-- A cell's clearance countdown at a tick (R37). -/
def CellRun.tick (r : CellRun) : CellRun :=
  if 1 < r.countdown then { r with countdown := r.countdown - 1 }
  else if r.countdown = 1 then { r with due := true }
  else r

/-- A timer at a tick: the ticks left, and whether its last tick has been counted. -/
def tickTimer (timer : Option Nat) (due : Bool) : Option Nat × Bool :=
  match timer with
  | some n => if 1 < n then (some (n - 1), due) else (some n, true)
  | none => (none, due)

/-- A gate's timer at a tick (R121). -/
def GateRun.tick (r : GateRun) : GateRun :=
  { r with timer := (tickTimer r.timer r.due).1, due := (tickTimer r.timer r.due).2 }

/-- The read timer at a tick (R111). -/
def Engine.tick (g : Engine) : Engine :=
  { g with timer := (tickTimer g.timer g.due).1, due := (tickTimer g.timer g.due).2 }

/-- A carrier's silence counter at a tick (R100). -/
def Context.tick (k : Context) : Context :=
  if k.state.counts then { k with silence := min Config.silenceMax (k.silence + 1) } else k

/-- The part after a tick: the tick counter increased, every running timer and counter counted (R162). -/
def State.ticked (s : State) : State :=
  { s with
    setting := { s.setting with tick := s.setting.tick + 1 }
    records := { s.records with
      cells := s.records.cells.map (fun p => (p.1, p.2.tick))
      gates := s.records.gates.map (fun p => (p.1, p.2.tick))
      carriers := s.records.carriers.map (fun p => (p.1, p.2.tick))
      engine := s.records.engine.tick } }

/-- A tick of the time base (R162); none is counted while RESET_N is asserted (R159). -/
def execTick (s : State) : Host.Outcome State Fault Refusal :=
  if s.pins.resetN = .low then .next s else .next s.ticked

/-- The expiry of a cell's clearance countdown: the waiters recomputed, and the cell offered unless it is closed
(R37). -/
def clearanceRun (e : Setting) (v : Run) (x : Nat) : Run :=
  let r := v.cell x
  if r.due then
    let v := recompute e (v.setCell x { r with countdown := 0, due := false }) x
    if r.closed then v else v.later [.offer x]
  else v

/-- CLEARANCE_COUNTDOWN_EXPIRY (R37). -/
def execClearanceCountdownExpiry (cell : Fin 2048) (s : State) : Host.Outcome State Fault Refusal :=
  runEvent s (fun e v => clearanceRun e v cell)

/-- SILENCE_LIMIT (R100). -/
def execSilenceLimit (carrier : Fin 256) (s : State) : Host.Outcome State Fault Refusal :=
  runEvent s (fun e v => silenceReached e v carrier)

/-- LOST_LIMIT (R101). -/
def execLostLimit (carrier : Fin 256) (s : State) : Host.Outcome State Fault Refusal :=
  runEvent s (fun e v => lostReached e v carrier)

/-- Whether a gate's timer has expired. -/
def Run.gateDue (v : Run) (g : Nat) : Bool := ((v.gate g).map GateRun.due).getD false

/-- CALL_TIMER_EXPIRY (R128). -/
def execCallTimerExpiry (gate : Fin 16) (s : State) : Host.Outcome State Fault Refusal :=
  runEvent s (fun e v => if v.gateState gate == .calling && v.gateDue gate then gateFaults e v gate else v)

/-- HOLD_OPEN_EXPIRY (R127). -/
def execHoldOpenExpiry (gate : Fin 16) (s : State) : Host.Outcome State Fault Refusal :=
  runEvent s (fun _ v => if v.gateState gate == .opened && v.gateDue gate then gateShut v gate else v)

/-- READ_TIMER_EXPIRY (R111). -/
def execReadTimerExpiry (s : State) : Host.Outcome State Fault Refusal := runEvent s readTimerExpires

end Sys2Proof.Machine
end

