-- ==== Sys2Proof/Machine/Events.lean ====
section
/-! DEFINITION. Machine/Events.lean: the events of the carrier links and of the route fetch engine (R86 to R94, R111 to
R118, R143 to R150). -/

namespace Sys2Proof.Machine

/-- `v` with a link's receiver replaced. -/
def Run.setReceiver (v : Run) (l : Nat) (r : Receiver) : Run := v.setLink l { v.link l with receiver := r }

/-- A frame that has passed checks 1 to 5 completes on link `l`: the receiver hunts for the next one (R143), and the
frame is checked and handed over. -/
def goodFrame (e : Setting) (v : Run) (l c : Nat) (q : Request) : Run :=
  frameArrives e (v.setReceiver l Receiver.hunting) l c q

/-- ASK: a frame on a link, good but for check 6 (R90, R94, R147). -/
def execAsk (link : Fin 4) (carrier : Byte) (front : Half) (speed requested flags : Byte) (s : State) :
    Host.Outcome State Fault Refusal :=
  runEvent s (fun e v =>
    goodFrame e v link carrier.toNat (.ask front.toNat speed.toNat requested.toNat (resumeFlag flags)))

/-- PASS: a frame on a link, good but for check 6 (R87, R88, R94, R147). -/
def execPass (link : Fin 4) (carrier : Byte) (front rear cell : Half) (speed : Byte) (s : State) :
    Host.Outcome State Fault Refusal :=
  runEvent s (fun e v =>
    goodFrame e v link carrier.toNat (.pass front.toNat rear.toNat cell.toNat speed.toNat))

/-- DONE: a frame on a link, good but for check 6 (R91, R94, R147). -/
def execDone (link : Fin 4) (carrier : Byte) (front : Half) (speed : Byte) (s : State) :
    Host.Outcome State Fault Refusal :=
  runEvent s (fun e v => goodFrame e v link carrier.toNat (.done front.toNat speed.toNat))

/-- FRAME_FAILURE: the frame is discarded, its counter increased, and the receiver hunts (R145). -/
def execFrameFailure (link : Fin 4) (failure : FrameFailure) (s : State) : Host.Outcome State Fault Refusal :=
  runEvent s (fun _ v => countFailure (v.setReceiver link Receiver.hunting) link failure)

/-- What a character on a receive line does: the receiver moves, and a frame it completes is counted or handed over in
the same event (R143 to R147). -/
def characterRun (e : Setting) (v : Run) (l : Nat) (char : Byte) (framingError : Bool) : Run :=
  let taken := (v.link l).receiver.take char framingError
  let v := v.setReceiver l taken.1
  match taken.2 with
  | .collecting => v
  | .failed f => countFailure v l f
  | .framed c q => frameArrives e v l c q

/-- CHARACTER_RECEIVED (R143). -/
def execCharacterReceived (link : Fin 4) (char : Byte) (framingError : Bool) (s : State) :
    Host.Outcome State Fault Refusal :=
  runEvent s (fun e v => characterRun e v link char framingError)

/-- TRANSMISSION_START: an idle transmitter takes the head of its queue (R150). -/
def execTransmissionStart (link : Fin 4) (s : State) : Host.Outcome State Fault Refusal :=
  runEvent s (fun _ v => v.setLink link (v.link link).start)

/-- TRANSMISSION_COMPLETE: the last character has left the line, and the head of the queue, if any, is started
(R150). -/
def execTransmissionComplete (link : Fin 4) (s : State) : Host.Outcome State Fault Refusal :=
  runEvent s (fun _ v => v.setLink link (v.link link).complete)

/-- READ_COMPLETION (R111). -/
def execReadCompletion (number : Byte) (status : CompletionStatus) (data : List Byte) (s : State) :
    Host.Outcome State Fault Refusal :=
  runEvent s (fun e v => completionArrives e v number status data)

/-- SERVE_FETCH (R111 to R113). -/
def execServeFetch (s : State) : Host.Outcome State Fault Refusal := runEvent s (fun _ v => serveFetch v)

/-- SERVE_WRITE_BACK (R111). -/
def execServeWriteBack (s : State) : Host.Outcome State Fault Refusal := runEvent s (fun _ v => serveWriteBack v)

end Sys2Proof.Machine
end

