-- ==== Sys2Proof/Machine/Dispatch.lean ====
section
/-! DEFINITION. Machine/Dispatch.lean: every command and event with its meaning. -/

namespace Sys2Proof.Machine

def exec (i : Instr) (s : State) : Host.Outcome State Fault Refusal :=
  match i with
  | .mapBegin => Sys2Proof.Machine.execMapBegin s
  | .mapCell cell kind length limit clearance port0 port1 port2 port3 capacity entryPort exitPort gate => Sys2Proof.Machine.execMapCell cell kind length limit clearance port0 port1 port2 port3 capacity entryPort exitPort gate s
  | .mapCorridor corridor members => Sys2Proof.Machine.execMapCorridor corridor members s
  | .mapGate gate portal polarity callLimit holdOpen partner => Sys2Proof.Machine.execMapGate gate portal polarity callLimit holdOpen partner s
  | .mapClass cls decel margin vmax hmax priority allowance silence lost => Sys2Proof.Machine.execMapClass cls decel margin vmax hmax priority allowance silence lost s
  | .mapEnd => Sys2Proof.Machine.execMapEnd s
  | .activate => Sys2Proof.Machine.execActivate s
  | .allStop => Sys2Proof.Machine.execAllStop s
  | .resumeAll => Sys2Proof.Machine.execResumeAll s
  | .restart => Sys2Proof.Machine.execRestart s
  | .closeCell cell => Sys2Proof.Machine.execCloseCell cell s
  | .openCell cell => Sys2Proof.Machine.execOpenCell cell s
  | .setLimit cell limit => Sys2Proof.Machine.execSetLimit cell limit s
  | .gateReset gate => Sys2Proof.Machine.execGateReset gate s
  | .enrol carrier cls cell base size => Sys2Proof.Machine.execEnrol carrier cls cell base size s
  | .attach carrier address => Sys2Proof.Machine.execAttach carrier address s
  | .detach carrier => Sys2Proof.Machine.execDetach carrier s
  | .stop carrier => Sys2Proof.Machine.execStop carrier s
  | .recover carrier => Sys2Proof.Machine.execRecover carrier s
  | .retire carrier => Sys2Proof.Machine.execRetire carrier s
  | .clearAlerts mask => Sys2Proof.Machine.execClearAlerts mask s
  | .setAlertEnable mask => Sys2Proof.Machine.execSetAlertEnable mask s
  | .readStatus => Sys2Proof.Machine.execReadStatus s
  | .readCell cell => Sys2Proof.Machine.execReadCell cell s
  | .readCarrier carrier => Sys2Proof.Machine.execReadCarrier carrier s
  | .readCorridor corridor => Sys2Proof.Machine.execReadCorridor corridor s
  | .readGate gate => Sys2Proof.Machine.execReadGate gate s
  | .readDeadlock record => Sys2Proof.Machine.execReadDeadlock record s
  | .readLink link clear => Sys2Proof.Machine.execReadLink link clear s
  | .readTransfer bytes => Sys2Proof.Machine.execReadTransfer bytes s
  | .unknownCommand frame => Sys2Proof.Machine.execUnknownCommand frame s
  | .estopNLevelChange level => Sys2Proof.Machine.execEstopNLevelChange level s
  | .hardReset => Sys2Proof.Machine.execHardReset s
  | .resetNRelease clrate => Sys2Proof.Machine.execResetNRelease clrate s
  | .tick => Sys2Proof.Machine.execTick s
  | .clearanceCountdownExpiry cell => Sys2Proof.Machine.execClearanceCountdownExpiry cell s
  | .silenceLimit carrier => Sys2Proof.Machine.execSilenceLimit carrier s
  | .lostLimit carrier => Sys2Proof.Machine.execLostLimit carrier s
  | .callTimerExpiry gate => Sys2Proof.Machine.execCallTimerExpiry gate s
  | .holdOpenExpiry gate => Sys2Proof.Machine.execHoldOpenExpiry gate s
  | .readTimerExpiry => Sys2Proof.Machine.execReadTimerExpiry s
  | .readyChange gate level => Sys2Proof.Machine.execReadyChange gate level s
  | .pePerstNAsserted => Sys2Proof.Machine.execPePerstNAsserted s
  | .pePerstNReleased => Sys2Proof.Machine.execPePerstNReleased s
  | .ask link carrier front speed requested flags => Sys2Proof.Machine.execAsk link carrier front speed requested flags s
  | .pass link carrier front rear cell speed => Sys2Proof.Machine.execPass link carrier front rear cell speed s
  | .done link carrier front speed => Sys2Proof.Machine.execDone link carrier front speed s
  | .frameFailure link failure => Sys2Proof.Machine.execFrameFailure link failure s
  | .readCompletion number status data => Sys2Proof.Machine.execReadCompletion number status data s
  | .serveFetch => Sys2Proof.Machine.execServeFetch s
  | .serveWriteBack => Sys2Proof.Machine.execServeWriteBack s
  | .transmissionStart link => Sys2Proof.Machine.execTransmissionStart link s
  | .transmissionComplete link => Sys2Proof.Machine.execTransmissionComplete link s
  | .characterReceived link char framingError => Sys2Proof.Machine.execCharacterReceived link char framingError s

end Sys2Proof.Machine
end

