-- ==== Sys2Proof/Safety.lean ====
section
/-! DEFINITION. Safety.lean: what counts as a safe state of the part: the laws of the device as far as the records of
one state show them, the canonical form of the records, and what it is for a carrier to wait for nothing. -/

namespace Sys2Proof.Machine

/-- The runtime record of a cell of the part. -/
def State.cell (s : State) (x : Nat) : CellRun := Table.at s.records.cells CellRun.free x

/-- The runtime record of a corridor of the part. -/
def State.corridor (s : State) (k : Nat) : CorridorRun := Table.at s.records.corridors CorridorRun.idle k

/-- The runtime record of a gate of the part, if the gate has one. -/
def State.gate (s : State) (g : Nat) : Option GateRun := Table.find s.records.gates g

/-- The reservation list of a carrier of the part. -/
def State.reservations (s : State) (c : Nat) : List (Nat × Nat) := Table.at s.records.reservations [] c

/-- The start of an event on the part. -/
def State.run (s : State) : Run := Run.start s.records

/-- First law (R22): no cell has more holders than its capacity or one holder twice, and a reserved cell of capacity 1
has no holder. -/
def State.firstLaw (s : State) : Prop :=
  ∀ x r, Table.find s.records.cells x = some r →
    r.holders.length ≤ s.setting.map.capacity x ∧ r.holders.Nodup ∧ (r.reservedFor.isSome → r.holders = [])

/-- A cell lists a carrier as holder exactly when the carrier's held list contains the cell (R22). -/
def State.holdersAgree (s : State) : Prop := ∀ x c, c ∈ (s.cell x).holders ↔ (s.ctx c).holds x = true

/-- The carrier states an operating state allows (Section 10.2). -/
def OpState.allows : OpState → CarrierState → Bool
  | .unconfigured, k => k == .vacant
  | .loading, k => k == .vacant
  | .standby, k => k == .vacant || k == .idle
  | .active, _ => true
  | .allStop, k => k != .running

/-- Every carrier's state is one the operating state allows (Section 10.2), and no carrier beyond 255 is enrolled. -/
def State.statesAllowed (s : State) : Prop :=
  (∀ c, s.setting.op.allows (s.ctx c).state = true) ∧ (∀ c, Config.carriers ≤ c → (s.ctx c).state = .vacant)

/-- On a map that has passed, reserved-for is absent on every LANE (R21). -/
def State.lanesUnreserved (s : State) : Prop :=
  s.setting.op.loaded = true → ∀ x, s.setting.map.isLane x = true → (s.cell x).reservedFor = none

/-- The first law with what keeps it: holder lists and held lists agree (R22), no held list names a cell twice, a VACANT
carrier holds nothing (R103), every carrier state is allowed, and no LANE is reserved (R21). -/
def State.holdingsSound (s : State) : Prop :=
  s.firstLaw ∧ s.holdersAgree ∧ (∀ c, ((s.ctx c).held.map Held.cell).Nodup) ∧
    (∀ c, (s.ctx c).state = .vacant → (s.ctx c).held = []) ∧ s.statesAllowed ∧ s.lanesUnreserved

/-- A carrier that is RUNNING with contact LIVE: the only one that waits in a queue or has a reservation (R24, R33). -/
def Context.runsLive (k : Context) : Prop := k.state = .running ∧ k.contact = .live

/-- Second law (R33), with what R21 says of reservations: a cell is reserved for a carrier exactly when it is on that
carrier's reservation list, no list names a cell twice, and only a RUNNING carrier with contact LIVE has a
reservation. -/
def State.secondLaw (s : State) : Prop :=
  (∀ x c, (s.cell x).reservedFor = some c ↔ x ∈ (s.reservations c).map Prod.fst) ∧
    (∀ c, ((s.reservations c).map Prod.fst).Nodup) ∧ (∀ c, s.reservations c ≠ [] → (s.ctx c).runsLive)

/-- The wait queues (R23, R24): a carrier stands in the queue of a cell only while it is RUNNING with contact LIVE and
its wait record names that cell, so in at most one queue, and in it at most once; every queue is in the order of
priority and then of seniority, and the order of seniority names every waiter, and nobody twice. -/
def State.waitsSound (s : State) : Prop :=
  s.records.seniority.Nodup ∧
    ∀ x, ((s.cell x).queue.map Waiter.carrier).Nodup ∧
      (s.cell x).queue.Pairwise (fun a b => aheadOf s.records.seniority a b = true) ∧
      ∀ w ∈ (s.cell x).queue, w.carrier ∈ s.records.seniority ∧ (s.ctx w.carrier).runsLive ∧
        (s.ctx w.carrier).waitsAt x = true

/-- The step records a read covers (R112, R113). -/
def ReadInFlight.records (r : ReadInFlight) : Nat := (r.length - (if r.first then 16 else 0)) / 8

/-- Sixth law, the windows' part (R107): every window has one of the three sizes, is aligned to it and lies in the step
store; it holds at most its size of steps, and no more than have been fetched; the windows of two enrolled carriers have
no slot in common. With what keeps it: a read in flight covers at most 8 step records, and where it is still of its
carrier's route no more than its window has free slots (R112, R113). -/
def State.windowsSound (s : State) : Prop :=
  (∀ c, ((s.ctx c).windowSize = 8 ∨ (s.ctx c).windowSize = 16 ∨ (s.ctx c).windowSize = 32) ∧
    (s.ctx c).windowBase % (s.ctx c).windowSize = 0 ∧ (s.ctx c).windowBase + (s.ctx c).windowSize ≤ Config.slots ∧
    (s.ctx c).windowCount ≤ (s.ctx c).windowSize ∧ (s.ctx c).windowCount ≤ (s.ctx c).nextStep) ∧
  (∀ c d, c < Config.carriers → d < Config.carriers → c ≠ d →
    (s.ctx c).state ≠ .vacant → (s.ctx d).state ≠ .vacant →
    (s.ctx c).windowBase + (s.ctx c).windowSize ≤ (s.ctx d).windowBase ∨
      (s.ctx d).windowBase + (s.ctx d).windowSize ≤ (s.ctx c).windowBase) ∧
  (∀ r, s.records.engine.inFlight = some r → r.records ≤ Config.stepReadLimit ∧
    (readAccepted s.run r = true → r.records ≤ (s.ctx r.carrier).freeSlots))

/-- A list of carriers is a ring of wait edges: at least two, none twice, each waits on the next and the last on the
first (R137, R138). -/
def isRing (edge : Nat → Option Nat) (ring : List Nat) : Prop :=
  2 ≤ ring.length ∧ ring.Nodup ∧ ∀ i, i < ring.length → (ring[i]?).bind edge = ring[(i + 1) % ring.length]?

/-- Seventh law (R138, R134): each deadlock record in use has a ring of wait edges that stands, of as many carriers as
its member count, of which its member list names the first sixteen; a carrier's mark names a record in use exactly when
it is in that record's ring, so no carrier is in two. With what keeps it: a VACANT carrier holds nothing and has no wait
record. -/
def State.seventhLaw (s : State) : Prop :=
  (∀ n d, Table.find s.records.deadlocks n = some d → n < Config.deadlockRecords ∧
    ∃ ring, isRing s.run.edge ring ∧ ring.length = d.count ∧ ring.take Config.listedMembers = d.members ∧
      ∀ c, Table.find s.records.marks c = some n ↔ c ∈ ring) ∧
  (∀ c n, Table.find s.records.marks c = some n → (Table.find s.records.deadlocks n).isSome = true) ∧
  (∀ c, (s.ctx c).state = .vacant → (s.ctx c).held = [] ∧ (s.ctx c).wait = none)

/-- The part of the fourth law that one state shows (R64): a FREE corridor has no occupant and no turn. -/
def State.fourthLaw (s : State) : Prop :=
  ∀ k r, Table.find s.records.corridors k = some r → r.direction = .free →
    r.occupants = [] ∧ r.turnRequested = false ∧ r.turnCarrier = none

/-- Fifth law (R122): at most one gate of an airlock pair asserts REQUEST. Before a map has passed there is no gate
record. -/
def State.fifthLaw (s : State) : Prop :=
  (s.setting.op.loaded = false → s.records.gates = []) ∧
    ∀ g p, s.setting.map.partner g = some p → ¬(s.run.gateActive g = true ∧ s.run.gateActive p = true)

/-- Eighth law, the links' part (R149): an outbound queue holds at most 32 messages and at most one per carrier. -/
def State.linkQueuesBounded (s : State) : Prop :=
  ∀ l, (s.link l).queue.length ≤ Config.outboundLimit ∧ ((s.link l).queue.map Message.carrier).Nodup

/-- The carriers with a fetch request in the engine queue, in queue order. -/
def Engine.fetching (g : Engine) : List Nat :=
  g.queue.filterMap (fun r => match r with
    | .fetch c _ => some c
    | .writeBack _ _ _ _ _ _ => none)

/-- The carriers with a write-back request in the engine queue, in queue order. -/
def Engine.writingBack (g : Engine) : List Nat :=
  g.queue.filterMap (fun r => match r with
    | .fetch _ _ => none
    | .writeBack c _ _ _ _ _ => some c)

/-- A carrier with a route attached: neither VACANT nor IDLE (R80). -/
def CarrierState.routed : CarrierState → Bool
  | .vacant => false
  | .idle => false
  | .attached => true
  | .running => true
  | .halting => true
  | .stopped => true

/-- Eighth law, the engine's part (R109): at most one fetch and one write-back per carrier in the engine queue; with
what keeps it: a carrier has a route address exactly while it has a route, a fetch request is queued only for a carrier
with a route, and a write-back only for one without (R83, R85, R119). -/
def State.engineQueueBounded (s : State) : Prop :=
  s.records.engine.fetching.Nodup ∧ s.records.engine.writingBack.Nodup ∧
    (∀ c, (s.ctx c).routeAddr.isSome = (s.ctx c).state.routed) ∧
    (∀ c ∈ s.records.engine.fetching, (s.ctx c).state.routed = true) ∧
    (∀ c ∈ s.records.engine.writingBack, (s.ctx c).state.routed = false)

/-- No record of a table equals the value that an unlisted record reads as. -/
def Table.trimmed {α : Type} [DecidableEq α] (t : Table α) (d : α) : Bool := t.all (fun p => p.2 != d)

/-- The canonical form of every record: numbers strictly rising, and no record listed that reads as an unlisted one, so
that equal parts are equal data. -/
def State.canonical (s : State) : Bool :=
  Table.wf s.setting.map.cells && Table.wf s.setting.map.corridors && Table.wf s.setting.map.gates &&
    Table.wf s.setting.map.classes && Table.wf s.setting.ready && Table.trimmed s.setting.ready .low &&
    Table.wf s.records.cells && Table.wf s.records.reservations && Table.trimmed s.records.reservations [] &&
    Table.wf s.records.corridors && Table.wf s.records.gates &&
    Table.wf s.records.carriers && Table.trimmed s.records.carriers Context.vacant &&
    Table.wf s.records.slots && Table.trimmed s.records.slots Slot.blank &&
    Table.wf s.records.links && Table.trimmed s.records.links Link.reset &&
    Table.wf s.records.deadlocks && Table.wf s.records.marks

/-- A carrier that stands in no queue, has no reservation, no wait record, no deadlock mark and no turn: nothing but
its own context changes when it gives up its claims. -/
def State.claimsNothing (s : State) (c : Nat) : Prop :=
  s.run.queueOf c = none ∧ s.reservations c = [] ∧ (s.ctx c).wait = none ∧ Table.find s.records.marks c = none ∧
    ∀ k ∈ Table.keys s.records.corridors, (s.corridor k).turnCarrier ≠ some c

/-- RESET_N is not asserted: the part is in service (R159). -/
def State.inService (s : State) : Prop := s.pins.resetN = .high

/-- Two sets of records with the same track: the rights table, the corridor unit, the gate unit, the step store and
the deadlock monitor hold the same; the order of seniority is not compared. -/
def Records.sameTrack (r q : Records) : Prop :=
  q.cells = r.cells ∧ q.reservations = r.reservations ∧ q.corridors = r.corridors ∧ q.gates = r.gates ∧
    q.slots = r.slots ∧ q.deadlocks = r.deadlocks ∧ q.marks = r.marks

/-- Everything about a carrier but the edge of its wait record. -/
def Context.butEdge (k : Context) : Context := { k with wait := k.wait.map (fun w => { w with edge := none }) }

/-- Everything about a cell but the block causes recorded for its waiters. -/
def CellRun.butCauses (r : CellRun) : CellRun :=
  { r with queue := r.queue.map (fun w => { w with cause := .closed }) }

end Sys2Proof.Machine
end

