-- ==== Sys2Proof/WellFormed.lean ====
section
/-! DEFINITION. WellFormed.lean: which terms of Instr stand for something that can arrive at the block. Operands of
a fixed width are in range by their types; three rows have an operand of varying length, and each has its check. -/

namespace Sys2Proof

/-- MAP-CORRIDOR's count is one byte, so a frame carries at most 255 members (R166). -/
def corridorCountFits (members : List Half) : Bool := decide (members.length ≤ 255)

/-- The frame of UNKNOWN_COMMAND fails test 1 of R154: it is neither a read transfer nor a command's frame. -/
def isUnknownFrame (frame : List Byte) : Bool := decide (decodeTransfer frame = .unknownCommand frame)

/-- A completion that reports an abort carries no data (R111). -/
def completionShape (status : CompletionStatus) (data : List Byte) : Bool :=
  status != .aborted || data.isEmpty

/-- Whether a term stands for a command or an event that can arrive. -/
def Instr.wellFormed : Instr → Bool
  | .mapBegin => true
  | .mapCell _ _ _ _ _ _ _ _ _ _ _ _ _ => true
  | .mapCorridor _ members => corridorCountFits members
  | .mapGate _ _ _ _ _ _ => true
  | .mapClass _ _ _ _ _ _ _ _ _ => true
  | .mapEnd => true
  | .activate => true
  | .allStop => true
  | .resumeAll => true
  | .restart => true
  | .closeCell _ => true
  | .openCell _ => true
  | .setLimit _ _ => true
  | .gateReset _ => true
  | .enrol _ _ _ _ _ => true
  | .attach _ _ => true
  | .detach _ => true
  | .stop _ => true
  | .recover _ => true
  | .retire _ => true
  | .clearAlerts _ => true
  | .setAlertEnable _ => true
  | .readStatus => true
  | .readCell _ => true
  | .readCarrier _ => true
  | .readCorridor _ => true
  | .readGate _ => true
  | .readDeadlock _ => true
  | .readLink _ _ => true
  | .readTransfer _ => true
  | .unknownCommand frame => isUnknownFrame frame
  | .estopNLevelChange _ => true
  | .hardReset => true
  | .resetNRelease _ => true
  | .tick => true
  | .clearanceCountdownExpiry _ => true
  | .silenceLimit _ => true
  | .lostLimit _ => true
  | .callTimerExpiry _ => true
  | .holdOpenExpiry _ => true
  | .readTimerExpiry => true
  | .readyChange _ _ => true
  | .pePerstNAsserted => true
  | .pePerstNReleased => true
  | .ask _ _ _ _ _ _ => true
  | .pass _ _ _ _ _ _ => true
  | .done _ _ _ _ => true
  | .frameFailure _ _ => true
  | .readCompletion _ status data => completionShape status data
  | .serveFetch => true
  | .serveWriteBack => true
  | .transmissionStart _ => true
  | .transmissionComplete _ => true
  | .characterReceived _ _ _ => true

end Sys2Proof
end

