-- ==== Sys2Proof/Certificates/Slice0/Obligations.lean ====
section
/-! DEFINITION. Certificates/Slice0/Obligations.lean: the statements for the provers. Each command or event has a
statement whose conclusion is that it answers a next state and what that state holds; then come the rules of the whole
part and the invariants that every step keeps. -/

open Sys2Proof Sys2Proof.Machine

/-! ## The queue and reset -/

/-- A step takes the command at the front of the queue and runs it with the rest waiting (R153 takes a command whole);
with nothing waiting the part idles, which is the model's choice (log entry 1). -/
def Obligations.StepTakesFront : Prop :=
  (∀ (i : Instr) (rest : List Instr) (s : State), s.pending = i :: rest →
    step s = exec i { s with pending := rest }) ∧
  (∀ s : State, s.pending = [] → step s = .next s)

/-- No command or event changes the queue of those that wait behind it. -/
def Obligations.QueueUntouched : Prop :=
  ∀ (i : Instr) (s t : State), exec i s = .next t → t.pending = s.pending

/-- The part right after hard reset (R20, R42, R79, R103, R120, R132, R141, R152, R159): UNCONFIGURED, map empty, no alert
flag, no enable, tick counter 0, sequence number 0, the reset response; every context VACANT with window base 0, size 8,
grant mark 1, contact LIVE and every other field 0, absent or clear; no runtime record of a cell, corridor or gate, no
reservation, no order of seniority, no deadlock record or mark; the engine without request, read or timer and read
number 0; every link with its receiver in HUNT, its five counters 0, its queue empty and its transmitter IDLE; every slot
blank. The levels of READY, ESTOP_N and PE_PERST_N and the sampled CLRATE are the model's choice (log entry 6) and no part
of this. -/
def Obligations.ResetValues : Prop :=
  State.reset.setting.op = .unconfigured ∧ State.reset.setting.map = MapStore.empty ∧ State.reset.setting.tick = 0 ∧
  State.reset.records.alerts = 0 ∧ State.reset.supervisor.enable = 0 ∧ State.reset.supervisor.sequence = 0 ∧
  State.reset.supervisor.response = [0x00, 0x00, 0x00, 0x00, 0x00] ∧
  (∀ c, State.reset.ctx c =
    { state := .vacant, cls := 0, contact := .live, silence := 0, allowance := 0, used := 0, homeLink := none
      windowBase := 0, windowSize := 8, windowCount := 0, routeAddr := none, routeTag := none, stepCount := none
      nextStep := 0, cutPoint := none, cutResult := none, faultStep := none, generation := 0, grantMark := 1
      front := 0, rear := 0, frontCell := 0, lastSpeed := 0, requested := 0, held := [], blockReason := none
      wait := none, passOver := 0, holdLifted := false, stopCause := none, lastResult := none, validation := none }) ∧
  State.reset.records.cells = [] ∧ (∀ c, State.reset.reservations c = []) ∧ State.reset.records.seniority = [] ∧
  State.reset.records.corridors = [] ∧ State.reset.records.gates = [] ∧
  State.reset.records.deadlocks = [] ∧ State.reset.records.marks = [] ∧
  State.reset.records.engine.queue = [] ∧ State.reset.records.engine.inFlight = none ∧
  State.reset.records.engine.timer = none ∧ State.reset.records.engine.readNumber = 0 ∧
  (∀ l, State.reset.link l =
    { receiver := { state := .hunt, length := 0, body := [], crc := [] }, check := 0, format := 0, unknown := 0
      device := 0, drop := 0, queue := [], transmitter := .idle }) ∧
  (∀ n, Table.at State.reset.records.slots Slot.blank n = { cell := 0, last := false, hold := false, cap := 0 })

/-- The invariants below hold at reset. -/
def Obligations.ResetKeepsLaws : Prop :=
  State.reset.holdingsSound ∧ State.reset.fourthLaw ∧ State.reset.fifthLaw ∧ State.reset.linkQueuesBounded ∧
    State.reset.engineQueueBounded ∧ State.reset.statesAllowed ∧ State.reset.canonical = true ∧
    State.reset.secondLaw ∧ State.reset.waitsSound ∧ State.reset.windowsSound ∧ State.reset.seventhLaw

/-! ## Invariants that every step keeps -/

/-- Eighth law, the links' part (R149): after any step an outbound queue still holds at most 32 messages and at most
one per carrier. -/
def Obligations.LinkQueuesKept : Prop :=
  ∀ s t : State, s.linkQueuesBounded → step s = .next t → t.linkQueuesBounded

/-- First law (R22): after any step no cell has more holders than its capacity, none twice, and none beside a
reservation; with what keeps it, among it that holder lists and held lists agree and that no LANE is reserved (R21).
Second law (R33, R21): after any step a cell is still reserved for a carrier exactly when it is on that carrier's
reservation list, and only a RUNNING carrier with contact LIVE has a reservation. -/
def Obligations.FirstLawKept : Prop :=
  (∀ s t : State, s.holdingsSound → step s = .next t → t.holdingsSound) ∧
  (∀ s t : State, s.secondLaw → step s = .next t → t.secondLaw)

/-- Everything but the corridor records, wait edges, recorded causes, deadlock records and alerts is as before: what a
change of a corridor's record with its recomputation at the ends leaves alone. -/
def CorridorOnly (v u : Run) (k : Nat) : Prop :=
  (∀ x, (u.cell x).butCauses = (v.cell x).butCauses) ∧ (∀ d, (u.ctx d).butEdge = (v.ctx d).butEdge) ∧
  (∀ j, j ≠ k → u.corridor j = v.corridor j) ∧ u.records.reservations = v.records.reservations ∧
  u.records.gates = v.records.gates ∧ u.records.links = v.records.links ∧ u.records.engine = v.records.engine

/-- The record of a corridor after the part has looked for a turn carrier (R67): in FLOWING, the first waiter at the end
of the other direction that is no occupant and waits for that cell. -/
def appointedRecord (e : Setting) (v : Run) (k : Nat) (r : CorridorRun) : CorridorRun :=
  let far := match r.direction with
    | .free => none
    | .ab => (Table.at e.map.corridors [] k).getLast?
    | .ba => (Table.at e.map.corridors [] k).head?
  let first := far.bind (fun y =>
    (v.cell y).queue.find? (fun w => !r.occupants.contains w.carrier && (v.ctx w.carrier).waitsAt y))
  match first with
  | some w =>
    if r.turnRequested = false ∧ r.turnCarrier = none then
      { r with turnRequested := true, turnCarrier := some w.carrier }
    else r
  | none => r

/-- The corridor unit (R65 to R71) on the record `r` of a corridor. Entry: the carrier joins the occupants, a FREE corridor
takes the direction of the end entered by, a turn carrier that enters is one no more, and a turn carrier is appointed. A
failed entry at an end requests a turn while FLOWING. When the last occupant leaves, a FLOWING corridor becomes FREE and
both ends are offered, a TURN PENDING one turns and its new entry end is offered. A cancelled turn frees a TURNED corridor
without occupants, with both ends offered, and otherwise a new turn carrier is appointed. -/
def CorridorUnitActs : Prop :=
  ∀ (e : Setting) (v : Run) (k c : Nat),
    let r := v.corridor k;
    let ends := ((Table.at e.map.corridors [] k).head?.toList ++ (Table.at e.map.corridors [] k).getLast?.toList);
    (∀ position, let u := corridorEnter e v k position c;
      u.corridor k = appointedRecord e v k { r with
        occupants := r.occupants ++ [c]
        direction := if r.direction = .free then (if position = 0 then .ab else .ba) else r.direction
        turnCarrier := if r.turnCarrier = some c then none else r.turnCarrier } ∧
      CorridorOnly v u k ∧ u.work = v.work) ∧
    (let u := corridorFailed e v k c;
      u.corridor k = (if r.direction ≠ .free ∧ r.turnRequested = false ∧ r.turnCarrier = none
        then { r with turnRequested := true, turnCarrier := some c } else r) ∧ CorridorOnly v u k ∧ u.work = v.work) ∧
    (let u := corridorLeave e v k c;
      let left := r.occupants.filter (· != c);
      CorridorOnly v u k ∧
      (left ≠ [] → u.corridor k = { r with occupants := left } ∧ u.work = v.work) ∧
      (left = [] → r.direction ≠ .free → r.turnRequested = false → r.turnCarrier = none →
        u.corridor k = { r with occupants := [], direction := .free } ∧ u.work = v.work ++ ends.map .offer) ∧
      (left = [] → r.direction = .ab → r.turnRequested = true →
        u.corridor k = { r with occupants := [], direction := .ba, turnRequested := false } ∧
        u.work = v.work ++ (Table.at e.map.corridors [] k).getLast?.toList.map .offer) ∧
      (left = [] → r.direction = .ba → r.turnRequested = true →
        u.corridor k = { r with occupants := [], direction := .ab, turnRequested := false } ∧
        u.work = v.work ++ (Table.at e.map.corridors [] k).head?.toList.map .offer) ∧
      (left = [] → r.direction ≠ .free → r.turnRequested = false → r.turnCarrier ≠ none →
        u.corridor k = { r with occupants := [] } ∧ u.work = v.work)) ∧
    (let u := cancelTurn e v k;
      let cleared := { r with turnRequested := false, turnCarrier := none };
      CorridorOnly v u k ∧
      (r.direction ≠ .free → r.turnRequested = false → r.turnCarrier ≠ none → r.occupants = [] →
        u.corridor k = { cleared with direction := .free } ∧ u.work = v.work ++ ends.map .offer) ∧
      (r.turnRequested = true ∨ r.occupants ≠ [] → u.corridor k = appointedRecord e v k cleared ∧ u.work = v.work))

/-- The lane advance (R76): when the oldest holder has left a LANE, each remaining holder that waits there for its order
waits on the holder directly ahead, the oldest on nobody, and the oldest has its attempt next. The holder behind one that
left from elsewhere waits on the holder now ahead of it (R77). -/
def LaneClosesUp : Prop :=
  ∀ (e : Setting) (v : Run) (x : Nat) (behind : Option Nat), (v.cell x).holders.Nodup →
    let l := (v.cell x).holders;
    (let u := laneClosesUp e v x true behind;
      (∀ i h, l[i]? = some h → (v.ctx h).waitsInLane x = true → u.edge h = if i = 0 then none else l[i - 1]?) ∧
      (∀ d, d ∉ l ∨ (v.ctx d).waitsInLane x = false → u.ctx d = v.ctx d) ∧
      (∀ d, (u.ctx d).butEdge = (v.ctx d).butEdge) ∧ u.records.cells = v.records.cells ∧
      u.work = v.work ++ l.head?.toList.map (fun h => .attempt h .noticeIfGranted)) ∧
    (let u := laneClosesUp e v x false behind;
      (∀ b i, behind = some b → l[i]? = some b → (v.ctx b).waitsInLane x = true →
        u.edge b = if i = 0 then none else l[i - 1]?) ∧
      (∀ d, (u.ctx d).butEdge = (v.ctx d).butEdge) ∧ u.records.cells = v.records.cells ∧ u.work = v.work)

/-- Fourth and fifth law (R64, R122): after any step a FREE corridor still has no occupant and no turn, and at most one
gate of an airlock pair is still active. With what moves a corridor and a lane: entry, failed entry, leaving and cancelled
turns (R65 to R71), and the lane closing up behind its oldest holder or another (R76, R77). -/
def Obligations.CorridorAndGateLawsKept : Prop :=
  (∀ s t : State, s.fourthLaw → step s = .next t → t.fourthLaw) ∧
  (∀ s t : State, s.fifthLaw → step s = .next t → t.fifthLaw) ∧ CorridorUnitActs ∧ LaneClosesUp

/-- Eighth law, the engine's part (R109): after any step the engine queue still holds at most one fetch and one
write-back per carrier, with what keeps it. Sixth law, the windows' part (R107): after any step every window is still of
one of the three sizes, aligned, within the step store and apart from every other enrolled carrier's, holds at most its
size of steps, and a read in flight that is still its carrier's covers no more records than the window has free slots. -/
def Obligations.EngineQueueKept : Prop :=
  (∀ s t : State, s.engineQueueBounded → step s = .next t → t.engineQueueBounded) ∧
  (∀ s t : State, s.windowsSound → step s = .next t → t.windowsSound)

/-- The carrier states of Section 10.2: after any step every carrier's state is still one the operating state allows.
The wait queues (R23, R24): after any step from a part in canonical form every waiter is still RUNNING with contact LIVE
and stands in the one queue its wait record names, once, in the order of priority and seniority. -/
def Obligations.CarrierStatesKept : Prop :=
  (∀ s t : State, s.statesAllowed → step s = .next t → t.statesAllowed) ∧
  (∀ s t : State, s.canonical = true → s.waitsSound → step s = .next t → t.waitsSound)

/-- The records keep their canonical form, so that equal parts stay equal data. -/
def Obligations.CanonicalKept : Prop :=
  ∀ s t : State, s.canonical = true → step s = .next t → t.canonical = true

/-! ## Frames on the supervisor link -/

/-- Decoding the frame of a well-formed command gives the command back, and a transfer that does not start with code 0 is
the frame of exactly the command it decodes to (R154, R166). -/
def Obligations.FramesAndCommandsAgree : Prop :=
  (∀ (i : Instr) (bytes : List Byte), i.wellFormed = true → encodeTransfer i = some bytes →
    decodeTransfer bytes = i) ∧
  (∀ (code : Byte) (rest : List Byte), code ≠ 0 →
    encodeTransfer (decodeTransfer (code :: rest)) = some (code :: rest))

/-! ## Map commands (R8 to R15) -/

/-- MAP-BEGIN (R8): accepted in UNCONFIGURED, in LOADING, and in STANDBY with no carrier enrolled, it empties the map
and the runtime records and keeps the rest; with a carrier enrolled it is refused with CONFLICT, in ACTIVE and ALL-STOP
with STATE. -/
def Obligations.MapBeginOpens : Prop :=
  ∀ s : State, s.inService →
    ((s.setting.op = .unconfigured ∨ s.setting.op = .loading ∨
        (s.setting.op = .standby ∧ ∀ c, (s.ctx c).state = .vacant)) →
      ∃ t, exec .mapBegin s = .next t ∧ t.setting.op = .loading ∧ t.setting.map = MapStore.empty ∧
        t.setting.tick = s.setting.tick ∧ t.setting.ready = s.setting.ready ∧
        t.records.cells = [] ∧ t.records.reservations = [] ∧ t.records.seniority = [] ∧ t.records.corridors = [] ∧
        t.records.gates = [] ∧ t.records.deadlocks = [] ∧ t.records.marks = [] ∧
        t.records.alerts = s.records.alerts ∧ t.records.links = s.records.links ∧
        t.records.engine = s.records.engine ∧ t.records.carriers = s.records.carriers ∧
        t.records.slots = s.records.slots ∧ (∀ g, t.request g = false) ∧
        t.supervisor = s.supervisor.answer 1 0x01 .ok [] ∧ t.pins = s.pins) ∧
    ((s.setting.op = .standby ∧ ∃ c, c < Config.carriers ∧ (s.ctx c).state ≠ .vacant) →
      exec .mapBegin s = .next (s.answered 1 0x01 .conflict [])) ∧
    ((s.setting.op = .active ∨ s.setting.op = .allStop) → exec .mapBegin s = .next (s.answered 1 0x01 .state []))

/-- The ranges of a MAP-CELL that R9 names. -/
def CellFieldsInRange (cell : Half) (kind : Byte) (length : Half) (limit : Byte) (ports : List Half)
    (capacity entryPort exitPort gate : Byte) : Prop :=
  (1 ≤ cell.toNat ∧ cell.toNat ≤ 2047) ∧ kind.toNat ≤ 4 ∧ (200 ≤ length.toNat ∧ length.toNat ≤ 20000) ∧ limit ≠ 0 ∧
  (∀ p ∈ ports, p ≠ 0 → p.toNat ≤ 2047 ∧ p ≠ cell) ∧ (ports.filter (· ≠ 0)).Nodup ∧
  (kind = 2 → (2 ≤ capacity.toNat ∧ capacity.toNat ≤ 8) ∧ entryPort.toNat ≤ 3 ∧ exitPort.toNat ≤ 3) ∧
  (kind = 3 → gate.toNat ≤ 15)

/-- MAP-CELL (R9): refused with STATE outside LOADING and with RANGE where a field is out of range; otherwise the record
is defined with the fields given, the fields of another kind and the corridor fields absent, and nothing else of the map
changes. -/
def Obligations.MapCellDefines : Prop :=
  ∀ (cell : Half) (kind : Byte) (length : Half) (limit clearance : Byte) (p0 p1 p2 p3 : Half)
    (capacity entryPort exitPort gate : Byte) (s : State), s.inService →
    let i := Instr.mapCell cell kind length limit clearance p0 p1 p2 p3 capacity entryPort exitPort gate
    let ok := CellFieldsInRange cell kind length limit [p0, p1, p2, p3] capacity entryPort exitPort gate
    (s.setting.op ≠ .loading → exec i s = .next (s.answered 20 0x02 .state [])) ∧
    (s.setting.op = .loading → ¬ok → exec i s = .next (s.answered 20 0x02 .range [])) ∧
    (s.setting.op = .loading → ok → ∃ t r, exec i s = .next t ∧
      Table.find t.setting.map.cells cell.toNat = some r ∧
      some r.kind = [CellKind.track, .junction, .lane, .portal, .dock][kind.toNat]? ∧
      r.length = length.toNat ∧ r.limit = limit.toNat ∧ r.clearance = clearance.toNat ∧
      r.ports = [p0, p1, p2, p3].map (fun p => if p = 0 then none else some p.toNat) ∧
      r.capacity = (if kind = 2 then some capacity.toNat else none) ∧
      r.entryPort = (if kind = 2 then some entryPort.toNat else none) ∧
      r.exitPort = (if kind = 2 then some exitPort.toNat else none) ∧
      r.gate = (if kind = 3 then some gate.toNat else none) ∧ r.corridor = none ∧
      (∀ x, x ≠ cell.toNat → Table.find t.setting.map.cells x = Table.find s.setting.map.cells x) ∧
      t.setting.map.corridors = s.setting.map.corridors ∧ t.setting.map.gates = s.setting.map.gates ∧
      t.setting.map.classes = s.setting.map.classes ∧ t.setting.op = .loading ∧ t.records = s.records ∧
      t.setting.tick = s.setting.tick ∧ t.supervisor = s.supervisor.answer 20 0x02 .ok [])

/-- MAP-CORRIDOR (R10): refused with STATE outside LOADING, with RANGE for a corridor above 63, a member count outside
2..32 or a member outside 1..2047; otherwise the definition holds the members in the order given. -/
def Obligations.MapCorridorDefines : Prop :=
  ∀ (corridor : Byte) (members : List Half) (s : State), s.inService →
    let i := Instr.mapCorridor corridor members
    let ok := corridor.toNat ≤ 63 ∧ (2 ≤ members.length ∧ members.length ≤ 32) ∧
      ∀ x ∈ members, 1 ≤ x.toNat ∧ x.toNat ≤ 2047
    (s.setting.op ≠ .loading → exec i s = .next (s.answered (3 + 2 * members.length) 0x03 .state [])) ∧
    (s.setting.op = .loading → ¬ok → exec i s = .next (s.answered (3 + 2 * members.length) 0x03 .range [])) ∧
    (s.setting.op = .loading → ok →
      exec i s = .next ((s.setMap { s.setting.map with
          corridors := Table.set s.setting.map.corridors corridor.toNat (members.map BitVec.toNat) }).answered
        (3 + 2 * members.length) 0x03 .ok []))

/-- MAP-GATE (R11): refused with STATE outside LOADING and with RANGE where a field is out of range or an odd gate
declares a partner; otherwise the binding holds the fields given. -/
def Obligations.MapGateDefines : Prop :=
  ∀ (gate : Byte) (portal : Half) (polarity : Byte) (callLimit holdOpen : Half) (partner : Byte) (s : State),
    s.inService →
    let i := Instr.mapGate gate portal polarity callLimit holdOpen partner
    let ok := gate.toNat ≤ 15 ∧ (1 ≤ portal.toNat ∧ portal.toNat ≤ 2047) ∧ (polarity = 0 ∨ polarity = 1) ∧
      (partner = 0 ∨ partner = 1) ∧ (1 ≤ callLimit.toNat ∧ callLimit.toNat ≤ 6000) ∧ holdOpen.toNat ≤ 1000 ∧
      ¬(gate.toNat % 2 = 1 ∧ partner = 1)
    (s.setting.op ≠ .loading → exec i s = .next (s.answered 10 0x04 .state [])) ∧
    (s.setting.op = .loading → ¬ok → exec i s = .next (s.answered 10 0x04 .range [])) ∧
    (s.setting.op = .loading → ok →
      exec i s = .next ((s.setMap { s.setting.map with
          gates := Table.set s.setting.map.gates gate.toNat {
            portal := portal.toNat, polarity := if polarity = 1 then .high else .low
            callLimit := callLimit.toNat, holdOpen := holdOpen.toNat, partner := decide (partner = 1) } }).answered
        10 0x04 .ok []))

/-- MAP-CLASS (R12): refused with STATE outside LOADING and with RANGE for a class above 7, a field outside the range of
R7 or a lost limit not above the silence limit; otherwise the record holds the fields given. -/
def Obligations.MapClassDefines : Prop :=
  ∀ (cls : Byte) (decel margin : Half) (vmax hmax priority allowance : Byte) (silence lost : Half) (s : State),
    s.inService →
    let i := Instr.mapClass cls decel margin vmax hmax priority allowance silence lost
    let ok := cls.toNat ≤ 7 ∧ (100 ≤ decel.toNat ∧ decel.toNat ≤ 4000) ∧ margin.toNat ≤ 2000 ∧ 10 ≤ vmax.toNat ∧
      (1 ≤ hmax.toNat ∧ hmax.toNat ≤ 16) ∧ priority.toNat ≤ 3 ∧ (1 ≤ allowance.toNat ∧ allowance.toNat ≤ 15) ∧
      (5 ≤ silence.toNat ∧ silence.toNat ≤ 500) ∧ (10 ≤ lost.toNat ∧ lost.toNat ≤ 6000) ∧ silence.toNat < lost.toNat
    (s.setting.op ≠ .loading → exec i s = .next (s.answered 14 0x05 .state [])) ∧
    (s.setting.op = .loading → ¬ok → exec i s = .next (s.answered 14 0x05 .range [])) ∧
    (s.setting.op = .loading → ok →
      exec i s = .next ((s.setMap { s.setting.map with
          classes := Table.set s.setting.map.classes cls.toNat {
            decel := decel.toNat, margin := margin.toNat, vmax := vmax.toNat, hmax := hmax.toNat
            priority := priority.toNat, allowance := allowance.toNat, silence := silence.toNat
            lost := lost.toNat } }).answered 14 0x05 .ok []))

/-- MAP-END (R13 to R15): refused with STATE outside LOADING; with a failing test it is answered CONFLICT with the
report and nothing else changes; with every test passed the controller is in STANDBY, every defined cell, corridor and
gate has its starting record, the deadlock table is empty, and the response carries the numbers defined. -/
def Obligations.MapEndCompletes : Prop :=
  ∀ s : State, s.inService →
    (s.setting.op ≠ .loading → exec .mapEnd s = .next (s.answered 1 0x06 .state [])) ∧
    (∀ r, s.setting.op = .loading → mapFailure s.setting.map = some r →
      exec .mapEnd s = .next (s.answered 1 0x06 .conflict r.bytes)) ∧
    (s.setting.op = .loading → mapFailure s.setting.map = none →
      ∃ t, exec .mapEnd s = .next t ∧ t.setting.op = .standby ∧
        (∀ x, Table.find t.setting.map.cells x = (Table.find s.setting.map.cells x).map
          (fun k => { k with corridor := s.setting.map.placeIn x })) ∧
        t.setting.map.corridors = s.setting.map.corridors ∧ t.setting.map.gates = s.setting.map.gates ∧
        t.setting.map.classes = s.setting.map.classes ∧
        (∀ x, Table.find t.records.cells x = (Table.find s.setting.map.cells x).map (fun _ => CellRun.free)) ∧
        (∀ k, Table.find t.records.corridors k =
          (Table.find s.setting.map.corridors k).map (fun _ => CorridorRun.idle)) ∧
        (∀ g, Table.find t.records.gates g = (Table.find s.setting.map.gates g).map (fun _ => GateRun.shut)) ∧
        t.records.deadlocks = [] ∧ t.records.alerts = s.records.alerts ∧ t.records.carriers = s.records.carriers ∧
        t.records.links = s.records.links ∧ t.records.engine = s.records.engine ∧
        t.supervisor = s.supervisor.answer 1 0x06 .ok
          (halfField s.setting.map.cells.length ++ byteField s.setting.map.corridors.length ++
            byteField s.setting.map.gates.length ++ byteField s.setting.map.classes.length))

/-- Whether port `p` of cell `x` names cell `y`. -/
def PortNames (m : MapStore) (x p y : Nat) : Prop :=
  ∃ k, Table.find m.cells x = some k ∧ k.ports[p]? = some (some y)

/-- Whether some port of cell `x` names cell `y`. -/
def CellNames (m : MapStore) (x y : Nat) : Prop := ∃ k, Table.find m.cells x = some k ∧ some y ∈ k.ports

/-- What is wrong with the ports of a LANE: 0 for an absent entry port, 1 for an absent exit port, 2 for equal ports
(R13, R14). -/
def LaneFault (m : MapStore) (x d : Nat) : Prop :=
  ∃ k, Table.find m.cells x = some k ∧ k.kind = .lane ∧
    let at_ := fun (p : Option Nat) => p.bind (fun p => (k.ports[p]?).join)
    (d = 0 ∧ at_ k.entryPort = none) ∨ (d = 1 ∧ at_ k.entryPort ≠ none ∧ at_ k.exitPort = none) ∨
      (d = 2 ∧ at_ k.entryPort ≠ none ∧ at_ k.exitPort ≠ none ∧ k.entryPort = k.exitPort)

/-- The four tests on the member `y` at position `i` of corridor `k`, in their order (R13). -/
def memberTests (m : MapStore) (k i y : Nat) : List (MapFailure × Prop) :=
  let l := Table.at m.corridors [] k
  [(.memberKind, ¬∃ q, Table.find m.cells y = some q ∧ q.kind = .track), (.memberRepeated, y ∈ l.take i),
    (.memberShared, ∃ j < k, y ∈ Table.at m.corridors [] j), (.memberGap, i ≠ 0 ∧ ¬CellNames m y (l.getD (i - 1) 0))]

/-- A test of R13: whether it fails at an object and a place in it (0 where the object is tested as one), and the report
of R14 that this failure asks for. -/
structure MapTest where
  fails : Nat → Nat → Prop
  report : Nat → Nat → MapReport → Prop

/-- The tests of R13 in the order of its table, with their reports. -/
def mapTests (m : MapStore) : List MapTest :=
  [{ fails := fun x p => ∃ y, PortNames m x p y ∧ Table.find m.cells y = none
     report := fun x p r => ∃ y, PortNames m x p y ∧
      r = { failure := .undefinedNeighbour, object := .cell x, detail := byteField p ++ cellField (some y) } },
    { fails := fun x p => ∃ y, PortNames m x p y ∧ ¬CellNames m y x
      report := fun x p r => ∃ y, PortNames m x p y ∧
        r = { failure := .oneWay, object := .cell x, detail := byteField p ++ cellField (some y) } },
    { fails := fun x p => p = 0 ∧ ∃ d, LaneFault m x d
      report := fun x _ r => ∃ d, LaneFault m x d ∧
        r = { failure := .lanePorts, object := .cell x, detail := byteField d } },
    { fails := fun x p => p = 0 ∧ ∃ k, Table.find m.cells x = some k ∧ k.kind = .portal ∧
        ¬∃ g b, k.gate = some g ∧ Table.find m.gates g = some b ∧ b.portal = x
      report := fun x _ r => ∃ k, Table.find m.cells x = some k ∧
        r = { failure := .portalGate, object := .cell x, detail := byteField (k.gate.getD 0) } },
    { fails := fun g p => p = 0 ∧ ∃ b, Table.find m.gates g = some b ∧
        ¬∃ k, Table.find m.cells b.portal = some k ∧ k.kind = .portal ∧ k.gate = some g
      report := fun g _ r => ∃ b, Table.find m.gates g = some b ∧
        r = { failure := .gatePortal, object := .gate g, detail := cellField (some b.portal) } },
    { fails := fun k i => ∃ y, (Table.at m.corridors [] k)[i]? = some y ∧ ∃ q ∈ memberTests m k i y, q.2
      report := fun k i r => ∃ (y n : Nat) (f : MapFailure), (Table.at m.corridors [] k)[i]? = some y ∧
        (∃ q : MapFailure × Prop, (memberTests m k i y)[n]? = some q ∧ q.1 = f ∧ q.2) ∧
        (∀ (j : Nat) (q : MapFailure × Prop), j < n → (memberTests m k i y)[j]? = some q → ¬q.2) ∧
        ∃ more, r = { failure := f, object := .corridor k, detail := byteField i ++ cellField (some y) ++ more } ∧
          (f ≠ .memberShared → more = []) ∧
          (f = .memberShared → ∃ j < k, y ∈ Table.at m.corridors [] j ∧ more = byteField j) },
    { fails := fun g p => p = 0 ∧ g % 2 = 0 ∧ (∃ b, Table.find m.gates g = some b ∧ b.partner = true) ∧
        Table.find m.gates (g + 1) = none
      report := fun g _ r => r = { failure := .partnerUndefined, object := .gate g, detail := byteField (g + 1) } }]

/-- A test fails first at an object and a place: nowhere at a lower object, nor at a lower place of the same (R13). -/
def FailsFirst (fails : Nat → Nat → Prop) (x p : Nat) : Prop :=
  fails x p ∧ ∀ x' p', fails x' p' → x < x' ∨ (x = x' ∧ p ≤ p')

/-- MAP-END's verdict (R13, R14): a map passes exactly when no test of R13 fails; a map that does not pass is reported
with the first test that fails, at its first object and place, with the detail values of R14. A map that passes (R3, R4,
R13): every naming of a neighbour is returned by a defined cell, every member of a corridor is a TRACK cell that takes the
corridor's number and its position there, and every PORTAL and its gate name each other. -/
def Obligations.PassedMapIsSound : Prop :=
  ∀ m : MapStore, Table.wf m.cells = true → Table.wf m.corridors = true → Table.wf m.gates = true →
    (∀ x k, Table.find m.cells x = some k → k.ports.length = 4) →
    (mapFailure m = none ↔ ∀ q ∈ mapTests m, ∀ x p, ¬q.fails x p) ∧
    (∀ r, mapFailure m = some r → ∃ (n : Nat) (q : MapTest) (x p : Nat), (mapTests m)[n]? = some q ∧
      FailsFirst q.fails x p ∧ q.report x p r ∧
      ∀ (n' : Nat) (q' : MapTest), n' < n → (mapTests m)[n']? = some q' → ∀ x' p', ¬q'.fails x' p') ∧
    (mapFailure m = none →
    (∀ x k y, Table.find m.cells x = some k → some y ∈ k.ports →
      ∃ q, Table.find m.cells y = some q ∧ some x ∈ q.ports) ∧
    (∀ k l i x, Table.find m.corridors k = some l → l[i]? = some x →
      ∃ q, Table.find m.derived.cells x = some q ∧ q.kind = .track ∧ q.corridor = some (k, i)) ∧
    (∀ x k, Table.find m.cells x = some k → k.kind = .portal →
      ∃ g b, k.gate = some g ∧ Table.find m.gates g = some b ∧ b.portal = x) ∧
    (∀ g b, Table.find m.gates g = some b →
      ∃ k, Table.find m.cells b.portal = some k ∧ k.kind = .portal ∧ k.gate = some g))

/-! ## Operating states (R155 to R159) -/

/-- ACTIVATE (R155): accepted in STANDBY while ESTOP_N is inactive, it changes the operating state alone; otherwise it
is refused with STATE. -/
def Obligations.ActivateEnters : Prop :=
  ∀ s : State, s.inService →
    (s.setting.op = .standby → s.supervisor.estopLevel = .high →
      exec .activate s = .next ((s.enter .active).answered 1 0x07 .ok [])) ∧
    (s.setting.op ≠ .standby ∨ s.supervisor.estopLevel = .low →
      exec .activate s = .next (s.answered 1 0x07 .state []))

/-- The operating state changes only in the events of R155's table, and from the states it names. -/
def Obligations.OpStateChanges : Prop :=
  ∀ (i : Instr) (s t : State), exec i s = .next t → t.setting.op ≠ s.setting.op →
    (s.setting.op = .unconfigured ∧ i = .mapBegin ∧ t.setting.op = .loading) ∨
    (s.setting.op = .loading ∧ i = .mapEnd ∧ t.setting.op = .standby) ∨
    (s.setting.op = .standby ∧ i = .mapBegin ∧ t.setting.op = .loading) ∨
    (s.setting.op = .standby ∧ i = .activate ∧ t.setting.op = .active) ∨
    (s.setting.op = .active ∧ (i = .allStop ∨ i = .estopNLevelChange .low) ∧ t.setting.op = .allStop) ∨
    (s.setting.op = .allStop ∧ i = .resumeAll ∧ t.setting.op = .active) ∨
    ((s.setting.op = .active ∨ s.setting.op = .allStop) ∧ i = .restart ∧ t.setting.op = .standby) ∨
    ((i = .hardReset ∨ ∃ r, i = .resetNRelease r) ∧ t.setting.op = .unconfigured)

/-- What only a reset may change besides: the two events of RESET_N (R159). -/
def isReset (i : Instr) : Prop := i = .hardReset ∨ ∃ r, i = .resetNRelease r

/-- Which events may change which records: the map store, the tick counter, the pins and the levels kept of them, the
enable mask, the response buffer, the step store, the read number and the engine's port reset (R15, R107, R111, R122,
R153, R161, R162). That the READY levels and the PE_PERST_N level change only by their own pin events, and so not by hard
reset, is the model's choice (log entry 6). -/
def Obligations.EachRecordHasItsEvents : Prop :=
  ∀ (i : Instr) (s t : State), exec i s = .next t →
    (t.setting.map ≠ s.setting.map →
      i = .mapBegin ∨ (∃ a b c d e p0 p1 p2 p3 w x y z, i = .mapCell a b c d e p0 p1 p2 p3 w x y z) ∨
      (∃ k l, i = .mapCorridor k l) ∨ (∃ g p a c h q, i = .mapGate g p a c h q) ∨
      (∃ k a m v h p u q l, i = .mapClass k a m v h p u q l) ∨ i = .mapEnd ∨ (∃ x l, i = .setLimit x l) ∨ isReset i) ∧
    (t.setting.tick ≠ s.setting.tick → i = .tick ∨ isReset i) ∧
    (t.setting.ready ≠ s.setting.ready → ∃ g l, i = .readyChange g l) ∧
    (t.pins ≠ s.pins → (∃ l, i = .estopNLevelChange l) ∨ isReset i) ∧
    (t.supervisor.estopLevel ≠ s.supervisor.estopLevel → (∃ l, i = .estopNLevelChange l) ∨ isReset i) ∧
    (t.supervisor.enable ≠ s.supervisor.enable → (∃ m, i = .setAlertEnable m) ∨ isReset i) ∧
    (t.supervisor.response ≠ s.supervisor.response → (encodeTransfer i).isSome = true ∨ isReset i) ∧
    (t.records.slots ≠ s.records.slots → (∃ n c d, i = .readCompletion n c d) ∨ isReset i) ∧
    (t.records.engine.readNumber ≠ s.records.engine.readNumber → i = .serveFetch ∨ isReset i) ∧
    (t.records.engine.perst ≠ s.records.engine.perst → i = .pePerstNAsserted ∨ i = .pePerstNReleased)

/-- The carriers whose context a test picks, ascending. -/
def carriersThat (s : State) (p : Context → Bool) : List Nat :=
  (List.range 256).filter (fun c => p (s.ctx c))

/-- The part's records after a STOP notice with cause ALL-STOP for every RUNNING carrier, in ascending carrier number
(R93, R156, R102). -/
def stopNotices (s : State) : Run :=
  (carriersThat s (fun k => k.state == .running)).foldl (fun v c => send v c (.stop .allStop)) s.run

/-- What ALL-STOP entry leaves where every RUNNING carrier waits for nothing: each of them is HALTING with stop cause
ALL-STOP and has a STOP notice handed to its home link, in ascending carrier number; every other context and the track are
as before. -/
def AllHalted (s t : State) : Prop :=
  t.records.links = (stopNotices s).records.links ∧
  t.setting.op = .allStop ∧ t.setting.map = s.setting.map ∧ t.setting.tick = s.setting.tick ∧
  (∀ c, c < Config.carriers → (s.ctx c).state = .running →
    t.ctx c = { s.ctx c with state := .halting, stopCause := some .allStop, passOver := 0 }) ∧
  (∀ c, (s.ctx c).state ≠ .running → t.ctx c = s.ctx c) ∧
  Records.sameTrack s.records t.records ∧ t.records.engine = s.records.engine

/-- ALL-STOP (R156): from ACTIVE, with every RUNNING carrier waiting for nothing, it halts them all with a STOP notice
each (R93, R102); in ALL-STOP it is answered OK and changes nothing; elsewhere it is refused with STATE. -/
def Obligations.AllStopHalts : Prop :=
  ∀ s : State, s.inService →
    (s.setting.op = .active → (∀ c, c < Config.carriers → (s.ctx c).state = .running → s.claimsNothing c) →
      ∃ t, exec .allStop s = .next t ∧ AllHalted s t ∧ t.records.alerts = (stopNotices s).records.alerts ∧
        t.supervisor = s.supervisor.answer 1 0x08 .ok []) ∧
    (s.setting.op = .allStop → exec .allStop s = .next (s.answered 1 0x08 .ok [])) ∧
    (s.setting.op = .unconfigured ∨ s.setting.op = .loading ∨ s.setting.op = .standby →
      exec .allStop s = .next (s.answered 1 0x08 .state []))

/-- A carrier resumed from ALL-STOP (R102). -/
def resumedContext (k : Context) : Context := { k with state := .running, stopCause := none, silence := 0 }

/-- Whether RESUME-ALL resumes a carrier (R102). -/
def Context.resumes (k : Context) : Bool := k.state == .stopped && k.stopCause == some .allStop

/-- RESUME-ALL (R157, R102, R61): from ALL-STOP with ESTOP_N inactive, where every carrier to be resumed waits for nothing
and its attempt, made where it is LIVE, meets a stop test other than lane order: each is RUNNING without a cause, a LIVE
one with that block reason; each LIVE one has an AUTH notice handed to its home link and each one's fetch trigger is
tested, in ascending carrier number; the others and the track are as before. It is refused with STATE while ESTOP_N is
active and in every other state. -/
def Obligations.ResumeAllResumes : Prop :=
  ∀ s : State, s.inService →
    (s.setting.op = .allStop → s.supervisor.estopLevel = .high →
      (∀ c, c < Config.carriers → (s.ctx c).state = .stopped → (s.ctx c).stopCause = some .allStop →
        s.claimsNothing c ∧ ((s.ctx c).contact = .live →
          ∃ r, r ≠ .order ∧ stopTest { s.setting with op := .active } (s.run.modCtx c resumedContext) c = some r)) →
      let e := { s.setting with op := .active }
      let back := carriersThat s Context.resumes
      ∃ t, exec .resumeAll s = .next t ∧ t.setting = e ∧
        (∀ c, c < Config.carriers → (s.ctx c).state = .stopped → (s.ctx c).stopCause = some .allStop →
          ((s.ctx c).contact = .live → t.ctx c = { resumedContext (s.ctx c) with
            blockReason := stopTest e (s.run.modCtx c resumedContext) c }) ∧
          ((s.ctx c).contact ≠ .live → t.ctx c = resumedContext (s.ctx c))) ∧
        (∀ c, ¬(c < Config.carriers ∧ (s.ctx c).state = .stopped ∧ (s.ctx c).stopCause = some .allStop) →
          t.ctx c = s.ctx c) ∧
        (let told := (back.filter (fun c => (s.ctx c).contact == .live)).foldl
            (fun v c => send v c (authNotice e t.run c)) s.run;
          t.records.links = told.records.links ∧ t.records.alerts = told.records.alerts) ∧
        t.records.engine = (back.foldl fetchTrigger (t.run.setEngine s.records.engine)).records.engine ∧
        Records.sameTrack s.records t.records ∧ t.supervisor = s.supervisor.answer 1 0x09 .ok []) ∧
    (s.setting.op ≠ .allStop ∨ s.supervisor.estopLevel = .low →
      exec .resumeAll s = .next (s.answered 1 0x09 .state []))

/-- RESTART (R158, with R20, R42, R79, R103, R120, R132, R141, R152): accepted once a map has passed, every block takes
its RESTART values in one event, and the map, the enable mask, the tick counter, the ESTOP_N level, the generations, the
classes, the slots and the read number are kept. Before that it is refused with STATE. -/
def Obligations.RestartReturns : Prop :=
  ∀ s : State, s.inService →
    (s.setting.op.loaded = true → s.canonical = true → ∃ t, exec .restart s = .next t ∧
      t.setting.op = .standby ∧ t.setting.map = s.setting.map ∧ t.setting.tick = s.setting.tick ∧
      (∀ x, Table.find t.records.cells x = (Table.find s.setting.map.cells x).map (fun _ => CellRun.free)) ∧
      (∀ k, Table.find t.records.corridors k =
        (Table.find s.setting.map.corridors k).map (fun _ => CorridorRun.idle)) ∧
      (∀ g, Table.find t.records.gates g = (Table.find s.setting.map.gates g).map (fun _ => GateRun.shut)) ∧
      (∀ c, t.ctx c = { Context.vacant with cls := (s.ctx c).cls, generation := (s.ctx c).generation }) ∧
      t.records.reservations = [] ∧ t.records.seniority = [] ∧ t.records.deadlocks = [] ∧ t.records.marks = [] ∧
      t.records.alerts = 0 ∧ t.records.slots = s.records.slots ∧
      t.records.engine.queue = [] ∧ t.records.engine.inFlight = none ∧ t.records.engine.timer = none ∧
      t.records.engine.readNumber = s.records.engine.readNumber ∧
      (∀ l, (t.link l).queue = [] ∧ (t.link l).receiver = Receiver.hunting ∧ (t.link l).check = 0 ∧
        (t.link l).format = 0 ∧ (t.link l).unknown = 0 ∧ (t.link l).device = 0 ∧ (t.link l).drop = 0 ∧
        (t.link l).transmitting = none) ∧
      t.supervisor = s.supervisor.answer 1 0x0A .ok [] ∧ t.alertAsserted = false) ∧
    (s.setting.op.loaded = false → exec .restart s = .next (s.answered 1 0x0A .state []))

/-! ## Runs granted and offers (R25 to R28, R38, R39, R53) -/

/-- A run that can be granted whole and changes nothing beyond its own cells: every cell is grantable, none twice, none
reserved, none with a waiter, none a corridor member or a PORTAL (R26, R27, R47). -/
def PlainRun (e : Setting) (v : Run) (c : Nat) (run : List (Nat × Nat)) : Prop :=
  (run.map Prod.fst).Nodup ∧ ∀ p ∈ run, grantTest e v c p.1 p.2 = none ∧ e.map.corridorOf p.1 = none ∧
    e.map.gateOf p.1 = none ∧ (v.cell p.1).reservedFor = none ∧ (v.cell p.1).queue = []

/-- A context that has been granted a run: an entry for each cell, the grant mark moved past it, no wait record, the
pass-over count 0 and the hold lifted flag clear (R27, R53). -/
def grantedContext (m : MapStore) (k : Context) (run : List (Nat × Nat)) : Context :=
  { k with
    held := k.held ++ run.map (fun p => { cell := p.1, step := some p.2, distance := m.contribution p.1 })
    passOver := 0, grantMark := k.grantMark + run.length, holdLifted := false, wait := none }

/-- The part with a plain run granted: the carrier at the tail of each cell's holder list (R27). -/
def grantedRun (e : Setting) (v : Run) (c : Nat) (run : List (Nat × Nat)) : Run :=
  run.foldl (fun v p => v.setCell p.1 { v.cell p.1 with holders := (v.cell p.1).holders ++ [c] })
    (v.modCtx c (fun k => grantedContext e.map k run))

/-- What an attempt leaves that ends with the message `p` to carrier `c`: the contexts, cells and reservations of `u`, the
message on the carrier's home link, and a fetch queued where the trigger holds; corridors, gates, slots and setting are as
before. -/
def AttemptLeaves (s t : State) (u : Run) (c : Nat) (p : Payload) : Prop :=
  (∀ d, t.ctx d = u.ctx d) ∧ (∀ x, t.cell x = u.cell x) ∧ (∀ d, t.reservations d = u.reservations d) ∧
  t.records.corridors = s.records.corridors ∧ t.records.gates = s.records.gates ∧ t.records.slots = s.records.slots ∧
  t.records.links = (send u c p).records.links ∧ t.records.engine = (fetchTrigger u c).records.engine ∧
  t.setting = s.setting

/-- The deadlock monitor is as before, and no alert is raised but by the message `p`. -/
def MonitorKept (s t : State) (u : Run) (c : Nat) (p : Payload) : Prop :=
  t.records.deadlocks = s.records.deadlocks ∧ t.records.marks = s.records.marks ∧
    t.records.alerts = (send u c p).records.alerts

/-- Whether the cell `x`, with its record at `r`, is offered to nobody: it has no waiter, or the controller is not ACTIVE,
or it is not grantable to the waiter at its head (R38, R39). -/
def OffersNobody (s : State) (x : Nat) (r : CellRun) : Prop :=
  r.queue = [] ∨ s.setting.op ≠ .active ∨
    ∃ w rest, r.queue = w :: rest ∧ grantTest s.setting (s.run.setCell x r) w.carrier x w.step ≠ none

/-- An offer that grants (R38, R39, R61): the event `i`, which leaves the record of cell `x` at `r` and then offers the
cell, finds it grantable to its one waiter, which has no wait edge and gets one plain run before its attempt meets a stop
test other than lane order: the carrier has left the queue and holds the run, and an AUTH notice is queued. -/
def OfferGrants (i : Instr) (s : State) (x : Nat) (r : CellRun) : Prop :=
  ∀ (w : Waiter) (wait : WaitRec) (run : List (Nat × Nat)) (reason : Reason),
    let c := w.carrier
    let e := s.setting
    let v := s.run.setCell x { r with queue := [] }
    let u := (grantedRun e v c run).modCtx c (fun k => { k with blockReason := some reason })
    e.op = .active → e.map.gateOf x = none → r.queue = [w] → (s.ctx c).runsLive → (s.ctx c).wait = some wait →
    wait.reason = .cell → wait.cell = x → wait.edge = none → v.queueOf c = none → grantTest e v c x w.step = none →
    stopTest e v c = none → nextRun e v c = some run → PlainRun e v c run →
    stopTest e (grantedRun e v c run) c = some reason → reason ≠ .order →
    ∃ t, exec i s = .next t ∧ AttemptLeaves s t u c (authNotice e u c) ∧ MonitorKept s t u c (authNotice e u c)

/-! ## Edits and gate reset (R16 to R19, R130) -/

/-- CLOSE-CELL (R16, R17): the closed flag is set, and the rest of the cell's record, every other cell and every
carrier but for wait edges, which R31 recomputes (log entry 28), are as before. OPEN-CELL (R16, R18): on a closed cell
it clears the flag; where the countdown is running, the queue is empty, the controller is not ACTIVE or the cell is not
grantable to its head (R38, R39) nothing else of the track changes but causes and edges; where the offer grants its one
waiter a plain run, the waiter has it and an AUTH notice is queued; on an open cell nothing changes. -/
def Obligations.CellEditsAct : Prop :=
  (∀ (cell : Half) (s : State), s.inService → s.setting.op.loaded = true →
    (s.cellDefined cell = true → ∃ t, exec (.closeCell cell) s = .next t ∧
      (t.cell cell.toNat).butCauses = { (s.cell cell.toNat).butCauses with closed := true } ∧
      (∀ x, x ≠ cell.toNat → t.cell x = s.cell x) ∧ (∀ c, (t.ctx c).butEdge = (s.ctx c).butEdge) ∧
      t.records.reservations = s.records.reservations ∧ t.records.seniority = s.records.seniority ∧
      t.records.corridors = s.records.corridors ∧ t.records.gates = s.records.gates ∧
      t.records.links = s.records.links ∧ t.records.engine = s.records.engine ∧ t.records.slots = s.records.slots ∧
      t.setting = s.setting ∧ t.supervisor = s.supervisor.answer 3 0x0B .ok []) ∧
    (s.cellDefined cell = false → exec (.closeCell cell) s = .next (s.answered 3 0x0B .range []))) ∧
  (∀ (cell : Half) (s : State), s.inService → s.setting.op.loaded = true →
    (s.cellDefined cell = true → (s.cell cell.toNat).closed = true →
      ((s.cell cell.toNat).countdown ≠ 0 ∨
        OffersNobody s cell.toNat { s.cell cell.toNat with closed := false }) →
      ∃ t, exec (.openCell cell) s = .next t ∧
        (t.cell cell.toNat).butCauses = { (s.cell cell.toNat).butCauses with closed := false } ∧
        (∀ x, x ≠ cell.toNat → t.cell x = s.cell x) ∧ (∀ c, (t.ctx c).butEdge = (s.ctx c).butEdge) ∧
        t.records.reservations = s.records.reservations ∧ t.records.corridors = s.records.corridors ∧
        t.records.gates = s.records.gates ∧ t.records.links = s.records.links ∧
        t.records.engine = s.records.engine ∧ t.setting = s.setting ∧
        t.supervisor = s.supervisor.answer 3 0x0C .ok []) ∧
    (s.cellDefined cell = true → (s.cell cell.toNat).closed = true → (s.cell cell.toNat).countdown = 0 →
      OfferGrants (.openCell cell) s cell.toNat { s.cell cell.toNat with closed := false }) ∧
    (s.cellDefined cell = true → (s.cell cell.toNat).closed = false →
      exec (.openCell cell) s = .next (s.answered 3 0x0C .ok [])) ∧
    (s.cellDefined cell = false → exec (.openCell cell) s = .next (s.answered 3 0x0C .range [])))

/-- SET-LIMIT (R16, R19): the new limit replaces the old one and nothing else of the map, the track or a carrier
changes. Where the limit is lowered, each holder that is RUNNING with a block reason has an AUTH notice handed to its home
link, in holder-list order, with its permitted speed under the new limit; where it is not lowered no message is queued. A
limit of 0, and a cell that is not defined, is refused with RANGE. -/
def Obligations.SetLimitSets : Prop :=
  ∀ (cell : Half) (limit : Byte) (s : State), s.inService → s.setting.op.loaded = true →
    (s.cellDefined cell = true → limit ≠ 0 → ∃ t, exec (.setLimit cell limit) s = .next t ∧
      (∀ x, Table.find t.setting.map.cells x = (Table.find s.setting.map.cells x).map
        (fun k => if x = cell.toNat then { k with limit := limit.toNat } else k)) ∧
      t.setting.map.gates = s.setting.map.gates ∧ t.setting.map.corridors = s.setting.map.corridors ∧
      t.setting.map.classes = s.setting.map.classes ∧ t.setting = { s.setting with map := t.setting.map } ∧
      t.records = { s.records with links := t.records.links, alerts := t.records.alerts } ∧
      (let old := ((Table.find s.setting.map.cells cell.toNat).map CellStatic.limit).getD 0
        let told := (s.cell cell.toNat).holders.foldl (fun v c =>
          if (s.ctx c).state = .running ∧ (s.ctx c).blockReason.isSome = true
          then send v c (authNotice t.setting s.run c) else v) s.run
        (limit.toNat < old → t.records.links = told.records.links ∧ t.records.alerts = told.records.alerts) ∧
        (old ≤ limit.toNat → t.records.links = s.records.links ∧ t.records.alerts = s.records.alerts)) ∧
      t.supervisor = s.supervisor.answer 4 0x0D .ok [] ∧ t.pins = s.pins) ∧
    (s.cellDefined cell = true → limit = 0 →
      exec (.setLimit cell limit) s = .next (s.answered 4 0x0D .range [])) ∧
    (s.cellDefined cell = false → exec (.setLimit cell limit) s = .next (s.answered 4 0x0D .range []))

/-- GATE-RESET (R130): a gate in FAULT whose partner, if any, is inactive and owed no call becomes SHUT, and, where its
portal has a holder or a waiter and READY is inactive, CALLING with its call timer; no other record changes. A gate not in
FAULT is refused with CONFLICT, a number above 15 or a gate without a record with RANGE. -/
def Obligations.GateResetResets : Prop :=
  ∀ (gate : Byte) (s : State), s.inService → s.setting.op.loaded = true →
    (∀ r b, gate.toNat ≤ 15 → s.gate gate.toNat = some r → r.state = .fault →
      Table.find s.setting.map.gates gate.toNat = some b → partnerPending s.setting s.run gate.toNat = false → partnerActive s.setting s.run gate.toNat = false →
      s.setting.readyActive gate.toNat = false →
      ∃ t, exec (.gateReset gate) s = .next t ∧
        t.gate gate.toNat = some (if portalIdle s.setting s.run gate.toNat then GateRun.shut
          else { state := .calling, callPending := false, timer := some b.callLimit, due := false }) ∧
        (∀ g, g ≠ gate.toNat → t.gate g = s.gate g) ∧ t.records = { s.records with gates := t.records.gates } ∧
        t.setting = s.setting ∧ t.supervisor = s.supervisor.answer 2 0x0E .ok []) ∧
    (∀ r, gate.toNat ≤ 15 → s.gate gate.toNat = some r → r.state ≠ .fault →
      exec (.gateReset gate) s = .next (s.answered 2 0x0E .conflict [])) ∧
    (15 < gate.toNat ∨ s.gate gate.toNat = none → exec (.gateReset gate) s = .next (s.answered 2 0x0E .range []))

/-! ## Carrier commands (R81 to R83, R98, R99) -/

/-- ENROL (R82): where every check passes, the carrier is IDLE on the cell with the values of R82's table and stands at
the tail of its holder list; every other cell, and every other carrier but for wait edges, is as before. -/
def Obligations.EnrolEnrols : Prop :=
  ∀ (carrier : Half) (cls : Byte) (cell base : Half) (size : Byte) (r : ClassRec) (s : State), s.inService →
    (s.setting.op = .standby ∨ s.setting.op = .active) → carrier.toNat ≤ 255 → cls.toNat ≤ 7 →
    (1 ≤ cell.toNat ∧ cell.toNat ≤ 2047) →
    (size = 8 ∨ size = 16 ∨ size = 32) → base.toNat % size.toNat = 0 → base.toNat + size.toNat ≤ 4096 →
    (s.ctx carrier.toNat).state = .vacant → Table.find s.setting.map.classes cls.toNat = some r →
    s.setting.map.standing cell.toNat = true → s.setting.map.corridorOf cell.toNat = none →
    enrolRoom s.setting.map cell.toNat (s.cell cell.toNat) = true → (s.cell cell.toNat).countdown = 0 →
    (∀ d, (s.ctx d).state ≠ .vacant → (s.ctx d).windowBase + (s.ctx d).windowSize ≤ base.toNat ∨
      base.toNat + size.toNat ≤ (s.ctx d).windowBase) →
    ∃ t, exec (.enrol carrier cls cell base size) s = .next t ∧
      t.ctx carrier.toNat = { Context.vacant with
        state := .idle, cls := cls.toNat, allowance := r.allowance, windowBase := base.toNat
        windowSize := size.toNat, frontCell := cell.toNat, requested := r.vmax
        held := [{ cell := cell.toNat, step := none, distance := s.setting.map.contribution cell.toNat }]
        generation := (s.ctx carrier.toNat).generation } ∧
      (t.cell cell.toNat).butCauses =
        { (s.cell cell.toNat).butCauses with holders := (s.cell cell.toNat).holders ++ [carrier.toNat] } ∧
      (∀ x, x ≠ cell.toNat → t.cell x = s.cell x) ∧
      (∀ d, d ≠ carrier.toNat → (t.ctx d).butEdge = (s.ctx d).butEdge) ∧
      t.records.links = s.records.links ∧ t.records.engine = s.records.engine ∧ t.records.gates = s.records.gates ∧
      t.records.corridors = s.records.corridors ∧ t.setting = s.setting ∧
      t.supervisor = s.supervisor.answer 9 0x0F .ok []

/-- The tests of the carrier and cell commands (R16, R81, R82, R83, R98, R99, R130): the operating state first, then the
numbers in their ranges. For ENROL then, in the order of R82: CONFLICT for a carrier that is not VACANT; RANGE for a class
that is not defined; RANGE for a cell that is not defined, not standing or a corridor member; CONFLICT for a cell with a
holder or a reservation (for a LANE, without a free place), with its countdown running, or for a window that overlaps an
enrolled carrier's. For DETACH, CONFLICT for a carrier that is neither ATTACHED nor RUNNING. -/
def Obligations.CommandsRefuse : Prop :=
  ∀ s : State, s.inService →
    (s.setting.op.loaded = false →
      (∀ x, exec (.closeCell x) s = .next (s.answered 3 0x0B .state [])) ∧
      (∀ x, exec (.openCell x) s = .next (s.answered 3 0x0C .state [])) ∧
      (∀ x l, exec (.setLimit x l) s = .next (s.answered 4 0x0D .state [])) ∧
      (∀ g, exec (.gateReset g) s = .next (s.answered 2 0x0E .state [])) ∧
      (∀ c, exec (.retire c) s = .next (s.answered 3 0x14 .state []))) ∧
    (s.setting.op ≠ .active → s.setting.op ≠ .allStop →
      (∀ c, exec (.detach c) s = .next (s.answered 3 0x11 .state [])) ∧
      (∀ c, exec (.stop c) s = .next (s.answered 3 0x12 .state []))) ∧
    (s.setting.op ≠ .active →
      (∀ c a, exec (.attach c a) s = .next (s.answered 11 0x10 .state [])) ∧
      (∀ c, exec (.recover c) s = .next (s.answered 3 0x13 .state []))) ∧
    (s.setting.op ≠ .standby → s.setting.op ≠ .active →
      ∀ c k x b z, exec (.enrol c k x b z) s = .next (s.answered 9 0x0F .state [])) ∧
    (∀ c : Half, 255 < c.toNat →
      (s.setting.op.loaded = true → exec (.retire c) s = .next (s.answered 3 0x14 .range [])) ∧
      (s.setting.op = .active ∨ s.setting.op = .allStop →
        exec (.detach c) s = .next (s.answered 3 0x11 .range []) ∧
        exec (.stop c) s = .next (s.answered 3 0x12 .range [])) ∧
      (s.setting.op = .active →
        exec (.recover c) s = .next (s.answered 3 0x13 .range []) ∧
        ∀ a, exec (.attach c a) s = .next (s.answered 11 0x10 .range []))) ∧
    (s.setting.op = .standby ∨ s.setting.op = .active → ∀ (c : Half) (k : Byte) (x b : Half) (z : Byte),
      let sound := c.toNat ≤ 255 ∧ k.toNat ≤ 7 ∧ (1 ≤ x.toNat ∧ x.toNat ≤ 2047) ∧ (z = 8 ∨ z = 16 ∨ z = 32) ∧
        b.toNat % z.toNat = 0 ∧ b.toNat + z.toNat ≤ 4096
      (¬sound → exec (.enrol c k x b z) s = .next (s.answered 9 0x0F .range [])) ∧
      (sound → (s.ctx c.toNat).state ≠ .vacant →
        exec (.enrol c k x b z) s = .next (s.answered 9 0x0F .conflict [])) ∧
      (sound → (s.ctx c.toNat).state = .vacant → Table.find s.setting.map.classes k.toNat = none →
        exec (.enrol c k x b z) s = .next (s.answered 9 0x0F .range [])) ∧
      (sound → (s.ctx c.toNat).state = .vacant → (Table.find s.setting.map.classes k.toNat).isSome = true →
        let place := Table.find s.setting.map.cells x.toNat
        let stands := ∃ q, place = some q ∧ (q.kind = .track ∨ q.kind = .lane ∨ q.kind = .dock) ∧ q.corridor = none
        let room := ∀ q, place = some q →
          if q.kind = .lane then (s.cell x.toNat).holders.length < q.capacity.getD 1
          else (s.cell x.toNat).holders = [] ∧ (s.cell x.toNat).reservedFor = none
        let apart := ∀ d, d < Config.carriers → (s.ctx d).state ≠ .vacant →
          (s.ctx d).windowBase + (s.ctx d).windowSize ≤ b.toNat ∨ b.toNat + z.toNat ≤ (s.ctx d).windowBase
        (¬stands → exec (.enrol c k x b z) s = .next (s.answered 9 0x0F .range [])) ∧
        (stands → ¬(room ∧ (s.cell x.toNat).countdown = 0 ∧ apart) →
          exec (.enrol c k x b z) s = .next (s.answered 9 0x0F .conflict [])))) ∧
    (s.setting.op = .active ∨ s.setting.op = .allStop → ∀ c : Half, c.toNat ≤ 255 →
      (s.ctx c.toNat).state ≠ .attached → (s.ctx c.toNat).state ≠ .running →
      exec (.detach c) s = .next (s.answered 3 0x11 .conflict []))

/-- ATTACH (R83, R119): an IDLE carrier with no write-back queued becomes ATTACHED with the route address, the next
generation and the values of R83, and a first fetch joins the engine queue; nothing else changes. That it joins also while
a read of an earlier route is in flight is the model's choice (R83 against R109, log entry 13). A carrier that is not
IDLE is refused with CONFLICT, an address that is not a multiple of 16 with RANGE. -/
def Obligations.AttachAttaches : Prop :=
  ∀ (carrier : Half) (address : Address) (s : State), s.inService → s.setting.op = .active → carrier.toNat ≤ 255 →
    let k := s.ctx carrier.toNat
    let cls := Table.at s.setting.map.classes ClassRec.undefined k.cls
    (address.toNat % 16 = 0 → k.state = .idle → s.records.engine.writeBackQueued carrier.toNat = false →
      ∃ t, exec (.attach carrier address) s = .next t ∧
        t.ctx carrier.toNat = { k with
          routeAddr := some address, routeTag := none, stepCount := none, generation := k.generation + 1
          windowCount := 0, nextStep := 0, cutPoint := none, cutResult := none, faultStep := none, validation := none
          allowance := cls.allowance, used := 0, requested := cls.vmax, blockReason := none, holdLifted := false
          contact := .live, silence := 0, state := .attached } ∧
        (∀ d, d ≠ carrier.toNat → t.ctx d = s.ctx d) ∧
        t.records.engine = { s.records.engine with
          queue := s.records.engine.queue ++ [.fetch carrier.toNat true] } ∧
        Records.sameTrack s.records t.records ∧
        t.records.links = s.records.links ∧ t.records.alerts = s.records.alerts ∧ t.setting = s.setting ∧
        t.supervisor = s.supervisor.answer 11 0x10 .ok []) ∧
    (address.toNat % 16 ≠ 0 → exec (.attach carrier address) s = .next (s.answered 11 0x10 .range [])) ∧
    (address.toNat % 16 = 0 → k.state ≠ .idle ∨ s.records.engine.writeBackQueued carrier.toNat = true →
      exec (.attach carrier address) s = .next (s.answered 11 0x10 .conflict []))

/-- What the end of a route leaves of a carrier that holds resting entries alone (R85, steps 2, 4, 5 and 6). -/
def restedContext (k : Context) (result : RouteResult) : Context :=
  { k with
    state := .idle, lastResult := some result
    routeAddr := none, routeTag := none, stepCount := none, cutPoint := none, cutResult := none, faultStep := none
    nextStep := 0, windowCount := 0, validation := none, front := 0, rear := 0, grantMark := 1
    blockReason := none, stopCause := none, holdLifted := false }

/-- The engine queue after a route of carrier `c` has ended (R85, steps 3 and 4). -/
def queueAfterEnd (q : List EngineRequest) (c : Nat) (a : Address) (result : RouteResult) (step used : Nat)
    (generation : Byte) : List EngineRequest :=
  (q ++ [EngineRequest.writeBack c a result step used generation]).filter (fun r => match r with
    | .fetch d _ => d != c
    | .writeBack _ _ _ _ _ _ => true)

/-- DETACH of an ATTACHED carrier (R98, R85): the route ends with result DETACHED and step index 0, the carrier is IDLE
on its resting entries, a write-back is queued, a queued fetch is removed and ROUTE-END is raised. -/
def Obligations.DetachEndsRoute : Prop :=
  ∀ (carrier : Half) (a : Address) (s : State), s.inService → (s.setting.op = .active ∨ s.setting.op = .allStop) →
    carrier.toNat ≤ 255 → (s.ctx carrier.toNat).state = .attached → (s.ctx carrier.toNat).routeAddr = some a →
    (∀ h ∈ (s.ctx carrier.toNat).held, h.step = none) → (s.ctx carrier.toNat).wait = none →
    ∃ t, exec (.detach carrier) s = .next t ∧
      t.ctx carrier.toNat = restedContext (s.ctx carrier.toNat) .detached ∧
      (∀ d, d ≠ carrier.toNat → t.ctx d = s.ctx d) ∧
      t.records.engine = { s.records.engine with
        queue := queueAfterEnd s.records.engine.queue carrier.toNat a .detached 0 (s.ctx carrier.toNat).used
          (s.ctx carrier.toNat).generation } ∧
      Records.sameTrack s.records t.records ∧ t.records.links = s.records.links ∧
      t.records.alerts = s.records.alerts ||| AlertFlag.routeEnd.mask ∧ t.setting = s.setting ∧
      t.supervisor = s.supervisor.answer 3 0x11 .ok []

/-- STOP and DETACH of a RUNNING carrier that waits for nothing (R93, R98): HALTING with cause SUPERVISOR or DETACH, a
STOP notice for its home link, everything held kept; STOP of a carrier in any other state is refused with CONFLICT. -/
def Obligations.StopAndDetachHalt : Prop :=
  ∀ (carrier : Half) (s : State), s.inService → (s.setting.op = .active ∨ s.setting.op = .allStop) →
    carrier.toNat ≤ 255 →
    (∀ i code cause, (i, code, cause) ∈
        [(Instr.stop carrier, (0x12 : Byte), StopCause.supervisor), (Instr.detach carrier, 0x11, .detach)] →
      (s.ctx carrier.toNat).state = .running → s.claimsNothing carrier.toNat →
      ∃ t, exec i s = .next t ∧
        t.ctx carrier.toNat =
          { s.ctx carrier.toNat with state := .halting, stopCause := some cause, passOver := 0 } ∧
        (∀ d, d ≠ carrier.toNat → t.ctx d = s.ctx d) ∧ Records.sameTrack s.records t.records ∧
        t.records.engine = s.records.engine ∧
        t.records.links = (send s.run carrier.toNat (.stop cause)).records.links ∧
        t.records.alerts = (send s.run carrier.toNat (.stop cause)).records.alerts ∧ t.setting = s.setting ∧
        t.supervisor = s.supervisor.answer 3 code .ok []) ∧
    ((s.ctx carrier.toNat).state ≠ .running →
      exec (.stop carrier) s = .next (s.answered 3 0x12 .conflict []))

/-- A STOPPED carrier after the changes of RECOVER, before its attempt (R95, R98). -/
def recoveredContext (m : MapStore) (k : Context) : Context :=
  { k with
    grantMark := k.front + 1, holdLifted := false, allowance := (m.classOf k).allowance, contact := .live
    silence := 0, stopCause := none, state := .running }

/-- RECOVER (R98): a STOPPED carrier with nothing to trim that waits for nothing becomes RUNNING with its allowance set
from its class, contact LIVE and no cause; where its attempt meets a stop test other than lane order its block reason is
that one, an AUTH notice is sent, and the track is as before. Any other state is refused with CONFLICT, and in ALL-STOP
the command with STATE. -/
def Obligations.RecoverRecovers : Prop :=
  ∀ (carrier : Half) (s : State), s.inService → carrier.toNat ≤ 255 →
    let c := carrier.toNat
    let k := recoveredContext s.setting.map (s.ctx c)
    (∀ r, s.setting.op = .active → (s.ctx c).state = .stopped → s.claimsNothing c →
      (∀ h ∈ (s.ctx c).held, h.outside (s.ctx c).rear (s.ctx c).front = false) → r ≠ .order →
      stopTest s.setting (s.run.modCtx c (fun _ => k)) c = some r →
      let w := s.run.modCtx c (fun _ => { k with blockReason := some r })
      ∃ t, exec (.recover carrier) s = .next t ∧ t.ctx c = { k with blockReason := some r } ∧
        (∀ d, d ≠ c → t.ctx d = s.ctx d) ∧ Records.sameTrack s.records t.records ∧
        t.records.links = (send w c (authNotice s.setting w c)).records.links ∧
        t.records.engine = (fetchTrigger w c).records.engine ∧ t.setting = s.setting ∧
        t.supervisor = s.supervisor.answer 3 0x13 .ok []) ∧
    (s.setting.op = .active → (s.ctx c).state ≠ .stopped →
      exec (.recover carrier) s = .next (s.answered 3 0x13 .conflict [])) ∧
    (s.setting.op ≠ .active → exec (.recover carrier) s = .next (s.answered 3 0x13 .state []))

/-- RETIRE (R99, R103): a carrier that waits for nothing and holds one cell, no LANE, PORTAL or corridor member and with
no waiter: it is VACANT with class and generation kept, the cell loses it and starts its clearance countdown, its fetch
and its queued messages are removed, and where a route was attached a write-back joins the engine queue with the route
address, the result RETIRED, the step reached, the allowance used and the generation; nothing else changes. A VACANT
carrier is refused with CONFLICT. -/
def Obligations.RetireRemoves : Prop :=
  ∀ (carrier : Half) (h : Held) (m : CellStatic) (s : State), s.inService → s.setting.op.loaded = true →
    carrier.toNat ≤ 255 →
    let c := carrier.toNat
    let k := s.ctx c
    (k.state ≠ .vacant → s.claimsNothing c → k.held = [h] →
      Table.find s.setting.map.cells h.cell = some m → m.kind ≠ .lane → m.kind ≠ .portal → m.corridor = none →
      (s.cell h.cell).queue = [] → (s.cell h.cell).holders = [c] →
      ∃ t, exec (.retire carrier) s = .next t ∧
        t.ctx c = { Context.vacant with cls := k.cls, generation := k.generation } ∧
        (∀ d, d ≠ c → t.ctx d = s.ctx d) ∧
        t.cell h.cell = (if m.clearance = 0 then { s.cell h.cell with holders := [] }
          else { s.cell h.cell with holders := [], countdown := m.clearance, due := false }) ∧
        (∀ x, x ≠ h.cell → t.cell x = s.cell x) ∧ (∀ d, t.reservations d = s.reservations d) ∧
        t.records.corridors = s.records.corridors ∧ t.records.gates = s.records.gates ∧
        t.records.slots = s.records.slots ∧ t.records.deadlocks = s.records.deadlocks ∧
        t.records.marks = s.records.marks ∧ t.records.alerts = s.records.alerts ∧
        t.records.engine = { s.records.engine with
          queue := s.records.engine.queue.filter (fun r => match r with
              | .fetch d _ => d != c
              | .writeBack _ _ _ _ _ _ => true) ++
            (match k.routeAddr with
              | some a => [EngineRequest.writeBack c a .retired (if k.state = .attached then 0 else k.front) k.used
                  k.generation]
              | none => []) } ∧
        (∀ l, t.link l = if l < Config.links
          then { s.link l with queue := (s.link l).queue.filter (fun q => q.carrier != c) } else s.link l) ∧
        t.setting = s.setting ∧ t.supervisor = s.supervisor.answer 3 0x14 .ok [] ∧ t.pins = s.pins) ∧
    (k.state = .vacant → exec (.retire carrier) s = .next (s.answered 3 0x14 .conflict []))

/-! ## Alerts, queries and transfers (R153, R154, R161, R163) -/

/-- CLEAR-ALERTS clears each flag its mask names and SET-ALERT-ENABLE replaces the enable mask, in every operating state;
each returns flags and mask as they stand after it, and mask bits 10 to 15 are ignored (R161, R166). -/
def Obligations.AlertCommandsAct : Prop :=
  ∀ (mask : Half) (s : State), s.inService →
    (∃ t, exec (.clearAlerts mask) s = .next t ∧
      (∀ f : AlertFlag, t.records.flag f = (s.records.flag f && !mask.getLsbD f.bit)) ∧
      t.records = { s.records with alerts := t.records.alerts } ∧ t.setting = s.setting ∧
      t.supervisor = s.supervisor.answer 3 0x15 .ok (alertData t.records.alerts s.supervisor.enable)) ∧
    (∃ t, exec (.setAlertEnable mask) s = .next t ∧
      (∀ f : AlertFlag, t.supervisor.enable.getLsbD f.bit = mask.getLsbD f.bit) ∧
      t.records = s.records ∧ t.setting = s.setting ∧
      t.supervisor = { s.supervisor.answer 3 0x16 .ok (alertData s.records.alerts t.supervisor.enable) with
        enable := t.supervisor.enable })

/-- A number in two bytes, high byte first (R166). -/
def be2 (n : Nat) : List Byte := [BitVec.ofNat 8 (n / 256), BitVec.ofNat 8 n]

/-- A number in four bytes, high byte first (R166). -/
def be4 (n : Nat) : List Byte := be2 (n / 65536) ++ be2 n

/-- A flag, 1 for set (R166). -/
def bit (b : Bool) : Byte := if b then 1 else 0

/-- A named value, numbered in the order of its names. -/
def nameByte {α : Type} [DecidableEq α] (names : List α) (a : α) : Byte := BitVec.ofNat 8 (names.idxOf a)

/-- An optional number in one byte, 0xFF where absent; in two bytes, 0xFFFF where absent (R166). -/
def opt1 (n : Option Nat) : Byte := BitVec.ofNat 8 (n.getD 255)
def opt2 (n : Option Nat) : List Byte := be2 (n.getD 65535)

/-- A list, its count first (R166). -/
def counted {α : Type} (l : List α) (f : α → List Byte) : List Byte := BitVec.ofNat 8 l.length :: l.flatMap f

/-- The bytes the queries return (R163, R41, R80, R132, R140, R146), each value in R166's encoding of its kind. -/
def QueryLayout (s : State) : Prop :=
  let carriersIn := fun (k : CarrierState) => (carriersThat s (fun x => x.state == k)).length
  let m := s.setting.map
  statusData s =
    [nameByte [OpState.unconfigured, .loading, .standby, .active, .allStop] s.setting.op,
      nameByte [Level.low, .high] s.supervisor.estopLevel] ++ be2 s.records.alerts.toNat ++
    be2 s.supervisor.enable.toNat ++ be4 s.setting.tick.toNat ++ be2 (carriersIn .vacant) ++ be2 (carriersIn .idle) ++
    be2 (carriersIn .attached) ++ be2 (carriersIn .running) ++ be2 (carriersIn .halting) ++ be2 (carriersIn .stopped) ++
    be2 m.cells.length ++
    [BitVec.ofNat 8 m.corridors.length, BitVec.ofNat 8 m.gates.length, BitVec.ofNat 8 m.classes.length] ++
    be2 s.records.engine.queue.length ++ [bit s.records.engine.inFlight.isSome] ∧
  (∀ x k, cellData s x k =
    be2 x ++ [nameByte [CellKind.track, .junction, .lane, .portal, .dock] k.kind] ++ be2 k.length ++
    [BitVec.ofNat 8 k.limit, BitVec.ofNat 8 k.clearance] ++ k.ports.flatMap (fun p => be2 (p.getD 0)) ++
    [opt1 k.capacity, opt1 k.entryPort, opt1 k.exitPort, opt1 k.gate, opt1 (k.corridor.map Prod.fst),
      opt1 (k.corridor.map Prod.snd)] ++
    (if s.setting.op = .loading then [] else
      let r := s.cell x
      counted r.holders be2 ++ opt2 r.reservedFor ++ [bit r.closed] ++ be2 r.countdown ++ be2 r.queue.length ++
      counted (r.queue.take 8) (fun w => be2 w.carrier ++ [BitVec.ofNat 8 w.priority] ++
        be4 (((s.ctx w.carrier).wait.map (fun q => q.since.toNat)).getD 0)) ++
      [match r.queue with
        | [] => 0xFF
        | w :: _ => nameByte [BlockCause.closed, .clearance, .reserved, .capacity, .selfHeld, .corridor, .gate]
            (((grantTest s.setting s.run w.carrier x w.step).map Prod.fst).getD w.cause)])) ∧
  (∀ k l, corridorData s k l = counted l be2 ++
    (if s.setting.op = .loading then [] else
      [nameByte [Direction.free, .ab, .ba] (s.corridor k).direction] ++ counted (s.corridor k).occupants be2 ++
      [bit (s.corridor k).turnRequested] ++ opt2 (s.corridor k).turnCarrier)) ∧
  (∀ g b r, s.gate g = some r → Table.find m.gates g = some b → s.setting.op ≠ .loading → gateData s g b =
    be2 b.portal ++ [nameByte [Level.low, .high] b.polarity] ++ be2 b.callLimit ++ be2 b.holdOpen ++ [bit b.partner] ++
    [nameByte [GateState.shut, .calling, .opened, .draining, .fault] r.state, bit r.callPending] ++
    be2 (r.timer.getD 0) ++ [bit (Table.at s.setting.ready .low g == b.polarity), bit (s.request g)]) ∧
  (∀ d, deadlockData (some d) = [1] ++ be2 d.count ++ counted d.members be2 ++ be4 d.tick.toNat) ∧
  deadlockData none = [0, 0, 0, 0, 0, 0, 0, 0] ∧
  (∀ k, linkData k = be2 k.check ++ be2 k.format ++ be2 k.unknown ++ be2 k.device ++ be2 k.drop ++
    [BitVec.ofNat 8 k.queue.length, bit (match k.transmitter with
      | .sending _ => true
      | .idle => false
      | .finishing => false),
      nameByte [RxState.hunt, .length, .kind, .body, .crc] k.receiver.state]) ∧
  (∀ c, let k := s.ctx c; carrierData s c =
    [nameByte [CarrierState.vacant, .idle, .attached, .running, .halting, .stopped] k.state, BitVec.ofNat 8 k.cls,
      nameByte [Contact.live, .silent, .lost] k.contact] ++ be2 k.silence ++
    [BitVec.ofNat 8 k.allowance, BitVec.ofNat 8 k.used, opt1 k.homeLink] ++ be2 k.windowBase ++
    [BitVec.ofNat 8 k.windowSize, BitVec.ofNat 8 ((k.nextStep - k.windowCount) % k.windowSize),
      BitVec.ofNat 8 (k.nextStep % k.windowSize), BitVec.ofNat 8 k.windowCount] ++
    addressBytes (k.routeAddr.getD (BitVec.allOnes 64)) ++
    (match k.routeTag with
      | some g => [1] ++ be4 g.toNat
      | none => [0, 0, 0, 0, 0]) ++
    opt2 k.stepCount ++ be2 k.nextStep ++ opt2 k.cutPoint ++
    [match k.cutResult with
      | some r => nameByte [RouteResult.complete, .detached, .stepFault, .header, .bus, .retired] r
      | none => 0xFF] ++
    opt2 k.faultStep ++ [k.generation] ++ be2 k.grantMark ++ be2 k.front ++ be2 k.rear ++ be2 k.frontCell ++
    [BitVec.ofNat 8 k.lastSpeed, BitVec.ofNat 8 k.requested] ++
    counted k.held (fun h => be2 h.cell ++ opt2 h.step ++ be2 h.distance) ++
    [match k.blockReason with
      | some r => nameByte [Reason.none, .horizon, .routeEnd, .hold, .cell, .order, .fetch, .device, .noRoute] r
      | none => 0xFF] ++
    (match k.wait with
      | some w => [1, if w.reason = .cell then 4 else 5] ++ be2 w.cell ++ be4 w.since.toNat ++ opt2 w.edge
      | none => List.replicate 10 0) ++
    [BitVec.ofNat 8 k.passOver, bit k.holdLifted,
      (match k.stopCause with
        | some r => nameByte [StopCause.overrun, .faults, .detach, .supervisor, .gate, .allStop, .lost] r
        | none => 0xFF),
      (match k.lastResult with
        | some r => nameByte [RouteResult.complete, .detached, .stepFault, .header, .bus, .retired] r
        | none => 0xFF)] ++
    counted (s.reservations c) (fun p => be2 p.1) ++ [opt1 (Table.find s.records.marks c)])

/-- The queries return the records they name and change nothing beyond the response (R163); READ-LINK with a clear also
makes the five counters of its link 0 after their values have been taken (R146). A query is refused with STATE in the
operating states that do not accept it, and with RANGE for a number out of its range or an object that is not defined. The
bytes returned are each record's values in the order its rule names them, in the encodings of R166; where R166 lets a
value be read as two kinds, the layout is the model's choice (log entry 10), as is READ-CELL's block cause where the cell
is grantable to its head (log entry 21). -/
def Obligations.QueriesAnswer : Prop :=
  (∀ s : State, QueryLayout s) ∧
  ∀ s : State, s.inService →
    exec .readStatus s = .next (s.answered 1 0x17 .ok (statusData s)) ∧
    (∀ (cell : Half) k, s.setting.op ≠ .unconfigured → (1 ≤ cell.toNat ∧ cell.toNat ≤ 2047) →
      Table.find s.setting.map.cells cell.toNat = some k →
      exec (.readCell cell) s = .next (s.answered 3 0x18 .ok (cellData s cell.toNat k))) ∧
    (∀ carrier : Half, s.setting.op.loaded = true → carrier.toNat ≤ 255 →
      exec (.readCarrier carrier) s = .next (s.answered 3 0x19 .ok (carrierData s carrier.toNat))) ∧
    (∀ (corridor : Byte) l, s.setting.op ≠ .unconfigured → corridor.toNat ≤ 63 →
      Table.find s.setting.map.corridors corridor.toNat = some l →
      exec (.readCorridor corridor) s = .next (s.answered 2 0x1A .ok (corridorData s corridor.toNat l))) ∧
    (∀ (gate : Byte) b, s.setting.op ≠ .unconfigured → gate.toNat ≤ 15 →
      Table.find s.setting.map.gates gate.toNat = some b →
      exec (.readGate gate) s = .next (s.answered 2 0x1B .ok (gateData s gate.toNat b))) ∧
    (∀ record : Byte, s.setting.op.loaded = true → record.toNat ≤ 7 →
      exec (.readDeadlock record) s =
        .next (s.answered 2 0x1C .ok (deadlockData (Table.find s.records.deadlocks record.toNat)))) ∧
    (∀ link : Byte, link.toNat ≤ 3 →
      exec (.readLink link 0) s = .next (s.answered 3 0x1D .ok (linkData (s.link link.toNat)))) ∧
    (∀ link clear : Byte, link.toNat ≤ 3 → clear ≠ 0 → ∃ t, exec (.readLink link clear) s = .next t ∧
      t.link link.toNat = { s.link link.toNat with check := 0, format := 0, unknown := 0, device := 0, drop := 0 } ∧
      (∀ l, l ≠ link.toNat → t.link l = s.link l) ∧ t.records = { s.records with links := t.records.links } ∧
      t.setting = s.setting ∧ t.supervisor = s.supervisor.answer 3 0x1D .ok (linkData (s.link link.toNat))) ∧
    (s.setting.op = .unconfigured →
      (∀ x, exec (.readCell x) s = .next (s.answered 3 0x18 .state [])) ∧
      (∀ k, exec (.readCorridor k) s = .next (s.answered 2 0x1A .state [])) ∧
      (∀ g, exec (.readGate g) s = .next (s.answered 2 0x1B .state []))) ∧
    (s.setting.op.loaded = false →
      (∀ c, exec (.readCarrier c) s = .next (s.answered 3 0x19 .state [])) ∧
      (∀ n, exec (.readDeadlock n) s = .next (s.answered 2 0x1C .state []))) ∧
    (s.setting.op ≠ .unconfigured →
      (∀ x, (x = 0 ∨ 2047 < x.toNat ∨ Table.find s.setting.map.cells x.toNat = none) →
        exec (.readCell x) s = .next (s.answered 3 0x18 .range [])) ∧
      (∀ k, (63 < k.toNat ∨ Table.find s.setting.map.corridors k.toNat = none) →
        exec (.readCorridor k) s = .next (s.answered 2 0x1A .range [])) ∧
      (∀ g, (15 < g.toNat ∨ Table.find s.setting.map.gates g.toNat = none) →
        exec (.readGate g) s = .next (s.answered 2 0x1B .range []))) ∧
    (s.setting.op.loaded = true →
      (∀ c, 255 < c.toNat → exec (.readCarrier c) s = .next (s.answered 3 0x19 .range [])) ∧
      (∀ n, 7 < n.toNat → exec (.readDeadlock n) s = .next (s.answered 2 0x1C .range []))) ∧
    (∀ l clear, 3 < l.toNat → exec (.readLink l clear) s = .next (s.answered 3 0x1D .range []))

/-- A read transfer shifts out the response buffer with fill bytes of 0 beyond its end and changes nothing else (R153);
a frame that is no command is answered UNKNOWN under its code and changes nothing else (R154). -/
def Obligations.TransfersAnswer : Prop :=
  ∀ s : State, s.inService →
    (∀ n, ∃ t, exec (.readTransfer n) s = .next t ∧
      t = { s with supervisor := { s.supervisor with dataOut := t.supervisor.dataOut } } ∧
      t.supervisor.dataOut.length = n ∧
      (∀ i, i < n → t.supervisor.dataOut[i]? = some ((s.supervisor.response[i]?).getD 0))) ∧
    (∀ code rest, code ≠ 0 →
      exec (.unknownCommand (code :: rest)) s = .next (s.answered (rest.length + 1) code .unknown []))

/-- Every command frame that is taken increases the sequence number by one and leaves a response with its code, its
status, a sequence number and the length of its data (R153, R166). That the response carries the number after the increase
is the model's choice (log entry 20). -/
def Obligations.CommandsAreAnswered : Prop :=
  ∀ (i : Instr) (code : Byte) (rest : List Byte) (s t : State), s.inService → encodeTransfer i = some (code :: rest) →
    code ≠ 0 → exec i s = .next t →
    t.supervisor.sequence = s.supervisor.sequence + 1 ∧
    ∃ (status : Status) (data : List Byte),
      t.supervisor.response = code :: status.code :: (s.supervisor.sequence + 1) ::
        (halfBytes (BitVec.ofNat 16 data.length) ++ data)

/-! ## Pins, reset and time (R37, R100, R101, R122, R156, R159, R162) -/

/-- A level change on ESTOP_N (R156): to inactive it changes the recorded level alone; to active it raises ESTOP in every
state, and in ACTIVE, with every RUNNING carrier waiting for nothing, it enters ALL-STOP and halts them with a STOP notice
each (R93, R102). -/
def Obligations.EstopActs : Prop :=
  ∀ s : State, s.inService →
    (s.pins.estopN = .low → ∃ t, exec (.estopNLevelChange .high) s = .next t ∧ t.supervisor.estopLevel = .high ∧
      t.pins.estopN = .high ∧ t.setting = s.setting ∧ t.records = s.records ∧
      t.supervisor.response = s.supervisor.response ∧ t.supervisor.sequence = s.supervisor.sequence) ∧
    (s.pins.estopN = .high → s.setting.op ≠ .active → ∃ t, exec (.estopNLevelChange .low) s = .next t ∧
      t.supervisor.estopLevel = .low ∧ t.pins.estopN = .low ∧ t.setting = s.setting ∧
      t.records = { s.records with alerts := s.records.alerts ||| AlertFlag.estop.mask }) ∧
    (s.pins.estopN = .high → s.setting.op = .active →
      (∀ c, c < Config.carriers → (s.ctx c).state = .running → s.claimsNothing c) →
      ∃ t, exec (.estopNLevelChange .low) s = .next t ∧ AllHalted s t ∧ t.supervisor.estopLevel = .low ∧
        t.records.alerts = (stopNotices s).records.alerts ||| AlertFlag.estop.mask ∧ t.records.flag .estop = true)

/-- The changes of the part's input pins, which it follows in reset as well (R122, R156, R159; log entry 6). -/
def isPinEvent (i : Instr) : Prop :=
  (∃ l, i = .estopNLevelChange l) ∨ isReset i ∨ (∃ g l, i = .readyChange g l) ∨ i = .pePerstNAsserted ∨
    i = .pePerstNReleased

/-- Hard reset and its release (R159): after both every record holds its hard reset value, the ESTOP_N level is the
pin's, the link rate is the one sampled, and the response buffer holds the reset response; while RESET_N is asserted the
part takes no command, counts no tick and takes no event but changes of pins. That READY and PE_PERST_N keep the levels
of their pins through reset is the model's reading (log entry 6). -/
def Obligations.HardResetClears : Prop :=
  (∀ (i : Instr) (s : State), s.pins.resetN = .low → ¬isPinEvent i → exec i s = .next s) ∧
  ∀ (s : State) (rate : BitVec 2), ∃ t u, exec .hardReset s = .next t ∧ exec (.resetNRelease rate) t = .next u ∧
    t.pins.resetN = .low ∧ t.alertAsserted = false ∧ (∀ g, t.request g = false) ∧
    u.pins = { resetN := .high, estopN := s.pins.estopN, clrate := rate } ∧
    u.setting.op = .unconfigured ∧ u.setting.map = MapStore.empty ∧ u.setting.tick = 0 ∧
    u.setting.ready = s.setting.ready ∧
    u.records = { State.reset.records with
      engine := { State.reset.records.engine with perst := s.records.engine.perst } } ∧
    u.supervisor = { enable := 0, estopLevel := s.pins.estopN, response := [0, 0, 0, 0, 0], sequence := 0
                     dataOut := [] }

/-- A tick (R162): the tick counter increases by one; every running countdown, silence counter and timer counts one tick,
and nothing else changes. That what stands at 1 becomes due instead of reaching 0 (log entry 3), and that the silence
counter stops at 6000 (log entry 19), is the model's choice. -/
def Obligations.TickCounts : Prop :=
  ∀ s : State, s.inService → ∃ t, exec .tick s = .next t ∧ t.setting = { s.setting with tick := s.setting.tick + 1 } ∧
    (∀ c, t.ctx c = (if (s.ctx c).state = .attached ∨ (s.ctx c).state = .running ∨ (s.ctx c).state = .halting
      then { s.ctx c with silence := min 6000 ((s.ctx c).silence + 1) } else s.ctx c)) ∧
    (∀ x, t.cell x = (if 2 ≤ (s.cell x).countdown then { s.cell x with countdown := (s.cell x).countdown - 1 }
      else if (s.cell x).countdown = 1 then { s.cell x with due := true } else s.cell x)) ∧
    (∀ g, t.gate g = (s.gate g).map (fun r => match r.timer with
      | some n => if 2 ≤ n then { r with timer := some (n - 1) } else { r with due := true }
      | none => r)) ∧
    t.records.engine = (match s.records.engine.timer with
      | some n => if 2 ≤ n then { s.records.engine with timer := some (n - 1) } else { s.records.engine with due := true }
      | none => s.records.engine) ∧
    t.records = { s.records with
      cells := t.records.cells, gates := t.records.gates, carriers := t.records.carriers
      engine := t.records.engine } ∧ t.supervisor = s.supervisor ∧ t.pins = s.pins

/-- The expiry of a clearance countdown (R37): the countdown becomes 0; on a closed cell, with no waiter, outside ACTIVE
or where the cell is not grantable to its head (R38, R39) nothing else of the track changes but causes and edges; where
the offer grants its one waiter a plain run, the waiter has it and an AUTH notice is queued. -/
def Obligations.ClearanceExpires : Prop :=
  ∀ (cell : Fin 2048) (s : State), s.inService → (s.cell cell).due = true →
    let expired := { s.cell cell with countdown := 0, due := false }
    ((s.cell cell).closed = false → OfferGrants (.clearanceCountdownExpiry cell) s cell expired) ∧
    ((s.cell cell).closed = true ∨ OffersNobody s cell expired →
      ∃ t, exec (.clearanceCountdownExpiry cell) s = .next t ∧
      (t.cell cell).butCauses = { (s.cell cell).butCauses with countdown := 0, due := false } ∧
      (∀ x, x ≠ cell.val → t.cell x = s.cell x) ∧ (∀ c, (t.ctx c).butEdge = (s.ctx c).butEdge) ∧
      t.records.reservations = s.records.reservations ∧ t.records.corridors = s.records.corridors ∧
      t.records.gates = s.records.gates ∧ t.records.links = s.records.links ∧
      t.records.engine = s.records.engine ∧ t.setting = s.setting ∧ t.supervisor = s.supervisor)

/-- The silence limit (R100): a LIVE carrier becomes SILENT; ATTACHED and HALTING nothing else changes; RUNNING and
waiting for nothing, its pass-over count becomes 0 and no message is queued. The lost limit (R101): an ATTACHED carrier's
contact becomes LOST and nothing else changes; a HALTING carrier, and a RUNNING one that waits for nothing, becomes
STOPPED with cause LOST, untrimmed, with the STOPPED alert and a STOP notice. -/
def Obligations.ContactLimitsAct : Prop :=
  (∀ (c : Fin 256) (s : State), s.inService → (s.ctx c).contact = .live →
    (s.setting.map.classOf (s.ctx c)).silence ≤ (s.ctx c).silence →
    ((s.ctx c).state = .attached ∨ (s.ctx c).state = .halting ∨
      ((s.ctx c).state = .running ∧ s.claimsNothing c)) →
    ∃ t, exec (.silenceLimit c) s = .next t ∧
      t.ctx c = { s.ctx c with
        contact := .silent, passOver := if (s.ctx c).state = .running then 0 else (s.ctx c).passOver } ∧
      (∀ d, d ≠ c.val → t.ctx d = s.ctx d) ∧ Records.sameTrack s.records t.records ∧
      t.records.links = s.records.links ∧ t.records.engine = s.records.engine ∧
      t.records.alerts = s.records.alerts ∧ t.setting = s.setting ∧ t.supervisor = s.supervisor) ∧
  (∀ (c : Fin 256) (s : State), s.inService → (s.ctx c).contact ≠ .lost →
    (s.setting.map.classOf (s.ctx c)).lost ≤ (s.ctx c).silence →
    ((s.ctx c).state = .attached → ∃ t, exec (.lostLimit c) s = .next t ∧
      t.ctx c = { s.ctx c with contact := .lost } ∧ (∀ d, d ≠ c.val → t.ctx d = s.ctx d) ∧
      Records.sameTrack s.records t.records ∧ t.records.links = s.records.links ∧
      t.records.alerts = s.records.alerts ∧ t.records.engine = s.records.engine ∧ t.setting = s.setting ∧
      t.supervisor = s.supervisor) ∧
    ((s.ctx c).state = .halting ∨ ((s.ctx c).state = .running ∧ s.claimsNothing c) →
      ∃ t, exec (.lostLimit c) s = .next t ∧
        t.ctx c = { s.ctx c with
          contact := .lost, state := .stopped, stopCause := some .lost
          passOver := if (s.ctx c).state = .running then 0 else (s.ctx c).passOver } ∧
        (∀ d, d ≠ c.val → t.ctx d = s.ctx d) ∧ Records.sameTrack s.records t.records ∧
        t.records.links = (send s.run c (.stop .lost)).records.links ∧ t.records.flag .stopped = true ∧
        t.records.engine = s.records.engine ∧ t.setting = s.setting ∧ t.supervisor = s.supervisor))

/-- What a gate's fault leaves where its portal has one RUNNING holder `c` that waits for nothing and no call is owed to
its partner: the gate is in FAULT with the GATE alert, and the holder is HALTING with cause GATE and has a STOP notice
(R129, R93). -/
def FaultHalts (s t : State) (g c : Nat) : Prop :=
  t.gate g = some { state := .fault, callPending := false, timer := none, due := false } ∧
  (∀ h, h ≠ g → t.gate h = s.gate h) ∧
  t.ctx c = { s.ctx c with state := .halting, stopCause := some .gate, passOver := 0 } ∧
  (∀ d, d ≠ c → t.ctx d = s.ctx d) ∧ t.records.cells = s.records.cells ∧
  t.records.corridors = s.records.corridors ∧ t.records.reservations = s.records.reservations ∧
  t.records.links = (send s.run c (.stop .gate)).records.links ∧
  t.records.alerts = (send s.run c (.stop .gate)).records.alerts ||| AlertFlag.gate.mask ∧
  t.records.engine = s.records.engine ∧ t.request g = false

/-- The gate timers (R127, R128): a call timer that expires in CALLING, with no holder in the portal and no call owed to
the partner, leaves the gate in FAULT with the GATE alert; a hold-open timer that expires in OPEN over an idle portal
leaves it SHUT, and a partner that is SHUT with a call pending and READY inactive becomes CALLING. Where the portal has a
RUNNING holder that waits for nothing, the call timer's expiry halts it with cause GATE and a STOP notice (R129, R93). -/
def Obligations.GateTimersExpire : Prop :=
  ∀ (g : Fin 16) (r : GateRun) (s : State), s.inService → s.gate g = some r → r.due = true →
    (r.state = .calling → portalHeld s.setting s.run g = false → partnerPending s.setting s.run g = false →
      ∃ t, exec (.callTimerExpiry g) s = .next t ∧
        t.gate g = some { state := .fault, callPending := false, timer := none, due := false } ∧
        (∀ h, h ≠ g.val → t.gate h = s.gate h) ∧
        t.records = { s.records with
          gates := t.records.gates, alerts := s.records.alerts ||| AlertFlag.gate.mask } ∧
        t.setting = s.setting ∧ t.request g = false) ∧
    (∀ x c, r.state = .calling → s.setting.map.portalOf g = some x → (s.cell x).holders = [c] →
      (s.ctx c).state = .running → s.claimsNothing c → partnerPending s.setting s.run g = false →
      ∃ t, exec (.callTimerExpiry g) s = .next t ∧ FaultHalts s t g c ∧ t.setting = s.setting) ∧
    (r.state = .opened → portalIdle s.setting s.run g = true → partnerPending s.setting s.run g = false →
      ∃ t, exec (.holdOpenExpiry g) s = .next t ∧
        t.gate g = some { r with state := .shut, timer := none, due := false } ∧
        (∀ h, h ≠ g.val → t.gate h = s.gate h) ∧ t.records = { s.records with gates := t.records.gates } ∧
        t.setting = s.setting ∧ t.request g = false) ∧
    (∀ p q b, r.state = .opened → portalIdle s.setting s.run g = true → s.setting.map.partner g = some p →
      p ≠ g.val → s.gate p = some q → q.state = .shut → q.callPending = true →
      Table.find s.setting.map.gates p = some b → s.setting.readyActive p = false →
      ∃ t, exec (.holdOpenExpiry g) s = .next t ∧
        t.gate g = some { r with state := .shut, timer := none, due := false } ∧
        t.gate p = some { state := .calling, callPending := false, timer := some b.callLimit, due := false } ∧
        t.request g = false ∧ t.request p = true)

/-- A READY change (R122, R125, R126, R129): to active in CALLING over an idle portal, with no call owed to the partner
and a hold-open time, the gate is OPEN with its hold-open timer; over a portal that has a holder or a waiter, but is
offered to nobody (R38, R39), it is OPEN without a timer. To inactive in OPEN or DRAINING with no call owed it is in FAULT
with the GATE alert: with no holder nothing else changes, and a RUNNING holder that waits for nothing halts with cause GATE
and a STOP notice (R93). In SHUT, FAULT and without a record only the level changes. That a gate which opens over a waiter
it can offer nothing to starts no timer follows R121 and R127 where the text of R126 differs (log entry 31). -/
def Obligations.ReadyActs : Prop :=
  ∀ (g : Fin 16) (level : Level) (s : State), s.inService → Table.at s.setting.ready .low g ≠ level →
    let ready := Table.put s.setting.ready Level.low g level
    (∀ r b, s.gate g = some r → Table.find s.setting.map.gates g = some b → r.state = .calling → level = b.polarity →
      portalIdle s.setting s.run g = true → partnerPending s.setting s.run g = false → b.holdOpen ≠ 0 →
      ∃ t, exec (.readyChange g level) s = .next t ∧
        t.gate g = some { r with state := .opened, timer := some b.holdOpen, due := false } ∧
        (∀ h, h ≠ g.val → t.gate h = s.gate h) ∧ t.records = { s.records with gates := t.records.gates } ∧
        t.setting = { s.setting with ready := ready }) ∧
    (∀ r b x, s.gate g = some r → Table.find s.setting.map.gates g = some b → b.portal = x → r.state = .calling →
      level = b.polarity → ((s.cell x).holders ≠ [] ∨ (s.cell x).queue ≠ []) →
      let opened := { r with state := .opened, timer := none, due := false }
      let open_ := s.run.modGate g (fun _ => opened)
      ((s.cell x).queue = [] ∨ s.setting.op ≠ .active ∨ ∃ w rest, (s.cell x).queue = w :: rest ∧
        grantTest s.setting open_ w.carrier x w.step ≠ none) →
      partnerPending s.setting s.run g = false →
      ∃ t, exec (.readyChange g level) s = .next t ∧ t.gate g = some opened ∧
        (∀ h, h ≠ g.val → t.gate h = s.gate h) ∧ t.records = { s.records with gates := t.records.gates } ∧
        t.setting = { s.setting with ready := ready }) ∧
    (∀ r b c, s.gate g = some r → Table.find s.setting.map.gates g = some b →
      (r.state = .opened ∨ r.state = .draining) → level ≠ b.polarity → (s.cell b.portal).holders = [c] →
      (s.ctx c).state = .running → s.claimsNothing c → partnerPending s.setting s.run g = false →
      ∃ t, exec (.readyChange g level) s = .next t ∧ FaultHalts s t g c ∧
        t.setting = { s.setting with ready := ready }) ∧
    (∀ r b, s.gate g = some r → Table.find s.setting.map.gates g = some b →
      (r.state = .opened ∨ r.state = .draining) → level ≠ b.polarity → portalHeld s.setting s.run g = false →
      partnerPending s.setting s.run g = false →
      ∃ t, exec (.readyChange g level) s = .next t ∧
        t.gate g = some { state := .fault, callPending := false, timer := none, due := false } ∧
        (∀ h, h ≠ g.val → t.gate h = s.gate h) ∧
        t.records = { s.records with
          gates := t.records.gates, alerts := s.records.alerts ||| AlertFlag.gate.mask } ∧
        t.setting = { s.setting with ready := ready }) ∧
    ((∀ r, s.gate g = some r → r.state = .shut ∨ r.state = .fault) →
      exec (.readyChange g level) s = .next { s with setting := { s.setting with ready := ready } })

/-! ## The route fetch engine (R105, R111 to R118, R165) -/

/-- PE_PERST_N (R111): with no read in flight its assertion and its release change the level the engine sees alone; a
read in flight for a VACANT carrier ends at the assertion and is discarded. Without a read in flight, with another read
number or while PE_PERST_N is asserted a completion is discarded without effect; good data that are not yet whole are
kept with the read. That the release changes the level alone, the head of the queue being served by an event of its own,
is the model's choice (log entry 25). -/
def Obligations.PortEventsAct : Prop :=
  (∀ s : State, s.inService →
    (s.records.engine.inFlight = none → exec .pePerstNAsserted s =
      .next { s with records := { s.records with engine := { s.records.engine with perst := true } } }) ∧
    (∀ r, s.records.engine.inFlight = some r → s.records.engine.perst = false → (s.ctx r.carrier).state = .vacant →
      exec .pePerstNAsserted s = .next { s with records := { s.records with engine := { s.records.engine with
        perst := true, inFlight := none, timer := none, due := false } } }) ∧
    exec .pePerstNReleased s =
      .next { s with records := { s.records with engine := { s.records.engine with perst := false } } }) ∧
  (∀ (number : Byte) (status : CompletionStatus) (data : List Byte) (s : State), s.inService →
    (s.records.engine.inFlight = none ∨ s.records.engine.perst = true ∨
        (∃ f, s.records.engine.inFlight = some f ∧ f.number ≠ number) →
      exec (.readCompletion number status data) s = .next s) ∧
    (∀ f, s.records.engine.inFlight = some f → s.records.engine.perst = false → f.number = number →
      f.received.length + data.length < f.length →
      exec (.readCompletion number .good data) s = .next { s with records := { s.records with
        engine := { s.records.engine with inFlight := some { f with received := f.received ++ data } } } }))

/-- A read that fails before step 0 of an ATTACHED carrier's route has been read (R111, R118, R84, R85): by the expiry of
its timer, by a completion that reports an abort or poisoned data, and by PE_PERST_N, the route ends with result BUS; the
carrier is IDLE on its resting entries, a write-back with step index 0 is queued, and BUS and ROUTE-END are raised. A
first read whose header is not valid ends the route in the same way with result HEADER, with ROUTE-FAULT and ROUTE-END
raised and the header's fields not stored (R105). That the carrier keeps its resting entries (log entry 14), and that the
queue is left for the serving events (log entry 25), is the model's choice. -/
def Obligations.FailedReadEndsRoute : Prop :=
  (∀ (i : Instr) (f : ReadInFlight) (a : Address) (s : State), s.inService →
    s.records.engine.inFlight = some f → s.records.engine.perst = false →
    let c := f.carrier
    let k := s.ctx c
    (i = .readTimerExpiry ∧ s.records.engine.due = true ∨ i = .pePerstNAsserted ∨
      (∃ data, i = .readCompletion f.number .aborted data ∨ i = .readCompletion f.number .poisoned data)) →
    k.state = .attached → k.generation = f.generation → k.routeAddr = some a → k.nextStep = 0 → k.wait = none →
    (∀ h ∈ k.held, h.step = none) →
    ∃ t, exec i s = .next t ∧ t.ctx c = restedContext k .bus ∧ (∀ d, d ≠ c → t.ctx d = s.ctx d) ∧
      t.records.engine.queue = queueAfterEnd s.records.engine.queue c a .bus 0 k.used k.generation ∧
      t.records.engine.inFlight = none ∧ t.records.engine.timer = none ∧
      t.records.alerts = s.records.alerts ||| AlertFlag.bus.mask ||| AlertFlag.routeEnd.mask ∧
      Records.sameTrack s.records t.records ∧ t.records.links = s.records.links ∧ t.setting = s.setting) ∧
  (∀ (f : ReadInFlight) (data : List Byte) (a : Address) (s : State), s.inService →
    s.records.engine.inFlight = some f → s.records.engine.perst = false → f.first = true →
    let c := f.carrier
    let k := s.ctx c
    let page := (f.received ++ data).take f.length
    f.length ≤ f.received.length + data.length →
    ¬(field page 0 2 = 0x5A31 ∧ 1 ≤ field page 2 2 ∧ field page 2 2 ≤ 1023) →
    k.state = .attached → k.generation = f.generation → k.routeAddr = some a → k.wait = none →
    (∀ h ∈ k.held, h.step = none) →
    ∃ t, exec (.readCompletion f.number .good data) s = .next t ∧ t.ctx c = restedContext k .header ∧
      (∀ d, d ≠ c → t.ctx d = s.ctx d) ∧
      t.records.engine.queue = queueAfterEnd s.records.engine.queue c a .header 0 k.used k.generation ∧
      t.records.engine.inFlight = none ∧
      t.records.alerts = s.records.alerts ||| AlertFlag.routeFault.mask ||| AlertFlag.routeEnd.mask ∧
      Records.sameTrack s.records t.records ∧ t.setting = s.setting)

/-- The direction of a route in the corridor of the step before step `i`: the one the validation record keeps, and for
step 1 the corridor's own (R116). -/
def travelBefore (v : Run) (w : Validation) (i : Nat) : Direction :=
  match w.corridor with
  | some (k, d) => if i = 1 then (v.corridor k).direction else d
  | none => .free

/-- Corridor travel from cell `p` to cell `x` (R116), `d` being the route's direction at `p`. -/
def CorridorTravel (m : MapStore) (p x : Nat) (d : Direction) : Prop :=
  let length := fun k => (Table.at m.corridors [] k).length
  let isEnd := fun k i => i = 0 ∨ i + 1 = length k
  let leaves := fun j a => (d = .ab ∧ a + 1 = length j) ∨ (d = .ba ∧ a = 0)
  match m.corridorOf p, m.corridorOf x with
  | none, none => True
  | none, some (k, i) => isEnd k i
  | some (j, a), none => leaves j a
  | some (j, a), some (k, i) =>
    if j = k then (d = .ab ∧ i = a + 1) ∨ (d = .ba ∧ i + 1 = a) else leaves j a ∧ isEnd k i

/-- Step `i` of a route of `n` steps is valid (R115, R116): `front` is the last reported front cell and `before` the
validation record of the step before. -/
def StepValid (m : MapStore) (v : Run) (front : Nat) (before : Option Validation) (i n : Nat) (s : Slot) : Prop :=
  (∃ q, Table.find m.cells s.cell = some q) ∧ (s.hold = true → m.standing s.cell = true) ∧
  (s.last = true ↔ i + 1 = n) ∧ (i + 1 = n → m.standing s.cell = true ∧ m.corridorOf s.cell = none) ∧
  (i = 0 → s.cell = front) ∧
  (i ≠ 0 → ∃ w, before = some w ∧ (∃ q, Table.find m.cells w.cell = some q ∧ some s.cell ∈ q.ports) ∧
    (m.kindOf s.cell = some .lane → m.entryOf s.cell = some w.cell) ∧
    (m.kindOf w.cell = some .lane → m.exitOf w.cell = some s.cell) ∧
    (m.standing s.cell = false → w.nonStanding + 1 ≤ 6) ∧ CorridorTravel m w.cell s.cell (travelBefore v w i))

/-- Step validation (R115, R116): a step is taken exactly when it is valid, and its record then holds its cell, the
corridor it lies in with the route's direction there, and the non-standing steps ending at it. -/
def StepsAreValidated : Prop :=
  ∀ (e : Setting) (v : Run) (c i n : Nat) (s : Slot),
    (∀ w, (v.ctx c).validation = some w → w.corridor.map Prod.fst = (e.map.corridorOf w.cell).map Prod.fst) →
    ((validateStep e v c i n s).isSome = true ↔
      StepValid e.map v (v.ctx c).frontCell (v.ctx c).validation i n s) ∧
    (∀ u, validateStep e v c i n s = some u → u.cell = s.cell ∧
      u.nonStanding = (if e.map.standing s.cell then 0 else if i = 0 then 1
        else (((v.ctx c).validation.map Validation.nonStanding).getD 0) + 1) ∧
      u.corridor = (e.map.corridorOf s.cell).map (fun place => (place.1,
        if i = 0 then (v.corridor place.1).direction
        else match (v.ctx c).validation with
          | some w => if w.corridor.map Prod.fst = some place.1 then travelBefore v w i
            else if place.2 = 0 then .ab else .ba
          | none => .free)))

/-- The steps `steps`, next to be read of a route of `n` steps, are each valid after the one before, with the validation
records `ws`. -/
def StepsTaken (e : Setting) (v : Run) (c n : Nat) (steps : List Slot) (ws : List Validation) : Prop :=
  steps.length = ws.length ∧ ∀ (j : Nat) (s : Slot), steps[j]? = some s →
    validateStep e (v.modCtx c (fun k => { k with validation := if j = 0 then k.validation else ws[j - 1]? })) c
      ((v.ctx c).nextStep + j) n s = ws[j]?

/-- The part with those steps appended: each in its slot, the count and the next step to fetch increased, the last
validation record kept (R117). -/
def withSteps (v : Run) (c : Nat) (steps : List Slot) (ws : List Validation) : Run :=
  let k := v.ctx c
  (steps.zipIdx.foldl (fun v p => v.setSlot (k.windowBase + (k.nextStep + p.2) % k.windowSize) p.1) v).modCtx c
    (fun k => { k with
      windowCount := k.windowCount + steps.length, nextStep := k.nextStep + steps.length
      validation := ws.getLast?.or k.validation })

/-- The part with a route cut at step `j`: every step above it has left the window (R117, R118). -/
def withCut (v : Run) (c j : Nat) (result : RouteResult) : Run :=
  v.modCtx c (fun k => { k with
    cutPoint := some j, cutResult := some result
    windowCount := k.windowCount - (k.nextStep - (j + 1)), nextStep := j + 1 })

/-- Step `j` of a carrier's route is a standing step in its window. -/
def StandsAt (e : Setting) (v : Run) (c j : Nat) : Prop :=
  (v.ctx c).nextStep - (v.ctx c).windowCount ≤ j ∧ j < (v.ctx c).nextStep ∧
    e.map.standing (v.slot ((v.ctx c).windowBase + j % (v.ctx c).windowSize)).cell = true

/-- What a read leaves of the records that its carrier's action on it does not change: the slots of `u`, the engine's read
over, the alerts `flags` raised, and the rest of the part as before. -/
def ReadRecords (s t : State) (u : Run) (flags : BitVec 10) : Prop :=
  (∀ n, Table.at t.records.slots Slot.blank n = u.slot n) ∧ t.records.cells = s.records.cells ∧
  t.records.reservations = s.records.reservations ∧ t.records.corridors = s.records.corridors ∧
  t.records.gates = s.records.gates ∧ t.records.deadlocks = s.records.deadlocks ∧ t.records.marks = s.records.marks ∧
  t.records.links = s.records.links ∧ t.records.alerts = s.records.alerts ||| flags ∧ t.setting = s.setting

/-- The carrier table's action on a read that has appended steps to the window of a carrier of a started route, or cut its
route, and so left the run `u` (R117): HALTING or STOPPED, nothing more; RUNNING and waiting for nothing, an attempt where
it is LIVE and the controller ACTIVE, which here meets a stop test other than lane order, no notice, and the fetch
trigger. -/
def ReadActsOn (i : Instr) (s : State) (u : Run) (c : Nat) (flags : BitVec 10) : Prop :=
  let k := u.ctx c
  (k.state = .halting ∨ k.state = .stopped → ∃ t, exec i s = .next t ∧ ReadRecords s t u flags ∧
    (∀ d, t.ctx d = u.ctx d) ∧ t.records.engine = u.records.engine) ∧
  (k.state = .running → s.claimsNothing c → (s.setting.op ≠ .active ∨ k.contact ≠ .live) →
    ∃ t, exec i s = .next t ∧ ReadRecords s t u flags ∧ (∀ d, t.ctx d = u.ctx d) ∧
      t.records.engine = (fetchTrigger u c).records.engine) ∧
  (∀ r, k.state = .running → s.claimsNothing c → s.setting.op = .active → k.contact = .live → r ≠ .order →
    stopTest s.setting u c = some r →
    let w := u.modCtx c (fun k => { k with blockReason := some r })
    ∃ t, exec i s = .next t ∧ ReadRecords s t u flags ∧ (∀ d, t.ctx d = w.ctx d) ∧
      t.records.engine = (fetchTrigger w c).records.engine)

/-- A started route that is left without a usable cut point (R117, R118, R85): the carrier, which waits for nothing and
holds one entry, its front step's, is IDLE on it, with a write-back of the result and the front step, and ROUTE-END. -/
def UncutEnds (i : Instr) (s : State) (u : Run) (c : Nat) (result : RouteResult) (flags : BitVec 10) : Prop :=
  ∀ (x d : Nat) (a : Address),
    let k := u.ctx c
    let k' := { k with
      state := .idle, lastResult := some result
      routeAddr := none, routeTag := none, stepCount := none, cutPoint := none, cutResult := none, faultStep := none
      nextStep := 0, windowCount := 0, validation := none, front := 0, rear := 0, grantMark := 1
      blockReason := none, stopCause := none, holdLifted := false, frontCell := x
      held := [{ cell := x, step := none, distance := d }]
      passOver := if k.state = .running then 0 else k.passOver }
    (k.state = .running ∨ k.state = .halting ∨ k.state = .stopped) → s.claimsNothing c →
    k.held = [{ cell := x, step := some k.front, distance := d }] → k.rear ≤ k.front → k.routeAddr = some a →
    ∃ t, exec i s = .next t ∧ ReadRecords s t u (flags ||| AlertFlag.routeEnd.mask) ∧ t.ctx c = k' ∧
      (∀ d, d ≠ c → t.ctx d = s.ctx d) ∧
      t.records.engine = { u.records.engine with
        queue := u.records.engine.queue.filter (fun r => match r with
            | .fetch d _ => d != c
            | .writeBack _ _ _ _ _ _ => true) ++ [.writeBack c a result k.front k.used k.generation] }

/-- A route cut below step `f` with a result (R117, R118): at its highest standing step in the window below `f`, or, where
there is none, the route ends. -/
def CutsBelow (i : Instr) (s : State) (u : Run) (c f : Nat) (result : RouteResult) (flags : BitVec 10) : Prop :=
  (∀ j, j < f → StandsAt s.setting u c j → (∀ j', j < j' → j' < f → ¬StandsAt s.setting u c j') →
    ReadActsOn i s (withCut u c j result) c flags) ∧
  ((∀ j, j < f → ¬StandsAt s.setting u c j) → UncutEnds i s u c result flags)

/-- Completed reads (R84, R43, R115 to R118), accepted for their carriers. A step is appended exactly when it is valid by
R115 and R116. A step read appends its valid steps up to the step count, in their slots; at the first invalid step, with
ROUTE-FAULT and the fault step, and at a bus fault after step 0, with BUS, the route is cut at its highest standing step in
the window, or ends where there is none. A HALTING or STOPPED carrier has nothing more; a RUNNING one that waits for nothing
makes its attempt. The first page of a route, its header valid and its steps valid, makes an ATTACHED, LIVE carrier that
waits for nothing RUNNING in ACTIVE on the step-0 entry with grant mark 1; its attempt, where it meets a stop test other
than lane order, records that reason, and an AUTH notice is queued. Of a page of one step with END on the carrier's front
cell the reason is ROUTE-END or NONE. -/
def Obligations.FirstPageStartsRoute : Prop :=
  StepsAreValidated ∧
  (∀ (f : ReadInFlight) (n : Nat) (s : State), s.inService → s.records.engine.inFlight = some f →
    s.records.engine.perst = false → f.first = false → (s.ctx f.carrier).generation = f.generation →
    (s.ctx f.carrier).routeAddr.isSome = true → (s.ctx f.carrier).stepCount = some n →
    let c := f.carrier
    let k := s.ctx c
    let v := s.run.setEngine { s.records.engine with inFlight := none, timer := none, due := false }
    (∀ data, f.length ≤ f.received.length + data.length →
      let records := decodeSteps (f.length / 8) ((f.received ++ data).take f.length)
      let i := Instr.readCompletion f.number .good data
      (∀ ws, records ≠ [] → k.nextStep < n → (records.take (n - k.nextStep)).length ≤ k.windowSize →
        StepsTaken s.setting v c n (records.take (n - k.nextStep)) ws →
        ReadActsOn i s (withSteps v c (records.take (n - k.nextStep)) ws) c 0) ∧
      (∀ valid bad rest ws, records = valid ++ bad :: rest → k.nextStep + valid.length < n →
        k.nextStep + valid.length ≠ 0 → valid.length ≤ k.windowSize → StepsTaken s.setting v c n valid ws →
        let u := withSteps v c valid ws
        validateStep s.setting u c (k.nextStep + valid.length) n bad = none →
        CutsBelow i s (u.modCtx c (fun k => { k with faultStep := some k.nextStep })) c (k.nextStep + valid.length)
          .stepFault AlertFlag.routeFault.mask)) ∧
    (k.nextStep ≠ 0 → ∀ i, (i = .readTimerExpiry ∧ s.records.engine.due = true ∨
        (∃ data, i = .readCompletion f.number .aborted data ∨ i = .readCompletion f.number .poisoned data)) →
      CutsBelow i s v c k.nextStep .bus AlertFlag.bus.mask)) ∧
  (∀ (f : ReadInFlight) (data : List Byte) (n : Nat) (ws : List Validation) (r : Reason) (s : State), s.inService →
    s.setting.op = .active → s.records.engine.inFlight = some f → s.records.engine.perst = false → f.first = true →
    f.length ≤ f.received.length + data.length →
    let c := f.carrier
    let k := s.ctx c
    let page := (f.received ++ data).take f.length
    let records := (decodeSteps ((f.length - 16) / 8) (page.drop 16)).take n
    let v := (s.run.setEngine { s.records.engine with inFlight := none, timer := none, due := false }).modCtx c
      (fun k => { k with stepCount := some n, routeTag := some (BitVec.ofNat 32 (field page 4 4)) })
    let u := (withSteps v c records ws).modCtx c (fun k => { k with
      state := .running, front := 0, rear := 0, grantMark := 1, holdLifted := false, blockReason := none
      held := k.held.map (fun h => if h.step = none ∧ h.cell = k.frontCell then { h with step := some 0 } else h) })
    let w := u.modCtx c (fun k => { k with blockReason := some r })
    field page 0 2 = 0x5A31 → field page 2 2 = n → 1 ≤ n → n ≤ 1023 → records ≠ [] → records.length ≤ k.windowSize →
    StepsTaken s.setting v c n records ws → k.state = .attached → k.contact = .live → k.generation = f.generation →
    k.routeAddr.isSome = true → k.nextStep = 0 → s.claimsNothing c → stopTest s.setting u c = some r → r ≠ .order →
    ∃ t, exec (.readCompletion f.number .good data) s = .next t ∧ (∀ d, t.ctx d = w.ctx d) ∧
      (∀ m, Table.at t.records.slots Slot.blank m = u.slot m) ∧ t.records.cells = s.records.cells ∧
      t.records.gates = s.records.gates ∧ t.records.corridors = s.records.corridors ∧
      t.records.links = (send s.run c (authNotice s.setting w c)).records.links ∧
      t.records.alerts = (send s.run c (authNotice s.setting w c)).records.alerts ∧
      t.records.engine = (fetchTrigger w c).records.engine ∧ t.setting = s.setting) ∧
  ∀ (f : ReadInFlight) (data : List Byte) (h : Held) (s : State), s.inService → s.setting.op = .active →
    s.records.engine.inFlight = some f → s.records.engine.perst = false → f.first = true → f.length = 24 →
    f.received = [] → data.length = 24 →
    let c := f.carrier
    let k := s.ctx c
    field data 0 2 = 0x5A31 → field data 2 2 = 1 →
    (decodeStep (data.drop 16)).cell = k.frontCell → (decodeStep (data.drop 16)).last = true →
    s.setting.map.standing k.frontCell = true → s.setting.map.corridorOf k.frontCell = none →
    k.state = .attached → k.contact = .live → k.generation = f.generation → k.routeAddr.isSome = true →
    k.nextStep = 0 → k.windowCount = 0 → k.windowSize = 8 → k.cutPoint = none → s.claimsNothing c →
    k.held = [h] → h.cell = k.frontCell → h.step = none →
    ∃ t, exec (.readCompletion f.number .good data) s = .next t ∧
      (t.ctx c).state = .running ∧ (t.ctx c).held = [{ h with step := some 0 }] ∧ (t.ctx c).front = 0 ∧
      (t.ctx c).rear = 0 ∧ (t.ctx c).grantMark = 1 ∧ (t.ctx c).stepCount = some 1 ∧ (t.ctx c).nextStep = 1 ∧
      (t.ctx c).windowCount = 1 ∧ (t.ctx c).routeTag = some (BitVec.ofNat 32 (field data 4 4)) ∧
      ((t.ctx c).blockReason = some .none ∨ (t.ctx c).blockReason = some .routeEnd) ∧
      Table.at t.records.slots Slot.blank k.windowBase = decodeStep (data.drop 16) ∧
      (∀ d, d ≠ c → t.ctx d = s.ctx d) ∧ t.records.cells = s.records.cells ∧ t.records.gates = s.records.gates ∧
      t.records.corridors = s.records.corridors ∧ t.records.engine.inFlight = none ∧
      t.records.engine.queue = s.records.engine.queue ∧
      t.records.links = (send s.run c (authNotice s.setting t.run c)).records.links ∧
      t.records.alerts = (send s.run c (authNotice s.setting t.run c)).records.alerts ∧ t.setting = s.setting

/-- Serving a fetch (R111 to R113): with no read in flight and PE_PERST_N not asserted the request leaves the queue and
one read is in flight, with the carrier's generation, the next read number and the timer at 5 ticks; a first read covers
the header and at most 6 steps, a step read at most 8, none more than the window's free slots and none across a 4 KiB
boundary. Serving a write-back (R106, R165): the request leaves the queue and the result word is written, low byte first,
at the route address plus 8, in four bytes. That the read carries the number after its increase (log entry 20), that what
the port issues is seen as its last transaction (log entry 7), and that a step record's address wraps at 2^64 (log entry
32), is the model's choice. -/
def Obligations.QueueIsServed : Prop :=
  (∀ (c : Nat) (first : Bool) (rest : List EngineRequest) (a : Address) (s : State), s.inService →
    s.records.engine.queue = .fetch c first :: rest → s.records.engine.inFlight = none →
    s.records.engine.perst = false → (s.ctx c).routeAddr = some a →
    let k := s.ctx c
    let start := if first then a else a + BitVec.ofNat 64 (16 + 8 * k.nextStep)
    let steps := if first then min (min 6 k.freeSlots) ((4096 - (a.toNat % 4096 + 16)) / 8)
      else min (min 8 k.freeSlots) (min (k.stepCount.getD 0 - k.nextStep) ((4096 - start.toNat % 4096) / 8))
    let length := (if first then 16 else 0) + 8 * steps
    let number := s.records.engine.readNumber + 1
    exec .serveFetch s = .next { s with records := { s.records with engine := { s.records.engine with
      queue := rest
      inFlight := some { carrier := c, generation := k.generation, number := number, first := first
                         length := length, received := [] }
      timer := some 5, due := false, readNumber := number, lastIssued := some (.read start length number) } } }) ∧
  (∀ (c : Nat) (a : Address) (result : RouteResult) (step used : Nat) (generation : Byte)
    (rest : List EngineRequest) (s : State), s.inService →
    s.records.engine.queue = .writeBack c a result step used generation :: rest →
    s.records.engine.inFlight = none → s.records.engine.perst = false → step ≤ 1022 → used ≤ 255 →
    ∃ t bytes, exec .serveWriteBack s = .next t ∧
      t.records.engine = { s.records.engine with queue := rest, lastIssued := some (.write (a + 8) bytes) } ∧
      bytes.length = 4 ∧
      t.records = { s.records with engine := t.records.engine } ∧ t.setting = s.setting ∧
      littleEndian bytes = generation.toNat + 2 ^ 8 * used + 2 ^ 16 * step + 2 ^ 26 * result.code.toNat + 2 ^ 31)

/-! ## Carrier frames (R86 to R92, R143 to R149) -/

/-- The three kinds of frame from carrier `c` on link `l`. -/
def FrameOf (i : Instr) (l : Fin 4) (c : Byte) : Prop :=
  (∃ front speed requested flags, i = .ask l c front speed requested flags) ∨
  (∃ front rear cell speed, i = .pass l c front rear cell speed) ∨ (∃ front speed, i = .done l c front speed)

/-- A context after a good frame on link `l`: contact LIVE, silence 0, home link `l` (R86, R148). -/
def heardContext (k : Context) (l : Nat) : Context := { k with contact := .live, silence := 0, homeLink := some l }

/-- The run of a part on which a good frame from carrier `c` has arrived on link `l` and left its context at `k`: the
receiver hunts, and the carrier's queued message has left an old home link (R143, R148). -/
def heardRun (s : State) (l c : Nat) (k : Context) : Run :=
  (setHome (s.run.setReceiver l Receiver.hunting) c l).modCtx c (fun _ => k)

/-- What a good frame on link `l` leaves that ends in the one message `p`: the carrier's context at `k`, the track and
every other context as before, and the alerts `flags` raised. -/
def AnsweredAt (s t : State) (l c : Nat) (k : Context) (p : Payload) (flags : BitVec 10) : Prop :=
  t.ctx c = k ∧ (∀ d, d ≠ c → t.ctx d = s.ctx d) ∧ Records.sameTrack s.records t.records ∧
  t.records.links = (send (heardRun s l c k) c p).records.links ∧
  t.records.alerts = (send (heardRun s l c k) c p).records.alerts ||| flags ∧
  t.setting = s.setting ∧ t.supervisor = s.supervisor

/-- The entries `gone` of carrier `c` name cells that a release empties and that lead to nothing more: each is defined, no
LANE, PORTAL or corridor member, has no waiter and is held by the carrier alone (R35). -/
def FreedAlone (s : State) (c : Nat) (gone : List Held) : Prop :=
  (gone.map Held.cell).Nodup ∧ ∀ h ∈ gone, (s.cell h.cell).queue = [] ∧ (s.cell h.cell).holders = [c] ∧
    ∃ m, Table.find s.setting.map.cells h.cell = some m ∧ m.kind ≠ .lane ∧ m.kind ≠ .portal ∧ m.corridor = none

/-- The record of cell `x` after its last holder has left: without a holder, and with its clearance countdown started where
its clearance is above 0 (R35, R37). -/
def emptiedCell (m : MapStore) (x : Nat) (r : CellRun) : CellRun :=
  match Table.find m.cells x with
  | some k => if k.clearance = 0 then { r with holders := [] }
    else { r with holders := [], countdown := k.clearance, due := false }
  | none => { r with holders := [] }

/-- A run with the cells of the entries `gone` emptied. -/
def emptiedRun (m : MapStore) (v : Run) (gone : List Held) : Run :=
  gone.foldl (fun v h => v.setCell h.cell (emptiedCell m h.cell (v.cell h.cell))) v

/-- What a good frame on link `l` leaves that releases the entries `gone` and ends in the one message `p`: as `AnsweredAt`,
with the cells of those entries emptied. -/
def ReleasedAt (s t : State) (l c : Nat) (k : Context) (gone : List Held) (p : Payload) (flags : BitVec 10) : Prop :=
  let w := heardRun s l c k
  t.ctx c = k ∧ (∀ d, d ≠ c → t.ctx d = s.ctx d) ∧
  (∀ x, t.cell x = (emptiedRun s.setting.map s.run gone).cell x) ∧ (∀ d, t.reservations d = s.reservations d) ∧
  t.records.corridors = s.records.corridors ∧ t.records.gates = s.records.gates ∧ t.records.slots = s.records.slots ∧
  t.records.deadlocks = s.records.deadlocks ∧ t.records.marks = s.records.marks ∧
  t.records.links = (send w c p).records.links ∧ t.records.alerts = (send w c p).records.alerts ||| flags ∧
  t.setting = s.setting ∧ t.supervisor = s.supervisor

/-- A held entry that an accepted PASS with rear step `b` releases: a step below `b`, or a resting entry (R88). -/
def leftBehind (b : Nat) (h : Held) : Bool :=
  match h.step with
  | some j => decide (j < b)
  | none => true

/-- A context after the first two steps of R88, by a PASS on link `l` that releases something: the position moved, the
entries behind the rear given up, and the window slots of every step below the lowest one still held freed (R108). -/
def passedContext (k : Context) (l speed f b x : Nat) : Context :=
  let kept := k.held.filter (fun h => !leftBehind b h)
  let k' := { heardContext k l with lastSpeed := speed, front := f, rear := b, frontCell := x, held := kept }
  match (kept.filterMap Held.step).min? with
  | some low => { k' with windowCount := k.windowCount - (low - (k.nextStep - k.windowCount)) }
  | none => k'

/-- The end of a cut route at its cut point (R89, R85), by the frame `i` that leaves the context of its carrier, which waits
for nothing, at `k` and releases the entries `gone`: with no step entry outside rear and front the carrier is IDLE on what it
holds, resting entries among it (R95 over R89, log entry 14), with the cut result and a write-back, ROUTE-END is raised, and
the reply is WAIT NO-ROUTE. -/
def CutEnds (i : Instr) (l : Fin 4) (c : Byte) (s : State) (k : Context) (gone : List Held) : Prop :=
  let n := c.toNat
  ∀ (a : Address) (result : RouteResult), s.claimsNothing n → k.cutPoint = some k.front → k.cutResult = some result →
    (result = .stepFault ∨ result = .bus) → k.routeAddr = some a →
    (∀ e ∈ k.held, e.outside k.rear k.front = false) →
    (∀ e ∈ k.held, e.step = some k.front → e.cell = k.frontCell) → FreedAlone s n gone →
    ∃ t, exec i s = .next t ∧
      ReleasedAt s t l n
        { restedContext k result with passOver := 0, held := k.held.map (fun e => { e with step := none }) } gone
        (.wait 0 0 .noRoute) AlertFlag.routeEnd.mask ∧
      t.records.engine = { s.records.engine with
        queue := queueAfterEnd s.records.engine.queue n a result k.front k.used k.generation }

/-- The position a PASS reports is one that R87 calls consistent. -/
def PassConsistent (s : State) (c f b x : Nat) : Prop :=
  (s.run.step c f).map Slot.cell = some x ∧ b ≤ f ∧ f ≤ b + 2 ∧ (s.ctx c).rear ≤ b

/-- The frame `i` is an ASK or a PASS of a HALTING carrier `c` that reports a speed and leaves its context at `k'` before
what its speed brings about (R94): an ASK, at rest one below the grant mark; an inconsistent PASS; a PASS that would be
accepted, with nothing behind it to release. -/
def HaltingReport (i : Instr) (l : Fin 4) (c : Byte) (s : State) (speed : Byte) (k' : Context) : Prop :=
  let k := s.ctx c.toNat
  let h := { heardContext k l with lastSpeed := speed.toNat }
  (∃ (front : Half) (requested flags : Byte), i = .ask l c front speed requested flags ∧
    (speed = 0 → front.toNat < k.grantMark) ∧
    k' = { h with requested := min requested.toNat (s.setting.map.classOf k).vmax }) ∨
  (∃ front rear cell : Half, i = .pass l c front rear cell speed ∧ k.front ≤ front.toNat ∧ front.toNat < k.grantMark ∧
    ((¬PassConsistent s c.toNat front.toNat rear.toNat cell.toNat ∧ k' = h) ∨
      (PassConsistent s c.toNat front.toNat rear.toNat cell.toNat ∧
        (∀ e ∈ k.held, ∃ j, e.step = some j ∧ rear.toNat ≤ j) ∧
        k' = { h with front := front.toNat, rear := rear.toNat, frontCell := cell.toNat })))

/-- What a HALTING carrier at rest comes to by its stop cause (R95, R96), where `k` is its context after the frame's own
records and nothing lies outside its rear and front: STOPPED with a STOP; with cause ALL-STOP in ACTIVE RUNNING, with its
attempt meeting the stop test `r`, an AUTH notice (R45, R61) and then the current reply (log entry 29); with cause DETACH
the route ends with result DETACHED, and of what it holds the carrier keeps the step entries alone, by the words of R96, which
is the model's choice beside R95 (log entry 14). -/
def HaltingEnds (i : Instr) (l : Fin 4) (c : Byte) (s : State) (k : Context) (cause : StopCause) : Prop :=
  let n := c.toNat
  let k' := { k with grantMark := k.front + 1, holdLifted := false }
  (cause ∈ [StopCause.overrun, .faults, .supervisor, .gate] → ∃ t, exec i s = .next t ∧
    AnsweredAt s t l n { k' with state := .stopped } (.stop cause) AlertFlag.stopped.mask ∧
    t.records.engine = s.records.engine) ∧
  (cause = .allStop → s.setting.op ≠ .active → ∃ t, exec i s = .next t ∧
    AnsweredAt s t l n { k' with state := .stopped } (.stop .allStop) 0 ∧ t.records.engine = s.records.engine) ∧
  (cause = .allStop → s.setting.op = .active → s.claimsNothing n → ∀ r, r ≠ .order →
    let back := { k' with state := .running, stopCause := none, silence := 0 }
    stopTest s.setting (heardRun s l n back) n = some r →
    let u := heardRun s l n { back with blockReason := some r }
    let told := send (send u n (authNotice s.setting u n)) n (currentReply s.setting u n)
    ∃ t, exec i s = .next t ∧ t.ctx n = { back with blockReason := some r } ∧ (∀ d, d ≠ n → t.ctx d = s.ctx d) ∧
      Records.sameTrack s.records t.records ∧ t.records.links = told.records.links ∧
      t.records.alerts = told.records.alerts ∧ t.records.engine = (fetchTrigger u n).records.engine ∧
      t.setting = s.setting) ∧
  (∀ a, cause = .detach → k.routeAddr = some a → k.wait = none →
    (∀ e ∈ k.held, e.step = some k.front → e.cell = k.frontCell) →
    let gone := k.held.filter (fun e => e.step.isNone)
    let kept := k.held.filter (fun e => e.step.isSome)
    FreedAlone s n gone → ∃ t, exec i s = .next t ∧
    ReleasedAt s t l n { restedContext k' .detached with held := kept.map (fun e => { e with step := none }) } gone
      (.wait 0 0 .noRoute) AlertFlag.routeEnd.mask ∧
    t.records.engine = { s.records.engine with
      queue := queueAfterEnd s.records.engine.queue n a .detached k.front k.used k.generation })

/-- The frames of a HALTING carrier (R94 to R96): a DONE and a stale PASS are answered STOP; an overrun, by a PASS or by an
ASK at rest, raises OVERRUN and at rest makes the carrier STOPPED, untrimmed, with cause OVERRUN; an ASK or another PASS
that reports a speed is answered STOP, and at rest ends the halt. A PASS that is accepted and leaves cells behind its rear
releases them (R88), moving and at rest. -/
def HaltingFrames (l : Fin 4) (c : Byte) (s : State) : Prop :=
  let n := c.toNat
  let k := s.ctx n
  let h := heardContext k l
  let beyond := fun (h : Context) => { h with lastSpeed := 0, state := .stopped, stopCause := some .overrun }
  let bothAlerts := AlertFlag.overrun.mask ||| AlertFlag.stopped.mask
  ∀ cause, k.state = .halting → k.stopCause = some cause →
    (∀ front speed, ∃ t, exec (.done l c front speed) s = .next t ∧
      AnsweredAt s t l n { h with lastSpeed := speed.toNat } (.stop cause) 0 ∧ t.records.engine = s.records.engine) ∧
    (∀ front rear cell speed, front.toNat < k.front → ∃ t, exec (.pass l c front rear cell speed) s = .next t ∧
      AnsweredAt s t l n h (.stop cause) 0 ∧ t.records.engine = s.records.engine) ∧
    (∀ front rear cell speed, k.front ≤ front.toNat → k.grantMark ≤ front.toNat → speed ≠ 0 →
      ∃ t, exec (.pass l c front rear cell speed) s = .next t ∧
      AnsweredAt s t l n { h with lastSpeed := speed.toNat } (.stop cause) AlertFlag.overrun.mask ∧
      t.records.engine = s.records.engine) ∧
    (∀ front rear cell, k.front ≤ front.toNat → k.grantMark ≤ front.toNat →
      ∃ t, exec (.pass l c front rear cell 0) s = .next t ∧
      AnsweredAt s t l n (beyond h) (.stop .overrun) bothAlerts ∧ t.records.engine = s.records.engine) ∧
    (∀ front requested flags, k.grantMark ≤ front.toNat → ∃ t, exec (.ask l c front 0 requested flags) s = .next t ∧
      AnsweredAt s t l n (beyond { h with requested := min requested.toNat (s.setting.map.classOf k).vmax })
        (.stop .overrun) bothAlerts ∧ t.records.engine = s.records.engine) ∧
    (∀ (front rear cell : Half) (speed : Byte),
      let k' := passedContext k l speed.toNat front.toNat rear.toNat cell.toNat
      let gone := k.held.filter (leftBehind rear.toNat)
      k.front ≤ front.toNat → front.toNat < k.grantMark → PassConsistent s n front.toNat rear.toNat cell.toNat →
      gone ≠ [] → FreedAlone s n gone →
      (speed ≠ 0 → ∃ t, exec (.pass l c front rear cell speed) s = .next t ∧
        ReleasedAt s t l n k' gone (.stop cause) 0 ∧ t.records.engine = s.records.engine) ∧
      (speed = 0 → (∀ e ∈ k'.held, e.outside k'.rear k'.front = false) →
        cause ∈ [StopCause.overrun, .faults, .supervisor, .gate] →
        ∃ t, exec (.pass l c front rear cell speed) s = .next t ∧
        ReleasedAt s t l n { k' with grantMark := k'.front + 1, holdLifted := false, state := .stopped } gone
          (.stop cause) AlertFlag.stopped.mask ∧ t.records.engine = s.records.engine)) ∧
    (∀ i speed k', HaltingReport i l c s speed k' →
      (speed ≠ 0 → ∃ t, exec i s = .next t ∧ AnsweredAt s t l n k' (.stop cause) 0 ∧
        t.records.engine = s.records.engine) ∧
      (speed = 0 → (∀ e ∈ k'.held, e.outside k'.rear k'.front = false) → HaltingEnds i l c s k' cause))

/-- A frame from a VACANT carrier is counted as DEVICE and changes nothing else (R144, check 6). A frame from an IDLE
carrier is answered WAIT with reason NO-ROUTE in ACTIVE and DEVICE otherwise, one from an ATTACHED carrier WAIT with
FETCH or DEVICE, one from a STOPPED carrier STOP with its cause (R86); each sets contact LIVE, the silence counter to 0
and the home link, and nothing else. A frame from a HALTING carrier (R94 to R96) is answered STOP; an overrun raises
OVERRUN; a report of speed 0 with nothing to release stops the carrier, ends its route with result DETACHED where the cause
is DETACH, or returns it to RUNNING where the cause is ALL-STOP and the controller is ACTIVE again, with an AUTH notice
(R45, R61) and then the reply (log entry 29); its attempt there meets a stop test other than lane order. Every accepted
PASS releases the cells behind its rear (R88, R35, R37, R108), and the end of a route with result DETACHED the resting
entries, here of cells with no waiter that are no LANE, PORTAL or corridor member. That this end releases resting entries,
by the words of R96, where R95 keeps them, is the model's choice (log entry 14). -/
def Obligations.FramesOutsideRunning : Prop :=
  (∀ (l : Fin 4) (c : Byte) (s : State), s.inService → HaltingFrames l c s) ∧
  ∀ (i : Instr) (l : Fin 4) (c : Byte) (s : State), s.inService → FrameOf i l c →
    let k := s.ctx c.toNat
    let w := heardRun s l c.toNat (heardContext k l)
    let same := fun (t : State) (p : Payload) =>
      t.ctx c.toNat = heardContext k l ∧ (∀ d, d ≠ c.toNat → t.ctx d = s.ctx d) ∧
      Records.sameTrack s.records t.records ∧ t.records.engine = s.records.engine ∧ t.setting = s.setting ∧
      t.records.links = (send w c.toNat p).records.links ∧ t.records.alerts = (send w c.toNat p).records.alerts
    (k.state = .vacant → ∃ t, exec i s = .next t ∧
      t.link l = { s.link l with receiver := Receiver.hunting, device := min 65535 ((s.link l).device + 1) } ∧
      (∀ m, m ≠ l.val → t.link m = s.link m) ∧ t.records = { s.records with links := t.records.links } ∧
      t.setting = s.setting ∧ t.supervisor = s.supervisor) ∧
    (k.state = .idle → ∃ t, exec i s = .next t ∧
      same t (.wait k.authorityEnd 0 (if s.setting.op = .active then .noRoute else .device))) ∧
    (k.state = .attached → ∃ t, exec i s = .next t ∧
      same t (.wait k.authorityEnd 0 (if s.setting.op = .active then .fetch else .device))) ∧
    (∀ cause, k.state = .stopped → k.stopCause = some cause → ∃ t, exec i s = .next t ∧ same t (.stop cause))

/-- What an event leaves that ends in the reply to an attempt of carrier `c` that met a stop test `r` at once: the
context `k` with that block reason, one current reply on its home link, the track as before, and a fetch queued where the
trigger holds. -/
def RepliedAt (s t : State) (l c : Nat) (k : Context) (r : Reason) : Prop :=
  let w := heardRun s l c { k with blockReason := some r }
  t.ctx c = { k with blockReason := some r } ∧ (∀ d, d ≠ c → t.ctx d = s.ctx d) ∧
  Records.sameTrack s.records t.records ∧
  t.records.links = (send w c (currentReply s.setting w c)).records.links ∧
  t.records.alerts = (send w c (currentReply s.setting w c)).records.alerts ∧
  t.records.engine = (fetchTrigger w c).records.engine ∧ t.setting = s.setting ∧ t.supervisor = s.supervisor

/-- An attempt of a carrier that waits for nothing, on the run `w` (R45 to R53), made by the frame `i` that asks for a reply:
one plain run is granted whole and the attempt then meets the stop test `r`. -/
def AttemptGrants (i : Instr) (s : State) (w : Run) (c : Nat) : Prop :=
  ∀ (run : List (Nat × Nat)) (r : Reason),
    let e := s.setting
    let u := (grantedRun e w c run).modCtx c (fun k => { k with blockReason := some r })
    stopTest e w c = none → nextRun e w c = some run → PlainRun e w c run →
    stopTest e (grantedRun e w c run) c = some r → r ≠ .order →
    ∃ t, exec i s = .next t ∧ AttemptLeaves s t u c (currentReply e u c) ∧ MonitorKept s t u c (currentReply e u c)

/-- An attempt of a carrier that waits for nothing, on the run `w`, made by the frame `i` that asks for a reply, whose run
fails at cell `y`, no PORTAL and, where the cause is CORRIDOR, of a corridor that is not FLOWING (R26, R29, R32, R33, R69):
the carrier stands in the cell's queue
behind every entry of its own or a more urgent priority, junior to all, with its wait record and the edge the cause gives;
with free run cells its pass-over count goes up by one, and at 3 those of capacity 1 without a reservation, here without
waiters, are reserved for it in route order. -/
def AttemptFails (i : Instr) (s : State) (w : Run) (c : Nat) : Prop :=
  ∀ (before rest : List (Nat × Nat)) (y j : Nat) (cause : BlockCause) (target : Option Nat),
    let e := s.setting
    let k := w.ctx c
    let run := before ++ (y, j) :: rest
    let free := run.filter (fun p => p.1 != y && (grantTest e w c p.1 p.2).isNone)
    let count := if free = [] then k.passOver else min 3 (k.passOver + 1)
    let kept := if free ≠ [] ∧ count = 3 then free.filter (fun p =>
      e.map.capacity p.1 == 1 && !e.map.isLane p.1 && (w.cell p.1).reservedFor == none) else []
    let priority := (e.map.classOf k).priority
    let edge := if target = some c then none else target
    let reserved := kept.foldl (fun v p => v.setCell p.1 { v.cell p.1 with reservedFor := some c })
      (w.setReservations c kept)
    let queued := reserved.setCell y { w.cell y with
      queue := (w.cell y).queue.takeWhile (fun o => decide (o.priority ≤ priority)) ++
        { carrier := c, priority := priority, step := j, cause := cause } ::
          (w.cell y).queue.dropWhile (fun o => decide (o.priority ≤ priority)) }
    let u := queued.modCtx c (fun k => { k with
      blockReason := some .cell, passOver := count
      wait := some { reason := .cell, cell := y, since := e.tick, edge := edge } })
    stopTest e w c = none → nextRun e w c = some run → (run.map Prod.fst).Nodup →
    (∀ p ∈ before, grantTest e w c p.1 p.2 = none) → grantTest e w c y j = some (cause, target) →
    (∀ k position, cause = .corridor → e.map.corridorOf y = some (k, position) → (s.corridor k).condition ≠ .flowing) →
    e.map.gateOf y = none → (∀ o ∈ (w.cell y).queue, o.carrier ∈ s.records.seniority) →
    (∀ p ∈ kept, (w.cell p.1).queue = []) →
    ∃ t, exec i s = .next t ∧ AttemptLeaves s t u c (currentReply e u c) ∧
      t.records.seniority = s.records.seniority.filter (· != c) ++ [c] ∧
      (edge = none → MonitorKept s t u c (currentReply e u c))

/-- The record `r` of gate `g` after a call request of a run that failed at its portal, which had no waiter before where
`first` holds (R123, R125, R127): a gate without an active partner, its READY inactive, becomes CALLING from SHUT; a call becomes
pending in DRAINING, and in SHUT where the partner is CALLING or DRAINING; the hold-open timer of an OPEN gate stops. -/
def GateTakesCall (s : State) (g : Nat) (r : GateRun) (first : Prop) (r' : GateRun) : Prop :=
  ((r.state = .calling ∨ r.state = .fault) ∧ r' = r) ∨
  (r.state = .draining ∧ r' = { r with callPending := true }) ∨
  (r.state = .opened ∧ first ∧ r' = { r with timer := none, due := false }) ∨ (r.state = .opened ∧ ¬first ∧ r' = r) ∨
  (r.state = .shut ∧ partnerActive s.setting s.run g = false ∧ s.setting.readyActive g = false ∧
    ∃ b, Table.find s.setting.map.gates g = some b ∧
      r' = { state := .calling, callPending := false, timer := some b.callLimit, due := false }) ∨
  (r.state = .shut ∧ r' = { r with callPending := true } ∧ ∃ p q, s.setting.map.partner g = some p ∧
    s.gate p = some q ∧ (q.state = .calling ∨ q.state = .draining))

/-- An attempt of a carrier that waits for nothing, on the run `w`, made by the frame `i` that asks for a reply, whose run
fails at the portal `y` of gate `g`, for a cause other than CORRIDOR, and leads to no reservation (R32, R33): it waits there
with the cause and the edge of the failing condition, but for CAPACITY at a gate that is DRAINING or in FAULT with GATE and
no edge (R127, R129; log entry 27); its pass-over count goes up by one where a run cell is free; and the gate takes a call
request, whatever the cause (R30, R123), and no other gate changes. -/
def AttemptFailsAtDoor (i : Instr) (s : State) (w : Run) (c : Nat) : Prop :=
  ∀ (before rest : List (Nat × Nat)) (y j g : Nat) (r r' : GateRun) (cause : BlockCause) (target : Option Nat),
    let e := s.setting
    let run := before ++ (y, j) :: rest
    let free := run.filter (fun p => p.1 != y && (grantTest e w c p.1 p.2).isNone)
    let count := if free = [] then (w.ctx c).passOver else min 3 ((w.ctx c).passOver + 1)
    let priority := (e.map.classOf (w.ctx c)).priority
    let atDoor := cause = .capacity ∧ (r.state = .draining ∨ r.state = .fault)
    let edge := if atDoor ∨ target = some c then none else target
    let queued := w.setCell y { w.cell y with
      queue := (w.cell y).queue.takeWhile (fun o => decide (o.priority ≤ priority)) ++
        { carrier := c, priority := priority, step := j, cause := if atDoor then .gate else cause } ::
          (w.cell y).queue.dropWhile (fun o => decide (o.priority ≤ priority)) }
    let u := queued.modCtx c (fun k => { k with
      blockReason := some .cell, passOver := count
      wait := some { reason := .cell, cell := y, since := e.tick, edge := edge } })
    stopTest e w c = none → nextRun e w c = some run → (run.map Prod.fst).Nodup →
    (∀ p ∈ before, grantTest e w c p.1 p.2 = none) → grantTest e w c y j = some (cause, target) → cause ≠ .corridor →
    (free = [] ∨ count < 3) → e.map.gateOf y = some g → s.gate g = some r →
    GateTakesCall s g r ((w.cell y).queue = []) r' →
    (∀ o ∈ (w.cell y).queue, o.carrier ∈ s.records.seniority) →
    ∃ t, exec i s = .next t ∧ t.gate g = some r' ∧ (∀ h, h ≠ g → t.gate h = s.gate h) ∧
      AttemptLeaves { s with records := { s.records with gates := t.records.gates } } t u c (currentReply e u c) ∧
      t.records.seniority = s.records.seniority.filter (· != c) ++ [c] ∧
      (edge = none → MonitorKept s t u c (currentReply e u c))

/-- An attempt of a carrier that waits for nothing, on the run `w`, made by the frame `i` that asks for a reply, whose run
fails for CORRIDOR at cell `y`, no PORTAL, of a FLOWING corridor `k`, and leads to no reservation (R69): a turn is requested
with the carrier as turn carrier, and it waits in the cell's queue; causes and edges are those of the recomputation of both
ends (R66). -/
def AttemptAsksTurn (i : Instr) (s : State) (w : Run) (c : Nat) : Prop :=
  ∀ (before rest : List (Nat × Nat)) (y j k position : Nat) (target : Option Nat),
    let e := s.setting
    let run := before ++ (y, j) :: rest
    let free := run.filter (fun p => p.1 != y && (grantTest e w c p.1 p.2).isNone)
    let count := if free = [] then (w.ctx c).passOver else min 3 ((w.ctx c).passOver + 1)
    let priority := (e.map.classOf (w.ctx c)).priority
    let queued := w.setCell y { w.cell y with
      queue := (w.cell y).queue.takeWhile (fun o => decide (o.priority ≤ priority)) ++
        { carrier := c, priority := priority, step := j, cause := .corridor } ::
          (w.cell y).queue.dropWhile (fun o => decide (o.priority ≤ priority)) }
    let u := queued.modCtx c (fun k => { k with
      blockReason := some .cell, passOver := count
      wait := some { reason := .cell, cell := y, since := e.tick, edge := none } })
    stopTest e w c = none → nextRun e w c = some run → (run.map Prod.fst).Nodup →
    (∀ p ∈ before, grantTest e w c p.1 p.2 = none) → grantTest e w c y j = some (.corridor, target) →
    (free = [] ∨ count < 3) → e.map.gateOf y = none → e.map.corridorOf y = some (k, position) →
    (s.corridor k).condition = .flowing → (∀ o ∈ (w.cell y).queue, o.carrier ∈ s.records.seniority) →
    ∃ t, exec i s = .next t ∧
      t.corridor k = { s.corridor k with turnRequested := true, turnCarrier := some c } ∧
      (∀ h, h ≠ k → t.corridor h = s.corridor h) ∧ (∀ d, (t.ctx d).butEdge = (u.ctx d).butEdge) ∧
      (∀ x, (t.cell x).butCauses = (u.cell x).butCauses) ∧ (∀ d, t.reservations d = s.reservations d) ∧
      t.records.seniority = s.records.seniority.filter (· != c) ++ [c] ∧ t.records.gates = s.records.gates ∧
      t.records.slots = s.records.slots ∧ t.records.links = (send u c (currentReply e u c)).records.links ∧
      t.records.engine = (fetchTrigger u c).records.engine ∧ t.setting = s.setting

/-- An attempt of a carrier that waits for nothing, on the run `w`, made by the frame `i` that asks for a reply, that meets
test 5 of R48: the carrier `c` holds lane `x` at the step before its grant mark with `d` directly ahead of it. It waits in no
queue, with a wait record ORDER at the lane since this tick and its edge to `d`, and block reason ORDER; where `d` has no
edge the monitor has nothing to do (R74, R133). -/
def AttemptWaitsInLane (i : Instr) (s : State) (w : Run) (c : Nat) : Prop :=
  ∀ (x d : Nat) (ahead behind : List Nat),
    let e := s.setting
    let u := w.modCtx c (fun k => { k with
      blockReason := some .order
      wait := some { reason := .order, cell := x, since := e.tick, edge := some d } })
    stopTest e w c = some .order → laneBefore e w c = some x → (w.cell x).holders = ahead ++ d :: c :: behind →
    c ∉ ahead → d ≠ c →
    ∃ t, exec i s = .next t ∧ AttemptLeaves s t u c (currentReply e u c) ∧
      ((w.ctx d).wait.bind WaitRec.edge = none → MonitorKept s t u c (currentReply e u c))

/-- An ASK from a RUNNING carrier in ACTIVE that waits for nothing (R90, R44, R48, R50, R60): the requested speed is stored,
clamped to the class top speed, the speed recorded, a hold lifted where RESUME comes from the front step with a HOLD. Where
the attempt meets a stop test other than lane order, the reply carries that reason; where it meets lane order, the carrier
waits for the holder ahead with reason ORDER (R74); where it grants one plain run first, the carrier holds the run (R26, R27,
R53); where its run fails at a cell, the carrier waits there (R29), with its pass-over count and its reservations (R32, R33);
where it fails for CORRIDOR at a FLOWING corridor, a turn is requested (R69); where it fails at a portal, the gate takes a
call request (R30, R123), here without reservations, without a READY that opens it at once and without a partner to drain. At the portal of a gate
that is DRAINING or in FAULT the cause is GATE also where R25's order gives CAPACITY, by R127 and R129, which is the model's
choice (log entry 27). Where the ASK comes at rest from the cut point of a cut route, the route ends with the cut result and
no attempt is made (R89); that the carrier keeps resting entries there, by R95, where R89 has its other entries released, is
the model's choice (log entry 14). -/
def Obligations.AskAttempts : Prop :=
  ∀ (l : Fin 4) (c : Byte) (front : Half) (speed requested flags : Byte) (s : State), s.inService →
    s.setting.op = .active →
    let n := c.toNat
    let k := s.ctx n
    let lifts := resumeFlag flags && front.toNat == k.front && s.run.isHold n k.front
    let k' := { heardContext k l with
      requested := min requested.toNat (s.setting.map.classOf k).vmax, lastSpeed := speed.toNat
      holdLifted := k.holdLifted || lifts }
    let i := Instr.ask l c front speed requested flags
    let atCut := k.cutPoint = some k.front ∧ front.toNat = k.front ∧ speed = 0
    k.state = .running → s.claimsNothing n →
    (atCut → CutEnds i l c s k' []) ∧
    (¬atCut →
      (∀ r, r ≠ .order → stopTest s.setting (s.run.modCtx n (fun _ => k')) n = some r →
        ∃ t, exec i s = .next t ∧ RepliedAt s t l n k' r) ∧
      AttemptGrants i s (heardRun s l n k') n ∧ AttemptFails i s (heardRun s l n k') n ∧
      AttemptFailsAtDoor i s (heardRun s l n k') n ∧ AttemptAsksTurn i s (heardRun s l n k') n ∧
      AttemptWaitsInLane i s (heardRun s l n k') n)

/-- A frame `i` that costs its RUNNING carrier `c` one unit of fault allowance (R92): the speed is recorded, the allowance
remaining falls and the allowance used rises by one. With none left the carrier, waiting for nothing, is HALTING with cause
FAULTS and answered STOP; otherwise it is answered with the current reply, after an attempt where the frame restores contact
from SILENT (R100), here one that meets a stop test other than lane order. -/
def Charged (i : Instr) (l : Fin 4) (c speed : Byte) (s : State) : Prop :=
  let n := c.toNat
  let k := s.ctx n
  let k' := { heardContext k l with
    lastSpeed := speed.toNat, allowance := k.allowance - 1, used := min 255 (k.used + 1) }
  (k.allowance ≤ 1 → s.claimsNothing n → ∃ t, exec i s = .next t ∧
    AnsweredAt s t l n { k' with state := .halting, stopCause := some .faults, passOver := 0 } (.stop .faults) 0 ∧
    t.records.engine = s.records.engine) ∧
  (1 < k.allowance → k.contact ≠ .silent → ∃ t, exec i s = .next t ∧
    AnsweredAt s t l n k' (currentReply s.setting (heardRun s l n k') n) 0 ∧ t.records.engine = s.records.engine) ∧
  (∀ r, 1 < k.allowance → k.contact = .silent → s.claimsNothing n → r ≠ .order →
    stopTest s.setting (heardRun s l n k') n = some r → ∃ t, exec i s = .next t ∧ RepliedAt s t l n k' r)

/-- An accepted PASS of a RUNNING carrier in ACTIVE that waits for nothing (R88): it moves the recorded position. The entries
behind its rear and the resting entries are released, here of cells that lead to nothing more: their holder lists are empty,
their clearance countdowns start (R35, R37), and the window slots behind the rear are free (R108). Then the route ends where
the carrier is at rest at its cut point (R89); else an attempt is made, after the release: it meets a stop test or lane
order, grants one plain run first, or fails at a cell or a door, with the reply as it ends. -/
def PassAccepted (l : Fin 4) (c : Byte) (front rear cell : Half) (speed : Byte) (s : State) : Prop :=
  let n := c.toNat
  let k := s.ctx n
  let f := front.toNat
  let b := rear.toNat
  let i := Instr.pass l c front rear cell speed
  let e := s.setting
  let gone := k.held.filter (leftBehind b)
  let k' := if gone = [] then
      { heardContext k l with lastSpeed := speed.toNat, front := f, rear := b, frontCell := cell.toNat }
    else passedContext k l speed.toNat f b cell.toNat
  let w := emptiedRun e.map (heardRun s l n k') gone
  let atCut := k.cutPoint = some f ∧ speed = 0
  k.state = .running → s.claimsNothing n → k.front ≤ f → f < k.grantMark → PassConsistent s n f b cell.toNat →
  FreedAlone s n gone →
  (atCut → CutEnds i l c s k' gone) ∧
  (¬atCut →
    (∀ r, r ≠ .order → stopTest e w n = some r →
      let u := w.modCtx n (fun k => { k with blockReason := some r })
      ∃ t, exec i s = .next t ∧ AttemptLeaves s t u n (currentReply e u n) ∧ MonitorKept s t u n (currentReply e u n) ∧
        t.supervisor = s.supervisor) ∧
    AttemptGrants i s w n ∧ AttemptFails i s w n ∧ AttemptFailsAtDoor i s w n ∧ AttemptAsksTurn i s w n ∧
    AttemptWaitsInLane i s w n)

/-- A PASS from a RUNNING carrier in ACTIVE (R87, R88, R89, R92, R100): accepted, it moves the recorded position, releases the
cells behind its rear and the cells it rested on, starts their clearance countdowns and frees their window slots (R35, R37,
R108), where those are no LANE, PORTAL or corridor member and have no waiter; then it ends a cut route at rest at its cut
point, keeping what it still holds (log entry 14), or is answered as its attempt ends (with cause GATE at the held portal of a DRAINING or FAULT gate by the model's choice,
log entry 27); stale, it
records nothing of itself and is answered with the current reply, after an attempt where it restores contact from SILENT;
inconsistent, it moves nothing and costs one unit of fault allowance; with its front step at or beyond the grant mark it is
an overrun, which halts a carrier that waits for nothing with cause OVERRUN, raises OVERRUN, records its speed and not its
position, and is answered STOP (R93). -/
def Obligations.PassIsSorted : Prop :=
  (∀ (l : Fin 4) (c : Byte) (front rear cell : Half) (speed : Byte) (s : State), s.inService →
    s.setting.op = .active →
    let n := c.toNat
    let k := s.ctx n
    let f := front.toNat
    let b := rear.toNat
    let k' := { heardContext k l with lastSpeed := speed.toNat, front := f, rear := b, frontCell := cell.toNat }
    PassAccepted l c front rear cell speed s ∧
    (∀ r, k.state = .running → ¬(k.cutPoint = some f ∧ speed = 0) → s.claimsNothing n → r ≠ .order →
      k.front ≤ f → f < k.grantMark → (s.run.step n f).map Slot.cell = some cell.toNat → b ≤ f → f ≤ b + 2 →
      k.rear ≤ b → (∀ h ∈ k.held, ∃ j, h.step = some j ∧ b ≤ j) →
      stopTest s.setting (s.run.modCtx n (fun _ => k')) n = some r →
      ∃ t, exec (.pass l c front rear cell speed) s = .next t ∧ RepliedAt s t l n k' r) ∧
    (k.state = .running → k.contact = .live → f < k.front →
      let w := heardRun s l n (heardContext k l)
      ∃ t, exec (.pass l c front rear cell speed) s = .next t ∧ t.ctx n = heardContext k l ∧
        (∀ d, d ≠ n → t.ctx d = s.ctx d) ∧ Records.sameTrack s.records t.records ∧
        t.records.links = (send w n (currentReply s.setting w n)).records.links ∧
        t.records.engine = s.records.engine ∧ t.setting = s.setting) ∧
    (∀ r, k.state = .running → k.contact = .silent → f < k.front → s.claimsNothing n → r ≠ .order →
      stopTest s.setting (heardRun s l n (heardContext k l)) n = some r →
      ∃ t, exec (.pass l c front rear cell speed) s = .next t ∧ RepliedAt s t l n (heardContext k l) r) ∧
    (k.state = .running → k.front ≤ f → f < k.grantMark → ¬PassConsistent s n f b cell.toNat →
      Charged (.pass l c front rear cell speed) l c speed s)) ∧
  (∀ (l : Fin 4) (c : Byte) (front rear cell : Half) (speed : Byte) (s : State), s.inService →
    s.setting.op = .active →
    let n := c.toNat
    let k := s.ctx n
    let k' := { heardContext k l with
      lastSpeed := speed.toNat, state := .halting, stopCause := some .overrun, passOver := 0 }
    k.state = .running → s.claimsNothing n → k.front ≤ front.toNat → k.grantMark ≤ front.toNat →
    ∃ t, exec (.pass l c front rear cell speed) s = .next t ∧ t.ctx n = k' ∧
      (∀ d, d ≠ n → t.ctx d = s.ctx d) ∧ Records.sameTrack s.records t.records ∧
      t.records.links = (send (heardRun s l n k') n (.stop .overrun)).records.links ∧
      t.records.flag .overrun = true ∧ t.records.engine = s.records.engine ∧ t.setting = s.setting)

/-- A DONE from a RUNNING carrier in ACTIVE (R91, R85, R92). That completes the route: from a carrier that waits for
nothing, at rest on the last step and holding its one entry: the carrier is IDLE on it with result COMPLETE, a write-back
with the last step is queued, ROUTE-END is raised, and the reply is WAIT with reason NO-ROUTE, authority end 0 and speed 0.
Any other costs one unit of fault allowance. -/
def Obligations.DoneCompletes : Prop :=
  ∀ (l : Fin 4) (c : Byte) (front : Half) (x d : Nat) (a : Address) (s : State), s.inService →
    s.setting.op = .active →
    let n := c.toNat
    let k := s.ctx n
    let f := front.toNat
    let k' := { restedContext (heardContext k l) .complete with
      lastSpeed := 0, passOver := 0, frontCell := x, held := [{ cell := x, step := none, distance := d }] }
    (k.state = .running → s.claimsNothing n → k.stepCount = some (f + 1) → k.front = f → k.rear = f →
    k.held = [{ cell := x, step := some f, distance := d }] → k.routeAddr = some a →
    ∃ t, exec (.done l c front 0) s = .next t ∧ t.ctx n = k' ∧ (∀ e, e ≠ n → t.ctx e = s.ctx e) ∧
      Records.sameTrack s.records t.records ∧
      t.records.engine = { s.records.engine with
        queue := queueAfterEnd s.records.engine.queue n a .complete f k.used k.generation } ∧
      t.records.links = (send (heardRun s l n k') n (.wait 0 0 .noRoute)).records.links ∧
      t.records.flag .routeEnd = true ∧ t.setting = s.setting) ∧
    (∀ speed : Byte, k.state = .running → ¬(k.stepCount = some (f + 1) ∧ k.front = f ∧ k.rear = f ∧ speed = 0) →
      Charged (.done l c front speed) l c speed s)

/-- A receiver at a character, by the table of R143 and the checks of R144: in HUNT it takes the start byte and discards
the rest; in any other state a framing error fails the frame with FORMAT; the length lies in 3..9 and the two halves of
the kind byte are complements, else FORMAT; the body is collected to its length and then two CRC bytes; the second decides
CHECK, UNKNOWN, FORMAT or the good frame's carrier. -/
def ReceiverMoves (r : Receiver) (ch : Byte) : Prop :=
  let failed := fun (f : FrameFailure) => (Receiver.hunting, Reception.failed f)
  let good := fun (x : Receiver) => (x, Reception.collecting)
  (r.state = .hunt → ch = 0xA5 →
    r.take ch false = good { state := .length, length := 0, body := [], crc := [] }) ∧
  (r.state = .hunt → ch ≠ 0xA5 → r.take ch false = good r) ∧ (r.state = .hunt → r.take ch true = good r) ∧
  (r.state ≠ .hunt → r.take ch true = failed .format) ∧
  (r.state = .length → (3 ≤ ch.toNat ∧ ch.toNat ≤ 9) →
    r.take ch false = good { r with state := .kind, length := ch.toNat }) ∧
  (r.state = .length → ¬(3 ≤ ch.toNat ∧ ch.toNat ≤ 9) → r.take ch false = failed .format) ∧
  (r.state = .kind → ch.toNat / 16 + ch.toNat % 16 = 15 → r.take ch false = good { r with state := .body, body := [ch] }) ∧
  (r.state = .kind → ch.toNat / 16 + ch.toNat % 16 ≠ 15 → r.take ch false = failed .format) ∧
  (r.state = .body → r.take ch false =
    good { r with body := r.body ++ [ch], state := if r.body.length + 1 < r.length then .body else .crc }) ∧
  (r.state = .crc → r.crc = [] → r.take ch false = good { r with crc := [ch] }) ∧
  (∀ first kind rest, r.state = .crc → r.crc = [first] → r.body = kind :: rest →
    let code := kind.toNat % 16
    let due := crc16 r.body
    let matched := 256 * first.toNat + ch.toNat = due.toNat
    let length := r.body.length
    (¬matched → r.take ch false = failed .check) ∧
    (matched → ¬(1 ≤ code ∧ code ≤ 3) → r.take ch false = failed .unknown) ∧
    (matched → (1 ≤ code ∧ code ≤ 3) → length ≠ [0, 7, 9, 5].getD code 0 → r.take ch false = failed .format) ∧
    (matched → (1 ≤ code ∧ code ≤ 3) → length = [0, 7, 9, 5].getD code 0 → ∃ c more q, rest = c :: more ∧
      r.take ch false = (Receiver.hunting, .framed c.toNat q)))

/-- A failed frame is counted once under its failure and the receiver hunts (R145); a character that completes no good
frame moves the receiver of its link by the table of R143 and the checks of R144, and counts the failure it finds, and
nothing else (R143, R145). -/
def Obligations.FailedFramesAreCounted : Prop :=
  (∀ (r : Receiver) (ch : Byte), ReceiverMoves r ch) ∧
  ∀ (l : Fin 4) (s : State), s.inService →
    (∀ failure, ∃ t, exec (.frameFailure l failure) s = .next t ∧
      t.link l = { s.link l with
        receiver := Receiver.hunting
        check := if failure = .check then min 65535 ((s.link l).check + 1) else (s.link l).check
        format := if failure = .format then min 65535 ((s.link l).format + 1) else (s.link l).format
        unknown := if failure = .unknown then min 65535 ((s.link l).unknown + 1) else (s.link l).unknown
        device := if failure = .device then min 65535 ((s.link l).device + 1) else (s.link l).device } ∧
      (∀ m, m ≠ l.val → t.link m = s.link m) ∧ t.records = { s.records with links := t.records.links } ∧
      t.setting = s.setting) ∧
    (∀ ch framing, ((s.link l).receiver.take ch framing).2 = .collecting →
      ∃ t, exec (.characterReceived l ch framing) s = .next t ∧
        t.link l = { s.link l with receiver := ((s.link l).receiver.take ch framing).1 } ∧
        (∀ m, m ≠ l.val → t.link m = s.link m) ∧ t.records = { s.records with links := t.records.links } ∧
        t.setting = s.setting) ∧
    (∀ ch framing failure, ((s.link l).receiver.take ch framing).2 = .failed failure →
      exec (.characterReceived l ch framing) s = exec (.frameFailure l failure) s)

/-- The last character of a good frame does what the frame's own row does (R143, R147), which is the model's choice (log
entry 5): a receiver that has the body of an ASK, a PASS or a DONE and the first byte of its CRC takes the second, and
the frame is handed over in that event. -/
def Obligations.LastCharacterHandsOver : Prop :=
  ∀ (l : Fin 4) (c : Byte) (s : State), s.inService →
    let complete := fun (body : List Byte) (i : Instr) =>
      (s.link l).receiver.state = .crc → (s.link l).receiver.body = body →
        (s.link l).receiver.crc = [highByte (crc16 body)] →
        exec (.characterReceived l (lowByte (crc16 body)) false) s = exec i s
    (∀ front speed requested flags,
      complete ([kindByte 1, c] ++ halfBytes front ++ [speed, requested, flags])
        (.ask l c front speed requested flags)) ∧
    (∀ front rear cell speed,
      complete ([kindByte 2, c] ++ halfBytes front ++ halfBytes rear ++ halfBytes cell ++ [speed])
        (.pass l c front rear cell speed)) ∧
    (∀ front speed, complete ([kindByte 3, c] ++ halfBytes front ++ [speed]) (.done l c front speed))

/-- A link's transmitter (R150): an IDLE transmitter takes the head of its queue and sends it; when the last character
has left, the next head is started in the same event; nothing else changes. -/
def Obligations.TransmittersServe : Prop :=
  ∀ (l : Fin 4) (s : State), s.inService →
    (∀ m rest, (s.link l).transmitter = .idle → (s.link l).queue = m :: rest →
      ∃ t, exec (.transmissionStart l) s = .next t ∧
        t.link l = { s.link l with queue := rest, transmitter := .sending m } ∧
        (∀ j, j ≠ l.val → t.link j = s.link j) ∧ t.records = { s.records with links := t.records.links } ∧
        t.setting = s.setting) ∧
    ((s.link l).transmitter ≠ .idle → ∃ t, exec (.transmissionComplete l) s = .next t ∧
      t.link l = (match (s.link l).queue with
        | m :: rest => { s.link l with queue := rest, transmitter := .sending m }
        | [] => { s.link l with transmitter := .idle }) ∧
      (∀ j, j ≠ l.val → t.link j = s.link j) ∧ t.records = { s.records with links := t.records.links } ∧
      t.setting = s.setting)

/-! ## Rules of the whole part -/

/-- The placement of a message (R149): it replaces the carrier's queued message in place; else it joins the tail of a
queue of fewer than 32; else it is dropped and the DROP counter increases, stopping at 65535. -/
def Obligations.MessagesArePlaced : Prop :=
  ∀ (k : Link) (m : Message),
    (m.carrier ∈ k.queue.map Message.carrier → (k.queue.map Message.carrier).Nodup →
      (k.place m).2 = false ∧ m ∈ (k.place m).1.queue ∧
      (k.place m).1.queue.map Message.carrier = k.queue.map Message.carrier ∧
      (∀ o ∈ k.queue, o.carrier ≠ m.carrier → o ∈ (k.place m).1.queue)) ∧
    (m.carrier ∉ k.queue.map Message.carrier → k.queue.length < 32 →
      k.place m = ({ k with queue := k.queue ++ [m] }, false)) ∧
    (m.carrier ∉ k.queue.map Message.carrier → 32 ≤ k.queue.length →
      k.place m = ({ k with drop := min 65535 (k.drop + 1) }, true))

/-- Third law (R57, R58): the permitted speed of any carrier is at most its class top speed and at most each speed limit
and step cap of what it holds; its square is at most twice the deceleration times the granted distance less the margin;
and it is 0 when the granted distance does not exceed the margin. The integer square root is the root rounded down for
every number below 2^64 (Conventions 4.3), and the braking-feasible speed S is the greatest speed within the bound. -/
def Obligations.PermittedSpeedIsSafe : Prop :=
  (∀ (e : Setting) (v : Run) (c : Nat),
    let p := permittedSpeed e v c
    let k := v.ctx c
    let cls := e.map.classOf k
    p ≤ cls.vmax ∧
    (∀ h ∈ k.held, ∀ m, Table.find e.map.cells h.cell = some m → p ≤ m.limit) ∧
    (∀ h ∈ k.held, ∀ j q, h.step = some j → v.step c j = some q → q.cap ≠ 0 → p ≤ q.cap) ∧
    (10 * p) * (10 * p) ≤ 2 * cls.decel * (k.granted - cls.margin) ∧ (k.granted ≤ cls.margin → p = 0)) ∧
  (∀ n, n < 2 ^ 64 → isqrt n * isqrt n ≤ n ∧ n < (isqrt n + 1) * (isqrt n + 1)) ∧
  (∀ (cls : ClassRec) (g u : Nat), cls.decel ≤ 4000 → g ≤ 65535 →
    (u ≤ brakingSpeed cls g ↔ u * u ≤ 2 * cls.decel * (g - cls.margin)))

/-- A carrier leaves VACANT only by its own ENROL, becomes VACANT only by its own RETIRE, by RESTART or by hard reset,
and changes its generation only by its own ATTACH, which increases it by one, or by hard reset (R82, R83, R99, R103). -/
def Obligations.EnrolmentAndGeneration : Prop :=
  ∀ (i : Instr) (s t : State) (c : Nat), s.canonical = true → exec i s = .next t →
    ((s.ctx c).state = .vacant → (t.ctx c).state ≠ .vacant →
      ∃ n cls x b z, i = .enrol n cls x b z ∧ n.toNat = c) ∧
    ((s.ctx c).state ≠ .vacant → (t.ctx c).state = .vacant →
      (∃ n, i = .retire n ∧ n.toNat = c) ∨ i = .restart ∨ i = .hardReset ∨ ∃ r, i = .resetNRelease r) ∧
    ((t.ctx c).generation ≠ (s.ctx c).generation →
      (∃ n a, i = .attach n a ∧ n.toNat = c ∧ (t.ctx c).generation = (s.ctx c).generation + 1) ∨
      i = .hardReset ∨ ∃ r, i = .resetNRelease r)

/-- A ring (R137, R138): when a walk that starts at carrier `c` with its edge set to `t` closes a ring, the members it
finds start with `c`, have no repetition, and each waits on the next and the last on `c`; and a ring of at most 256
carriers through `c` is found, in edge order from `c`. Seventh law (R138): after any step from a part in canonical form
every deadlock record in use still has a ring of wait edges that stands, and each mark is of the one record whose ring
the carrier is in. -/
def Obligations.WalkFindsRing : Prop :=
  (∀ (edge : Nat → Option Nat) (c t : Nat) (members : List Nat), edge c = some t → t ≠ c →
    chainWalk edge c Config.walkHops [c] t = some members →
    members.head? = some c ∧ members.Nodup ∧ 2 ≤ members.length ∧ members.length ≤ 256 ∧
    ∀ i, i < members.length →
      (members[i]?).bind edge = if i + 1 = members.length then some c else members[i + 1]?) ∧
  (∀ (edge : Nat → Option Nat) (c t : Nat) (ring : List Nat), isRing edge ring → ring.length ≤ 256 →
    ring.head? = some c → edge c = some t → chainWalk edge c Config.walkHops [c] t = some ring) ∧
  (∀ s t : State, s.canonical = true → s.seventhLaw → step s = .next t → t.seventhLaw)
end

