-- ==== Sys2Proof/Laws/Table.lean ====
section
/-! SUPPORT. Laws/Table.lean: reading after writing in a table, and that every table operation keeps the canonical
form. -/

namespace Sys2Proof.Laws

open Sys2Proof.Machine

variable {α : Type}

/-! ## Reading after writing -/

@[simp] theorem Table.find_nil (n : Nat) : Table.find ([] : Table α) n = none := rfl

@[simp] theorem Table.at_nil (d : α) (n : Nat) : Table.at ([] : Table α) d n = d := rfl

@[simp] theorem Table.find_set_self (t : Table α) (n : Nat) (a : α) : Table.find (Table.set t n a) n = some a := by
  induction t with
  | nil => simp [Table.set, Table.find]
  | cons p rest ih =>
    obtain ⟨k, b⟩ := p
    simp only [Table.set]
    split
    · simp [Table.find]
    · split
      · simp [Table.find]
      · rename_i h
        simp [Table.find, h, ih]

@[simp] theorem Table.find_set_other (t : Table α) {m n : Nat} (a : α) (h : m ≠ n) :
    Table.find (Table.set t n a) m = Table.find t m := by
  induction t with
  | nil => simp [Table.set, Table.find, Ne.symm h]
  | cons p rest ih =>
    obtain ⟨k, b⟩ := p
    simp only [Table.set]
    split
    · simp [Table.find, Ne.symm h]
    · split
      · rename_i hk
        simp [Table.find, hk, Ne.symm h]
      · simp only [Table.find, ih]

theorem Table.find_erase_self (t : Table α) (n : Nat) : Table.find (Table.erase t n) n = none := by
  induction t with
  | nil => rfl
  | cons p rest ih =>
    obtain ⟨k, b⟩ := p
    simp only [Table.erase, List.filter_cons] at ih ⊢
    by_cases hk : k = n
    · simpa [hk] using ih
    · simpa [hk, Table.find] using ih

theorem Table.find_erase_other (t : Table α) {m n : Nat} (h : m ≠ n) :
    Table.find (Table.erase t n) m = Table.find t m := by
  induction t with
  | nil => rfl
  | cons p rest ih =>
    obtain ⟨k, b⟩ := p
    simp only [Table.erase, List.filter_cons] at ih ⊢
    by_cases hk : k = n
    · subst hk
      simpa [Table.find, Ne.symm h] using ih
    · by_cases hm : k = m
      · simp [Table.find, hm, h]
      · simpa [hk, Table.find, hm] using ih

@[simp] theorem Table.at_set_self (t : Table α) (d : α) (n : Nat) (a : α) : Table.at (Table.set t n a) d n = a := by
  simp [Table.at]

@[simp] theorem Table.at_set_other (t : Table α) (d : α) {m n : Nat} (a : α) (h : m ≠ n) :
    Table.at (Table.set t n a) d m = Table.at t d m := by
  simp [Table.at, h]

@[simp] theorem Table.at_put_self [DecidableEq α] (t : Table α) (d : α) (n : Nat) (a : α) :
    Table.at (Table.put t d n a) d n = a := by
  unfold Table.put
  split
  · rename_i h
    simp [Table.at, Table.find_erase_self, h]
  · simp

@[simp] theorem Table.at_put_other [DecidableEq α] (t : Table α) (d : α) {m n : Nat} (a : α) (h : m ≠ n) :
    Table.at (Table.put t d n a) d m = Table.at t d m := by
  unfold Table.put
  split
  · simp [Table.at, Table.find_erase_other t h]
  · simp [h]

@[simp] theorem Table.find_update_self (t : Table α) (n : Nat) (f : α → α) :
    Table.find (Table.update t n f) n = (Table.find t n).map f := by
  unfold Table.update
  cases h : Table.find t n <;> simp [h]

@[simp] theorem Table.find_update_other (t : Table α) {m n : Nat} (f : α → α) (h : m ≠ n) :
    Table.find (Table.update t n f) m = Table.find t m := by
  unfold Table.update
  cases Table.find t n <;> simp [h]

theorem Table.find_map {β : Type} (t : Table α) (g : α → β) (n : Nat) :
    Table.find (t.map (fun p => (p.1, g p.2))) n = (Table.find t n).map g := by
  induction t with
  | nil => rfl
  | cons p rest ih =>
    obtain ⟨k, b⟩ := p
    simp only [List.map, Table.find]
    split
    · simp
    · exact ih

/-! ## The canonical form -/

/-- The canonical form as an order on the numbers. -/
theorem Table.wf_iff (t : Table α) : Table.wf t = true ↔ (t.map Prod.fst).Pairwise (· < ·) := by
  induction t with
  | nil => simp [Table.wf]
  | cons p rest ih =>
    obtain ⟨k, b⟩ := p
    cases rest with
    | nil => simp [Table.wf]
    | cons q rest =>
      obtain ⟨l, c⟩ := q
      simp only [Table.wf, Bool.and_eq_true, decide_eq_true_eq, ih]
      simp only [List.map_cons, List.pairwise_cons, List.mem_cons, forall_eq_or_imp]
      constructor
      · rintro ⟨h, h2, h3⟩
        exact ⟨⟨h, fun a ha => Nat.lt_trans h (h2 a ha)⟩, h2, h3⟩
      · rintro ⟨⟨h, _⟩, h2, h3⟩
        exact ⟨h, h2, h3⟩

/-- The numbers of a table after a record is set. -/
theorem Table.mem_keys_set (t : Table α) (n : Nat) (a : α) (m : Nat) :
    m ∈ (Table.set t n a).map Prod.fst → m = n ∨ m ∈ t.map Prod.fst := by
  induction t with
  | nil => simp [Table.set]
  | cons p rest ih =>
    obtain ⟨k, b⟩ := p
    simp only [Table.set]
    split
    · simp only [List.map_cons, List.mem_cons]
      tauto
    · split
      · simp only [List.map_cons, List.mem_cons]
        tauto
      · simp only [List.map_cons, List.mem_cons]
        tauto

theorem Table.wf_set (t : Table α) (n : Nat) (a : α) (h : Table.wf t = true) : Table.wf (Table.set t n a) = true := by
  rw [Table.wf_iff] at h ⊢
  induction t with
  | nil => simp [Table.set]
  | cons p rest ih =>
    obtain ⟨k, b⟩ := p
    simp only [List.map_cons, List.pairwise_cons] at h
    simp only [Table.set]
    split
    · rename_i hn
      simp only [List.map_cons, List.pairwise_cons, List.mem_cons, forall_eq_or_imp]
      exact ⟨⟨hn, fun x hx => Nat.lt_trans hn (h.1 x hx)⟩, h.1, h.2⟩
    · split
      · rename_i hk
        subst hk
        simpa using h
      · rename_i h1 h2
        simp only [List.map_cons, List.pairwise_cons]
        refine ⟨fun x hx => ?_, ih h.2⟩
        rcases Table.mem_keys_set rest n a x hx with rfl | hx
        · omega
        · exact h.1 x hx

theorem Table.wf_filter (t : Table α) (p : Nat × α → Bool) (h : Table.wf t = true) : Table.wf (t.filter p) = true := by
  rw [Table.wf_iff] at h ⊢
  exact h.sublist (List.filter_sublist.map Prod.fst)

theorem Table.wf_erase (t : Table α) (n : Nat) (h : Table.wf t = true) : Table.wf (Table.erase t n) = true :=
  Table.wf_filter t _ h

theorem Table.wf_put [DecidableEq α] (t : Table α) (d : α) (n : Nat) (a : α) (h : Table.wf t = true) :
    Table.wf (Table.put t d n a) = true := by
  unfold Table.put
  split
  · exact Table.wf_erase t n h
  · exact Table.wf_set t n a h

theorem Table.wf_update (t : Table α) (n : Nat) (f : α → α) (h : Table.wf t = true) :
    Table.wf (Table.update t n f) = true := by
  unfold Table.update
  split
  · exact Table.wf_set t n _ h
  · exact h

theorem Table.wf_map {β : Type} (t : Table α) (g : Nat → α → β) (h : Table.wf t = true) :
    Table.wf (t.map (fun p => (p.1, g p.1 p.2))) = true := by
  rw [Table.wf_iff] at h ⊢
  simpa [List.map_map, Function.comp_def] using h

end Sys2Proof.Laws
end

