-- ==== Sys2Proof/Laws/State.lean ====
section
/-! SUPPORT. Laws/State.lean: one lemma per field per update of a run and of the part, and reading each record after
writing it, so that no later proof unfolds a record update. -/

namespace Sys2Proof.Laws

open Sys2Proof.Machine

variable (v : Run) (s : State)

/-! ## The fields of a run after each update -/

@[simp] theorem Run.setCell_cells (x : Nat) (r : CellRun) : (v.setCell x r).records.cells = Table.set v.records.cells x r := rfl
@[simp] theorem Run.setCell_reservations (x : Nat) (r : CellRun) : (v.setCell x r).records.reservations = v.records.reservations := rfl
@[simp] theorem Run.setCell_seniority (x : Nat) (r : CellRun) : (v.setCell x r).records.seniority = v.records.seniority := rfl
@[simp] theorem Run.setCell_corridors (x : Nat) (r : CellRun) : (v.setCell x r).records.corridors = v.records.corridors := rfl
@[simp] theorem Run.setCell_gates (x : Nat) (r : CellRun) : (v.setCell x r).records.gates = v.records.gates := rfl
@[simp] theorem Run.setCell_carriers (x : Nat) (r : CellRun) : (v.setCell x r).records.carriers = v.records.carriers := rfl
@[simp] theorem Run.setCell_slots (x : Nat) (r : CellRun) : (v.setCell x r).records.slots = v.records.slots := rfl
@[simp] theorem Run.setCell_engine (x : Nat) (r : CellRun) : (v.setCell x r).records.engine = v.records.engine := rfl
@[simp] theorem Run.setCell_links (x : Nat) (r : CellRun) : (v.setCell x r).records.links = v.records.links := rfl
@[simp] theorem Run.setCell_deadlocks (x : Nat) (r : CellRun) : (v.setCell x r).records.deadlocks = v.records.deadlocks := rfl
@[simp] theorem Run.setCell_marks (x : Nat) (r : CellRun) : (v.setCell x r).records.marks = v.records.marks := rfl
@[simp] theorem Run.setCell_alerts (x : Nat) (r : CellRun) : (v.setCell x r).records.alerts = v.records.alerts := rfl
@[simp] theorem Run.setCell_work (x : Nat) (r : CellRun) : (v.setCell x r).work = v.work := rfl
@[simp] theorem Run.setCell_deferring (x : Nat) (r : CellRun) : (v.setCell x r).deferring = v.deferring := rfl
@[simp] theorem Run.setCell_deferred (x : Nat) (r : CellRun) : (v.setCell x r).deferred = v.deferred := rfl
@[simp] theorem Run.setCell_opening (x : Nat) (r : CellRun) : (v.setCell x r).opening = v.opening := rfl

@[simp] theorem Run.modCtx_cells (c : Nat) (f : Context → Context) : (v.modCtx c f).records.cells = v.records.cells := rfl
@[simp] theorem Run.modCtx_reservations (c : Nat) (f : Context → Context) : (v.modCtx c f).records.reservations = v.records.reservations := rfl
@[simp] theorem Run.modCtx_seniority (c : Nat) (f : Context → Context) : (v.modCtx c f).records.seniority = v.records.seniority := rfl
@[simp] theorem Run.modCtx_corridors (c : Nat) (f : Context → Context) : (v.modCtx c f).records.corridors = v.records.corridors := rfl
@[simp] theorem Run.modCtx_gates (c : Nat) (f : Context → Context) : (v.modCtx c f).records.gates = v.records.gates := rfl
@[simp] theorem Run.modCtx_carriers (c : Nat) (f : Context → Context) : (v.modCtx c f).records.carriers = Table.put v.records.carriers Context.vacant c (f (v.ctx c)) := rfl
@[simp] theorem Run.modCtx_slots (c : Nat) (f : Context → Context) : (v.modCtx c f).records.slots = v.records.slots := rfl
@[simp] theorem Run.modCtx_engine (c : Nat) (f : Context → Context) : (v.modCtx c f).records.engine = v.records.engine := rfl
@[simp] theorem Run.modCtx_links (c : Nat) (f : Context → Context) : (v.modCtx c f).records.links = v.records.links := rfl
@[simp] theorem Run.modCtx_deadlocks (c : Nat) (f : Context → Context) : (v.modCtx c f).records.deadlocks = v.records.deadlocks := rfl
@[simp] theorem Run.modCtx_marks (c : Nat) (f : Context → Context) : (v.modCtx c f).records.marks = v.records.marks := rfl
@[simp] theorem Run.modCtx_alerts (c : Nat) (f : Context → Context) : (v.modCtx c f).records.alerts = v.records.alerts := rfl
@[simp] theorem Run.modCtx_work (c : Nat) (f : Context → Context) : (v.modCtx c f).work = v.work := rfl
@[simp] theorem Run.modCtx_deferring (c : Nat) (f : Context → Context) : (v.modCtx c f).deferring = v.deferring := rfl
@[simp] theorem Run.modCtx_deferred (c : Nat) (f : Context → Context) : (v.modCtx c f).deferred = v.deferred := rfl
@[simp] theorem Run.modCtx_opening (c : Nat) (f : Context → Context) : (v.modCtx c f).opening = v.opening := rfl

@[simp] theorem Run.setReservations_cells (c : Nat) (l : List (Nat × Nat)) : (v.setReservations c l).records.cells = v.records.cells := rfl
@[simp] theorem Run.setReservations_reservations (c : Nat) (l : List (Nat × Nat)) : (v.setReservations c l).records.reservations = Table.put v.records.reservations [] c l := rfl
@[simp] theorem Run.setReservations_seniority (c : Nat) (l : List (Nat × Nat)) : (v.setReservations c l).records.seniority = v.records.seniority := rfl
@[simp] theorem Run.setReservations_corridors (c : Nat) (l : List (Nat × Nat)) : (v.setReservations c l).records.corridors = v.records.corridors := rfl
@[simp] theorem Run.setReservations_gates (c : Nat) (l : List (Nat × Nat)) : (v.setReservations c l).records.gates = v.records.gates := rfl
@[simp] theorem Run.setReservations_carriers (c : Nat) (l : List (Nat × Nat)) : (v.setReservations c l).records.carriers = v.records.carriers := rfl
@[simp] theorem Run.setReservations_slots (c : Nat) (l : List (Nat × Nat)) : (v.setReservations c l).records.slots = v.records.slots := rfl
@[simp] theorem Run.setReservations_engine (c : Nat) (l : List (Nat × Nat)) : (v.setReservations c l).records.engine = v.records.engine := rfl
@[simp] theorem Run.setReservations_links (c : Nat) (l : List (Nat × Nat)) : (v.setReservations c l).records.links = v.records.links := rfl
@[simp] theorem Run.setReservations_deadlocks (c : Nat) (l : List (Nat × Nat)) : (v.setReservations c l).records.deadlocks = v.records.deadlocks := rfl
@[simp] theorem Run.setReservations_marks (c : Nat) (l : List (Nat × Nat)) : (v.setReservations c l).records.marks = v.records.marks := rfl
@[simp] theorem Run.setReservations_alerts (c : Nat) (l : List (Nat × Nat)) : (v.setReservations c l).records.alerts = v.records.alerts := rfl
@[simp] theorem Run.setReservations_work (c : Nat) (l : List (Nat × Nat)) : (v.setReservations c l).work = v.work := rfl
@[simp] theorem Run.setReservations_deferring (c : Nat) (l : List (Nat × Nat)) : (v.setReservations c l).deferring = v.deferring := rfl
@[simp] theorem Run.setReservations_deferred (c : Nat) (l : List (Nat × Nat)) : (v.setReservations c l).deferred = v.deferred := rfl
@[simp] theorem Run.setReservations_opening (c : Nat) (l : List (Nat × Nat)) : (v.setReservations c l).opening = v.opening := rfl

@[simp] theorem Run.setSeniority_cells (l : List Nat) : (v.setSeniority l).records.cells = v.records.cells := rfl
@[simp] theorem Run.setSeniority_reservations (l : List Nat) : (v.setSeniority l).records.reservations = v.records.reservations := rfl
@[simp] theorem Run.setSeniority_seniority (l : List Nat) : (v.setSeniority l).records.seniority = l := rfl
@[simp] theorem Run.setSeniority_corridors (l : List Nat) : (v.setSeniority l).records.corridors = v.records.corridors := rfl
@[simp] theorem Run.setSeniority_gates (l : List Nat) : (v.setSeniority l).records.gates = v.records.gates := rfl
@[simp] theorem Run.setSeniority_carriers (l : List Nat) : (v.setSeniority l).records.carriers = v.records.carriers := rfl
@[simp] theorem Run.setSeniority_slots (l : List Nat) : (v.setSeniority l).records.slots = v.records.slots := rfl
@[simp] theorem Run.setSeniority_engine (l : List Nat) : (v.setSeniority l).records.engine = v.records.engine := rfl
@[simp] theorem Run.setSeniority_links (l : List Nat) : (v.setSeniority l).records.links = v.records.links := rfl
@[simp] theorem Run.setSeniority_deadlocks (l : List Nat) : (v.setSeniority l).records.deadlocks = v.records.deadlocks := rfl
@[simp] theorem Run.setSeniority_marks (l : List Nat) : (v.setSeniority l).records.marks = v.records.marks := rfl
@[simp] theorem Run.setSeniority_alerts (l : List Nat) : (v.setSeniority l).records.alerts = v.records.alerts := rfl
@[simp] theorem Run.setSeniority_work (l : List Nat) : (v.setSeniority l).work = v.work := rfl
@[simp] theorem Run.setSeniority_deferring (l : List Nat) : (v.setSeniority l).deferring = v.deferring := rfl
@[simp] theorem Run.setSeniority_deferred (l : List Nat) : (v.setSeniority l).deferred = v.deferred := rfl
@[simp] theorem Run.setSeniority_opening (l : List Nat) : (v.setSeniority l).opening = v.opening := rfl

@[simp] theorem Run.setCorridor_cells (k : Nat) (r : CorridorRun) : (v.setCorridor k r).records.cells = v.records.cells := rfl
@[simp] theorem Run.setCorridor_reservations (k : Nat) (r : CorridorRun) : (v.setCorridor k r).records.reservations = v.records.reservations := rfl
@[simp] theorem Run.setCorridor_seniority (k : Nat) (r : CorridorRun) : (v.setCorridor k r).records.seniority = v.records.seniority := rfl
@[simp] theorem Run.setCorridor_corridors (k : Nat) (r : CorridorRun) : (v.setCorridor k r).records.corridors = Table.set v.records.corridors k r := rfl
@[simp] theorem Run.setCorridor_gates (k : Nat) (r : CorridorRun) : (v.setCorridor k r).records.gates = v.records.gates := rfl
@[simp] theorem Run.setCorridor_carriers (k : Nat) (r : CorridorRun) : (v.setCorridor k r).records.carriers = v.records.carriers := rfl
@[simp] theorem Run.setCorridor_slots (k : Nat) (r : CorridorRun) : (v.setCorridor k r).records.slots = v.records.slots := rfl
@[simp] theorem Run.setCorridor_engine (k : Nat) (r : CorridorRun) : (v.setCorridor k r).records.engine = v.records.engine := rfl
@[simp] theorem Run.setCorridor_links (k : Nat) (r : CorridorRun) : (v.setCorridor k r).records.links = v.records.links := rfl
@[simp] theorem Run.setCorridor_deadlocks (k : Nat) (r : CorridorRun) : (v.setCorridor k r).records.deadlocks = v.records.deadlocks := rfl
@[simp] theorem Run.setCorridor_marks (k : Nat) (r : CorridorRun) : (v.setCorridor k r).records.marks = v.records.marks := rfl
@[simp] theorem Run.setCorridor_alerts (k : Nat) (r : CorridorRun) : (v.setCorridor k r).records.alerts = v.records.alerts := rfl
@[simp] theorem Run.setCorridor_work (k : Nat) (r : CorridorRun) : (v.setCorridor k r).work = v.work := rfl
@[simp] theorem Run.setCorridor_deferring (k : Nat) (r : CorridorRun) : (v.setCorridor k r).deferring = v.deferring := rfl
@[simp] theorem Run.setCorridor_deferred (k : Nat) (r : CorridorRun) : (v.setCorridor k r).deferred = v.deferred := rfl
@[simp] theorem Run.setCorridor_opening (k : Nat) (r : CorridorRun) : (v.setCorridor k r).opening = v.opening := rfl

@[simp] theorem Run.modGate_cells (g : Nat) (f : GateRun → GateRun) : (v.modGate g f).records.cells = v.records.cells := rfl
@[simp] theorem Run.modGate_reservations (g : Nat) (f : GateRun → GateRun) : (v.modGate g f).records.reservations = v.records.reservations := rfl
@[simp] theorem Run.modGate_seniority (g : Nat) (f : GateRun → GateRun) : (v.modGate g f).records.seniority = v.records.seniority := rfl
@[simp] theorem Run.modGate_corridors (g : Nat) (f : GateRun → GateRun) : (v.modGate g f).records.corridors = v.records.corridors := rfl
@[simp] theorem Run.modGate_gates (g : Nat) (f : GateRun → GateRun) : (v.modGate g f).records.gates = Table.update v.records.gates g f := rfl
@[simp] theorem Run.modGate_carriers (g : Nat) (f : GateRun → GateRun) : (v.modGate g f).records.carriers = v.records.carriers := rfl
@[simp] theorem Run.modGate_slots (g : Nat) (f : GateRun → GateRun) : (v.modGate g f).records.slots = v.records.slots := rfl
@[simp] theorem Run.modGate_engine (g : Nat) (f : GateRun → GateRun) : (v.modGate g f).records.engine = v.records.engine := rfl
@[simp] theorem Run.modGate_links (g : Nat) (f : GateRun → GateRun) : (v.modGate g f).records.links = v.records.links := rfl
@[simp] theorem Run.modGate_deadlocks (g : Nat) (f : GateRun → GateRun) : (v.modGate g f).records.deadlocks = v.records.deadlocks := rfl
@[simp] theorem Run.modGate_marks (g : Nat) (f : GateRun → GateRun) : (v.modGate g f).records.marks = v.records.marks := rfl
@[simp] theorem Run.modGate_alerts (g : Nat) (f : GateRun → GateRun) : (v.modGate g f).records.alerts = v.records.alerts := rfl
@[simp] theorem Run.modGate_work (g : Nat) (f : GateRun → GateRun) : (v.modGate g f).work = v.work := rfl
@[simp] theorem Run.modGate_deferring (g : Nat) (f : GateRun → GateRun) : (v.modGate g f).deferring = v.deferring := rfl
@[simp] theorem Run.modGate_deferred (g : Nat) (f : GateRun → GateRun) : (v.modGate g f).deferred = v.deferred := rfl
@[simp] theorem Run.modGate_opening (g : Nat) (f : GateRun → GateRun) : (v.modGate g f).opening = v.opening := rfl

@[simp] theorem Run.setSlot_cells (n : Nat) (x : Slot) : (v.setSlot n x).records.cells = v.records.cells := rfl
@[simp] theorem Run.setSlot_reservations (n : Nat) (x : Slot) : (v.setSlot n x).records.reservations = v.records.reservations := rfl
@[simp] theorem Run.setSlot_seniority (n : Nat) (x : Slot) : (v.setSlot n x).records.seniority = v.records.seniority := rfl
@[simp] theorem Run.setSlot_corridors (n : Nat) (x : Slot) : (v.setSlot n x).records.corridors = v.records.corridors := rfl
@[simp] theorem Run.setSlot_gates (n : Nat) (x : Slot) : (v.setSlot n x).records.gates = v.records.gates := rfl
@[simp] theorem Run.setSlot_carriers (n : Nat) (x : Slot) : (v.setSlot n x).records.carriers = v.records.carriers := rfl
@[simp] theorem Run.setSlot_slots (n : Nat) (x : Slot) : (v.setSlot n x).records.slots = Table.put v.records.slots Slot.blank n x := rfl
@[simp] theorem Run.setSlot_engine (n : Nat) (x : Slot) : (v.setSlot n x).records.engine = v.records.engine := rfl
@[simp] theorem Run.setSlot_links (n : Nat) (x : Slot) : (v.setSlot n x).records.links = v.records.links := rfl
@[simp] theorem Run.setSlot_deadlocks (n : Nat) (x : Slot) : (v.setSlot n x).records.deadlocks = v.records.deadlocks := rfl
@[simp] theorem Run.setSlot_marks (n : Nat) (x : Slot) : (v.setSlot n x).records.marks = v.records.marks := rfl
@[simp] theorem Run.setSlot_alerts (n : Nat) (x : Slot) : (v.setSlot n x).records.alerts = v.records.alerts := rfl
@[simp] theorem Run.setSlot_work (n : Nat) (x : Slot) : (v.setSlot n x).work = v.work := rfl
@[simp] theorem Run.setSlot_deferring (n : Nat) (x : Slot) : (v.setSlot n x).deferring = v.deferring := rfl
@[simp] theorem Run.setSlot_deferred (n : Nat) (x : Slot) : (v.setSlot n x).deferred = v.deferred := rfl
@[simp] theorem Run.setSlot_opening (n : Nat) (x : Slot) : (v.setSlot n x).opening = v.opening := rfl

@[simp] theorem Run.setEngine_cells (g : Engine) : (v.setEngine g).records.cells = v.records.cells := rfl
@[simp] theorem Run.setEngine_reservations (g : Engine) : (v.setEngine g).records.reservations = v.records.reservations := rfl
@[simp] theorem Run.setEngine_seniority (g : Engine) : (v.setEngine g).records.seniority = v.records.seniority := rfl
@[simp] theorem Run.setEngine_corridors (g : Engine) : (v.setEngine g).records.corridors = v.records.corridors := rfl
@[simp] theorem Run.setEngine_gates (g : Engine) : (v.setEngine g).records.gates = v.records.gates := rfl
@[simp] theorem Run.setEngine_carriers (g : Engine) : (v.setEngine g).records.carriers = v.records.carriers := rfl
@[simp] theorem Run.setEngine_slots (g : Engine) : (v.setEngine g).records.slots = v.records.slots := rfl
@[simp] theorem Run.setEngine_engine (g : Engine) : (v.setEngine g).records.engine = g := rfl
@[simp] theorem Run.setEngine_links (g : Engine) : (v.setEngine g).records.links = v.records.links := rfl
@[simp] theorem Run.setEngine_deadlocks (g : Engine) : (v.setEngine g).records.deadlocks = v.records.deadlocks := rfl
@[simp] theorem Run.setEngine_marks (g : Engine) : (v.setEngine g).records.marks = v.records.marks := rfl
@[simp] theorem Run.setEngine_alerts (g : Engine) : (v.setEngine g).records.alerts = v.records.alerts := rfl
@[simp] theorem Run.setEngine_work (g : Engine) : (v.setEngine g).work = v.work := rfl
@[simp] theorem Run.setEngine_deferring (g : Engine) : (v.setEngine g).deferring = v.deferring := rfl
@[simp] theorem Run.setEngine_deferred (g : Engine) : (v.setEngine g).deferred = v.deferred := rfl
@[simp] theorem Run.setEngine_opening (g : Engine) : (v.setEngine g).opening = v.opening := rfl

@[simp] theorem Run.setLink_cells (l : Nat) (k : Link) : (v.setLink l k).records.cells = v.records.cells := rfl
@[simp] theorem Run.setLink_reservations (l : Nat) (k : Link) : (v.setLink l k).records.reservations = v.records.reservations := rfl
@[simp] theorem Run.setLink_seniority (l : Nat) (k : Link) : (v.setLink l k).records.seniority = v.records.seniority := rfl
@[simp] theorem Run.setLink_corridors (l : Nat) (k : Link) : (v.setLink l k).records.corridors = v.records.corridors := rfl
@[simp] theorem Run.setLink_gates (l : Nat) (k : Link) : (v.setLink l k).records.gates = v.records.gates := rfl
@[simp] theorem Run.setLink_carriers (l : Nat) (k : Link) : (v.setLink l k).records.carriers = v.records.carriers := rfl
@[simp] theorem Run.setLink_slots (l : Nat) (k : Link) : (v.setLink l k).records.slots = v.records.slots := rfl
@[simp] theorem Run.setLink_engine (l : Nat) (k : Link) : (v.setLink l k).records.engine = v.records.engine := rfl
@[simp] theorem Run.setLink_links (l : Nat) (k : Link) : (v.setLink l k).records.links = Table.put v.records.links Link.reset l k := rfl
@[simp] theorem Run.setLink_deadlocks (l : Nat) (k : Link) : (v.setLink l k).records.deadlocks = v.records.deadlocks := rfl
@[simp] theorem Run.setLink_marks (l : Nat) (k : Link) : (v.setLink l k).records.marks = v.records.marks := rfl
@[simp] theorem Run.setLink_alerts (l : Nat) (k : Link) : (v.setLink l k).records.alerts = v.records.alerts := rfl
@[simp] theorem Run.setLink_work (l : Nat) (k : Link) : (v.setLink l k).work = v.work := rfl
@[simp] theorem Run.setLink_deferring (l : Nat) (k : Link) : (v.setLink l k).deferring = v.deferring := rfl
@[simp] theorem Run.setLink_deferred (l : Nat) (k : Link) : (v.setLink l k).deferred = v.deferred := rfl
@[simp] theorem Run.setLink_opening (l : Nat) (k : Link) : (v.setLink l k).opening = v.opening := rfl

@[simp] theorem Run.raise_cells (f : AlertFlag) : (v.raise f).records.cells = v.records.cells := rfl
@[simp] theorem Run.raise_reservations (f : AlertFlag) : (v.raise f).records.reservations = v.records.reservations := rfl
@[simp] theorem Run.raise_seniority (f : AlertFlag) : (v.raise f).records.seniority = v.records.seniority := rfl
@[simp] theorem Run.raise_corridors (f : AlertFlag) : (v.raise f).records.corridors = v.records.corridors := rfl
@[simp] theorem Run.raise_gates (f : AlertFlag) : (v.raise f).records.gates = v.records.gates := rfl
@[simp] theorem Run.raise_carriers (f : AlertFlag) : (v.raise f).records.carriers = v.records.carriers := rfl
@[simp] theorem Run.raise_slots (f : AlertFlag) : (v.raise f).records.slots = v.records.slots := rfl
@[simp] theorem Run.raise_engine (f : AlertFlag) : (v.raise f).records.engine = v.records.engine := rfl
@[simp] theorem Run.raise_links (f : AlertFlag) : (v.raise f).records.links = v.records.links := rfl
@[simp] theorem Run.raise_deadlocks (f : AlertFlag) : (v.raise f).records.deadlocks = v.records.deadlocks := rfl
@[simp] theorem Run.raise_marks (f : AlertFlag) : (v.raise f).records.marks = v.records.marks := rfl
@[simp] theorem Run.raise_alerts (f : AlertFlag) : (v.raise f).records.alerts = v.records.alerts ||| f.mask := rfl
@[simp] theorem Run.raise_work (f : AlertFlag) : (v.raise f).work = v.work := rfl
@[simp] theorem Run.raise_deferring (f : AlertFlag) : (v.raise f).deferring = v.deferring := rfl
@[simp] theorem Run.raise_deferred (f : AlertFlag) : (v.raise f).deferred = v.deferred := rfl
@[simp] theorem Run.raise_opening (f : AlertFlag) : (v.raise f).opening = v.opening := rfl

@[simp] theorem Run.retireRecord_cells (n : Nat) : (v.retireRecord n).records.cells = v.records.cells := rfl
@[simp] theorem Run.retireRecord_reservations (n : Nat) : (v.retireRecord n).records.reservations = v.records.reservations := rfl
@[simp] theorem Run.retireRecord_seniority (n : Nat) : (v.retireRecord n).records.seniority = v.records.seniority := rfl
@[simp] theorem Run.retireRecord_corridors (n : Nat) : (v.retireRecord n).records.corridors = v.records.corridors := rfl
@[simp] theorem Run.retireRecord_gates (n : Nat) : (v.retireRecord n).records.gates = v.records.gates := rfl
@[simp] theorem Run.retireRecord_carriers (n : Nat) : (v.retireRecord n).records.carriers = v.records.carriers := rfl
@[simp] theorem Run.retireRecord_slots (n : Nat) : (v.retireRecord n).records.slots = v.records.slots := rfl
@[simp] theorem Run.retireRecord_engine (n : Nat) : (v.retireRecord n).records.engine = v.records.engine := rfl
@[simp] theorem Run.retireRecord_links (n : Nat) : (v.retireRecord n).records.links = v.records.links := rfl
@[simp] theorem Run.retireRecord_deadlocks (n : Nat) : (v.retireRecord n).records.deadlocks = Table.erase v.records.deadlocks n := rfl
@[simp] theorem Run.retireRecord_marks (n : Nat) : (v.retireRecord n).records.marks = v.records.marks.filter (fun p => p.2 != n) := rfl
@[simp] theorem Run.retireRecord_alerts (n : Nat) : (v.retireRecord n).records.alerts = v.records.alerts := rfl
@[simp] theorem Run.retireRecord_work (n : Nat) : (v.retireRecord n).work = v.work := rfl
@[simp] theorem Run.retireRecord_deferring (n : Nat) : (v.retireRecord n).deferring = v.deferring := rfl
@[simp] theorem Run.retireRecord_deferred (n : Nat) : (v.retireRecord n).deferred = v.deferred := rfl
@[simp] theorem Run.retireRecord_opening (n : Nat) : (v.retireRecord n).opening = v.opening := rfl

@[simp] theorem Run.later_records (ts : List Task) : (v.later ts).records = v.records := rfl
@[simp] theorem Run.later_work (ts : List Task) : (v.later ts).work = v.work ++ ts := rfl
@[simp] theorem Run.later_deferring (ts : List Task) : (v.later ts).deferring = v.deferring := rfl
@[simp] theorem Run.later_deferred (ts : List Task) : (v.later ts).deferred = v.deferred := rfl
@[simp] theorem Run.later_opening (ts : List Task) : (v.later ts).opening = v.opening := rfl
@[simp] theorem Run.start_records (r : Records) : (Run.start r).records = r := rfl
@[simp] theorem Run.start_work (r : Records) : (Run.start r).work = [] := rfl
@[simp] theorem Run.start_deferring (r : Records) : (Run.start r).deferring = false := rfl
@[simp] theorem Run.start_deferred (r : Records) : (Run.start r).deferred = [] := rfl
@[simp] theorem Run.start_opening (r : Records) : (Run.start r).opening = [] := rfl

/-! ## Each record read after it is written -/

@[simp] theorem Run.cell_setCell_self (x : Nat) (r : CellRun) : (v.setCell x r).cell x = r := by
  simp [Run.cell]

@[simp] theorem Run.cell_setCell_other {x y : Nat} (r : CellRun) (h : y ≠ x) : (v.setCell x r).cell y = v.cell y := by
  simp [Run.cell, h]

@[simp] theorem Run.ctx_modCtx_self (c : Nat) (f : Context → Context) : (v.modCtx c f).ctx c = f (v.ctx c) := by
  simp [Run.ctx]

@[simp] theorem Run.ctx_modCtx_other {c d : Nat} (f : Context → Context) (h : d ≠ c) :
    (v.modCtx c f).ctx d = v.ctx d := by
  simp [Run.ctx, h]

@[simp] theorem Run.reservations_setReservations_self (c : Nat) (l : List (Nat × Nat)) :
    (v.setReservations c l).reservations c = l := by
  simp [Run.reservations]

@[simp] theorem Run.reservations_setReservations_other {c d : Nat} (l : List (Nat × Nat)) (h : d ≠ c) :
    (v.setReservations c l).reservations d = v.reservations d := by
  simp [Run.reservations, h]

@[simp] theorem Run.corridor_setCorridor_self (k : Nat) (r : CorridorRun) : (v.setCorridor k r).corridor k = r := by
  simp [Run.corridor]

@[simp] theorem Run.corridor_setCorridor_other {k j : Nat} (r : CorridorRun) (h : j ≠ k) :
    (v.setCorridor k r).corridor j = v.corridor j := by
  simp [Run.corridor, h]

@[simp] theorem Run.gate_modGate_self (g : Nat) (f : GateRun → GateRun) : (v.modGate g f).gate g = (v.gate g).map f := by
  simp [Run.gate]

@[simp] theorem Run.gate_modGate_other {g h : Nat} (f : GateRun → GateRun) (n : h ≠ g) :
    (v.modGate g f).gate h = v.gate h := by
  simp [Run.gate, n]

@[simp] theorem Run.link_setLink_self (l : Nat) (k : Link) : (v.setLink l k).link l = k := by
  simp [Run.link]

@[simp] theorem Run.link_setLink_other {l m : Nat} (k : Link) (h : m ≠ l) : (v.setLink l k).link m = v.link m := by
  simp [Run.link, h]

@[simp] theorem Run.slot_setSlot_self (n : Nat) (x : Slot) : (v.setSlot n x).slot n = x := by
  simp [Run.slot]

@[simp] theorem Run.slot_setSlot_other {n m : Nat} (x : Slot) (h : m ≠ n) : (v.setSlot n x).slot m = v.slot m := by
  simp [Run.slot, h]

/-! ## Each record read after an update of another -/

@[simp] theorem Run.ctx_setCell (x : Nat) (r : CellRun) (d : Nat) : (v.setCell x r).ctx d = v.ctx d := rfl
@[simp] theorem Run.reservations_setCell (x : Nat) (r : CellRun) (d : Nat) : (v.setCell x r).reservations d = v.reservations d := rfl
@[simp] theorem Run.corridor_setCell (x : Nat) (r : CellRun) (j : Nat) : (v.setCell x r).corridor j = v.corridor j := rfl
@[simp] theorem Run.gate_setCell (x : Nat) (r : CellRun) (h : Nat) : (v.setCell x r).gate h = v.gate h := rfl
@[simp] theorem Run.link_setCell (x : Nat) (r : CellRun) (m : Nat) : (v.setCell x r).link m = v.link m := rfl
@[simp] theorem Run.slot_setCell (x : Nat) (r : CellRun) (m : Nat) : (v.setCell x r).slot m = v.slot m := rfl
@[simp] theorem Run.cell_modCtx (c : Nat) (f : Context → Context) (y : Nat) : (v.modCtx c f).cell y = v.cell y := rfl
@[simp] theorem Run.reservations_modCtx (c : Nat) (f : Context → Context) (d : Nat) : (v.modCtx c f).reservations d = v.reservations d := rfl
@[simp] theorem Run.corridor_modCtx (c : Nat) (f : Context → Context) (j : Nat) : (v.modCtx c f).corridor j = v.corridor j := rfl
@[simp] theorem Run.gate_modCtx (c : Nat) (f : Context → Context) (h : Nat) : (v.modCtx c f).gate h = v.gate h := rfl
@[simp] theorem Run.link_modCtx (c : Nat) (f : Context → Context) (m : Nat) : (v.modCtx c f).link m = v.link m := rfl
@[simp] theorem Run.slot_modCtx (c : Nat) (f : Context → Context) (m : Nat) : (v.modCtx c f).slot m = v.slot m := rfl
@[simp] theorem Run.ctx_setReservations (c : Nat) (l : List (Nat × Nat)) (d : Nat) : (v.setReservations c l).ctx d = v.ctx d := rfl
@[simp] theorem Run.cell_setReservations (c : Nat) (l : List (Nat × Nat)) (y : Nat) : (v.setReservations c l).cell y = v.cell y := rfl
@[simp] theorem Run.corridor_setReservations (c : Nat) (l : List (Nat × Nat)) (j : Nat) : (v.setReservations c l).corridor j = v.corridor j := rfl
@[simp] theorem Run.gate_setReservations (c : Nat) (l : List (Nat × Nat)) (h : Nat) : (v.setReservations c l).gate h = v.gate h := rfl
@[simp] theorem Run.link_setReservations (c : Nat) (l : List (Nat × Nat)) (m : Nat) : (v.setReservations c l).link m = v.link m := rfl
@[simp] theorem Run.slot_setReservations (c : Nat) (l : List (Nat × Nat)) (m : Nat) : (v.setReservations c l).slot m = v.slot m := rfl
@[simp] theorem Run.ctx_setSeniority (l : List Nat) (d : Nat) : (v.setSeniority l).ctx d = v.ctx d := rfl
@[simp] theorem Run.cell_setSeniority (l : List Nat) (y : Nat) : (v.setSeniority l).cell y = v.cell y := rfl
@[simp] theorem Run.reservations_setSeniority (l : List Nat) (d : Nat) : (v.setSeniority l).reservations d = v.reservations d := rfl
@[simp] theorem Run.corridor_setSeniority (l : List Nat) (j : Nat) : (v.setSeniority l).corridor j = v.corridor j := rfl
@[simp] theorem Run.gate_setSeniority (l : List Nat) (h : Nat) : (v.setSeniority l).gate h = v.gate h := rfl
@[simp] theorem Run.link_setSeniority (l : List Nat) (m : Nat) : (v.setSeniority l).link m = v.link m := rfl
@[simp] theorem Run.slot_setSeniority (l : List Nat) (m : Nat) : (v.setSeniority l).slot m = v.slot m := rfl
@[simp] theorem Run.ctx_setCorridor (k : Nat) (r : CorridorRun) (d : Nat) : (v.setCorridor k r).ctx d = v.ctx d := rfl
@[simp] theorem Run.cell_setCorridor (k : Nat) (r : CorridorRun) (y : Nat) : (v.setCorridor k r).cell y = v.cell y := rfl
@[simp] theorem Run.reservations_setCorridor (k : Nat) (r : CorridorRun) (d : Nat) : (v.setCorridor k r).reservations d = v.reservations d := rfl
@[simp] theorem Run.gate_setCorridor (k : Nat) (r : CorridorRun) (h : Nat) : (v.setCorridor k r).gate h = v.gate h := rfl
@[simp] theorem Run.link_setCorridor (k : Nat) (r : CorridorRun) (m : Nat) : (v.setCorridor k r).link m = v.link m := rfl
@[simp] theorem Run.slot_setCorridor (k : Nat) (r : CorridorRun) (m : Nat) : (v.setCorridor k r).slot m = v.slot m := rfl
@[simp] theorem Run.ctx_modGate (g : Nat) (f : GateRun → GateRun) (d : Nat) : (v.modGate g f).ctx d = v.ctx d := rfl
@[simp] theorem Run.cell_modGate (g : Nat) (f : GateRun → GateRun) (y : Nat) : (v.modGate g f).cell y = v.cell y := rfl
@[simp] theorem Run.reservations_modGate (g : Nat) (f : GateRun → GateRun) (d : Nat) : (v.modGate g f).reservations d = v.reservations d := rfl
@[simp] theorem Run.corridor_modGate (g : Nat) (f : GateRun → GateRun) (j : Nat) : (v.modGate g f).corridor j = v.corridor j := rfl
@[simp] theorem Run.link_modGate (g : Nat) (f : GateRun → GateRun) (m : Nat) : (v.modGate g f).link m = v.link m := rfl
@[simp] theorem Run.slot_modGate (g : Nat) (f : GateRun → GateRun) (m : Nat) : (v.modGate g f).slot m = v.slot m := rfl
@[simp] theorem Run.ctx_setSlot (n : Nat) (x : Slot) (d : Nat) : (v.setSlot n x).ctx d = v.ctx d := rfl
@[simp] theorem Run.cell_setSlot (n : Nat) (x : Slot) (y : Nat) : (v.setSlot n x).cell y = v.cell y := rfl
@[simp] theorem Run.reservations_setSlot (n : Nat) (x : Slot) (d : Nat) : (v.setSlot n x).reservations d = v.reservations d := rfl
@[simp] theorem Run.corridor_setSlot (n : Nat) (x : Slot) (j : Nat) : (v.setSlot n x).corridor j = v.corridor j := rfl
@[simp] theorem Run.gate_setSlot (n : Nat) (x : Slot) (h : Nat) : (v.setSlot n x).gate h = v.gate h := rfl
@[simp] theorem Run.link_setSlot (n : Nat) (x : Slot) (m : Nat) : (v.setSlot n x).link m = v.link m := rfl
@[simp] theorem Run.ctx_setEngine (g : Engine) (d : Nat) : (v.setEngine g).ctx d = v.ctx d := rfl
@[simp] theorem Run.cell_setEngine (g : Engine) (y : Nat) : (v.setEngine g).cell y = v.cell y := rfl
@[simp] theorem Run.reservations_setEngine (g : Engine) (d : Nat) : (v.setEngine g).reservations d = v.reservations d := rfl
@[simp] theorem Run.corridor_setEngine (g : Engine) (j : Nat) : (v.setEngine g).corridor j = v.corridor j := rfl
@[simp] theorem Run.gate_setEngine (g : Engine) (h : Nat) : (v.setEngine g).gate h = v.gate h := rfl
@[simp] theorem Run.link_setEngine (g : Engine) (m : Nat) : (v.setEngine g).link m = v.link m := rfl
@[simp] theorem Run.slot_setEngine (g : Engine) (m : Nat) : (v.setEngine g).slot m = v.slot m := rfl
@[simp] theorem Run.ctx_setLink (l : Nat) (k : Link) (d : Nat) : (v.setLink l k).ctx d = v.ctx d := rfl
@[simp] theorem Run.cell_setLink (l : Nat) (k : Link) (y : Nat) : (v.setLink l k).cell y = v.cell y := rfl
@[simp] theorem Run.reservations_setLink (l : Nat) (k : Link) (d : Nat) : (v.setLink l k).reservations d = v.reservations d := rfl
@[simp] theorem Run.corridor_setLink (l : Nat) (k : Link) (j : Nat) : (v.setLink l k).corridor j = v.corridor j := rfl
@[simp] theorem Run.gate_setLink (l : Nat) (k : Link) (h : Nat) : (v.setLink l k).gate h = v.gate h := rfl
@[simp] theorem Run.slot_setLink (l : Nat) (k : Link) (m : Nat) : (v.setLink l k).slot m = v.slot m := rfl
@[simp] theorem Run.ctx_raise (f : AlertFlag) (d : Nat) : (v.raise f).ctx d = v.ctx d := rfl
@[simp] theorem Run.cell_raise (f : AlertFlag) (y : Nat) : (v.raise f).cell y = v.cell y := rfl
@[simp] theorem Run.reservations_raise (f : AlertFlag) (d : Nat) : (v.raise f).reservations d = v.reservations d := rfl
@[simp] theorem Run.corridor_raise (f : AlertFlag) (j : Nat) : (v.raise f).corridor j = v.corridor j := rfl
@[simp] theorem Run.gate_raise (f : AlertFlag) (h : Nat) : (v.raise f).gate h = v.gate h := rfl
@[simp] theorem Run.link_raise (f : AlertFlag) (m : Nat) : (v.raise f).link m = v.link m := rfl
@[simp] theorem Run.slot_raise (f : AlertFlag) (m : Nat) : (v.raise f).slot m = v.slot m := rfl
@[simp] theorem Run.ctx_retireRecord (n : Nat) (d : Nat) : (v.retireRecord n).ctx d = v.ctx d := rfl
@[simp] theorem Run.cell_retireRecord (n : Nat) (y : Nat) : (v.retireRecord n).cell y = v.cell y := rfl
@[simp] theorem Run.reservations_retireRecord (n : Nat) (d : Nat) : (v.retireRecord n).reservations d = v.reservations d := rfl
@[simp] theorem Run.corridor_retireRecord (n : Nat) (j : Nat) : (v.retireRecord n).corridor j = v.corridor j := rfl
@[simp] theorem Run.gate_retireRecord (n : Nat) (h : Nat) : (v.retireRecord n).gate h = v.gate h := rfl
@[simp] theorem Run.link_retireRecord (n : Nat) (m : Nat) : (v.retireRecord n).link m = v.link m := rfl
@[simp] theorem Run.slot_retireRecord (n : Nat) (m : Nat) : (v.retireRecord n).slot m = v.slot m := rfl
@[simp] theorem Run.ctx_later (ts : List Task) (d : Nat) : (v.later ts).ctx d = v.ctx d := rfl
@[simp] theorem Run.cell_later (ts : List Task) (y : Nat) : (v.later ts).cell y = v.cell y := rfl
@[simp] theorem Run.reservations_later (ts : List Task) (d : Nat) : (v.later ts).reservations d = v.reservations d := rfl
@[simp] theorem Run.corridor_later (ts : List Task) (j : Nat) : (v.later ts).corridor j = v.corridor j := rfl
@[simp] theorem Run.gate_later (ts : List Task) (h : Nat) : (v.later ts).gate h = v.gate h := rfl
@[simp] theorem Run.link_later (ts : List Task) (m : Nat) : (v.later ts).link m = v.link m := rfl
@[simp] theorem Run.slot_later (ts : List Task) (m : Nat) : (v.later ts).slot m = v.slot m := rfl

/-! ## The fields of the part after each update -/

@[simp] theorem State.setMap_pending (m : MapStore) : (s.setMap m).pending = s.pending := rfl
@[simp] theorem State.setMap_setting_map (m : MapStore) : (s.setMap m).setting.map = m := rfl
@[simp] theorem State.setMap_setting_op (m : MapStore) : (s.setMap m).setting.op = s.setting.op := rfl
@[simp] theorem State.setMap_setting_tick (m : MapStore) : (s.setMap m).setting.tick = s.setting.tick := rfl
@[simp] theorem State.setMap_setting_ready (m : MapStore) : (s.setMap m).setting.ready = s.setting.ready := rfl
@[simp] theorem State.setMap_records (m : MapStore) : (s.setMap m).records = s.records := rfl
@[simp] theorem State.setMap_supervisor (m : MapStore) : (s.setMap m).supervisor = s.supervisor := rfl
@[simp] theorem State.setMap_pins (m : MapStore) : (s.setMap m).pins = s.pins := rfl

@[simp] theorem State.enter_pending (o : OpState) : (s.enter o).pending = s.pending := rfl
@[simp] theorem State.enter_setting_map (o : OpState) : (s.enter o).setting.map = s.setting.map := rfl
@[simp] theorem State.enter_setting_op (o : OpState) : (s.enter o).setting.op = o := rfl
@[simp] theorem State.enter_setting_tick (o : OpState) : (s.enter o).setting.tick = s.setting.tick := rfl
@[simp] theorem State.enter_setting_ready (o : OpState) : (s.enter o).setting.ready = s.setting.ready := rfl
@[simp] theorem State.enter_records (o : OpState) : (s.enter o).records = s.records := rfl
@[simp] theorem State.enter_supervisor (o : OpState) : (s.enter o).supervisor = s.supervisor := rfl
@[simp] theorem State.enter_pins (o : OpState) : (s.enter o).pins = s.pins := rfl

@[simp] theorem State.answered_pending (n : Nat) (code : Byte) (status : Status) (data : List Byte) : (s.answered n code status data).pending = s.pending := rfl
@[simp] theorem State.answered_setting_map (n : Nat) (code : Byte) (status : Status) (data : List Byte) : (s.answered n code status data).setting.map = s.setting.map := rfl
@[simp] theorem State.answered_setting_op (n : Nat) (code : Byte) (status : Status) (data : List Byte) : (s.answered n code status data).setting.op = s.setting.op := rfl
@[simp] theorem State.answered_setting_tick (n : Nat) (code : Byte) (status : Status) (data : List Byte) : (s.answered n code status data).setting.tick = s.setting.tick := rfl
@[simp] theorem State.answered_setting_ready (n : Nat) (code : Byte) (status : Status) (data : List Byte) : (s.answered n code status data).setting.ready = s.setting.ready := rfl
@[simp] theorem State.answered_records (n : Nat) (code : Byte) (status : Status) (data : List Byte) : (s.answered n code status data).records = s.records := rfl
@[simp] theorem State.answered_supervisor (n : Nat) (code : Byte) (status : Status) (data : List Byte) : (s.answered n code status data).supervisor = s.supervisor.answer n code status data := rfl
@[simp] theorem State.answered_pins (n : Nat) (code : Byte) (status : Status) (data : List Byte) : (s.answered n code status data).pins = s.pins := rfl

@[simp] theorem State.setLink_pending (l : Nat) (k : Link) : (s.setLink l k).pending = s.pending := rfl
@[simp] theorem State.setLink_setting_map (l : Nat) (k : Link) : (s.setLink l k).setting.map = s.setting.map := rfl
@[simp] theorem State.setLink_setting_op (l : Nat) (k : Link) : (s.setLink l k).setting.op = s.setting.op := rfl
@[simp] theorem State.setLink_setting_tick (l : Nat) (k : Link) : (s.setLink l k).setting.tick = s.setting.tick := rfl
@[simp] theorem State.setLink_setting_ready (l : Nat) (k : Link) : (s.setLink l k).setting.ready = s.setting.ready := rfl
@[simp] theorem State.setLink_records (l : Nat) (k : Link) : (s.setLink l k).records = { s.records with links := Table.put s.records.links Link.reset l k } := rfl
@[simp] theorem State.setLink_supervisor (l : Nat) (k : Link) : (s.setLink l k).supervisor = s.supervisor := rfl
@[simp] theorem State.setLink_pins (l : Nat) (k : Link) : (s.setLink l k).pins = s.pins := rfl

@[simp] theorem State.setPerst_pending (b : Bool) : (s.setPerst b).pending = s.pending := rfl
@[simp] theorem State.setPerst_setting_map (b : Bool) : (s.setPerst b).setting.map = s.setting.map := rfl
@[simp] theorem State.setPerst_setting_op (b : Bool) : (s.setPerst b).setting.op = s.setting.op := rfl
@[simp] theorem State.setPerst_setting_tick (b : Bool) : (s.setPerst b).setting.tick = s.setting.tick := rfl
@[simp] theorem State.setPerst_setting_ready (b : Bool) : (s.setPerst b).setting.ready = s.setting.ready := rfl
@[simp] theorem State.setPerst_records (b : Bool) : (s.setPerst b).records = { s.records with engine := { s.records.engine with perst := b } } := rfl
@[simp] theorem State.setPerst_supervisor (b : Bool) : (s.setPerst b).supervisor = s.supervisor := rfl
@[simp] theorem State.setPerst_pins (b : Bool) : (s.setPerst b).pins = s.pins := rfl

@[simp] theorem State.estopRaised_pending : s.estopRaised.pending = s.pending := rfl
@[simp] theorem State.estopRaised_setting_map : s.estopRaised.setting.map = s.setting.map := rfl
@[simp] theorem State.estopRaised_setting_op : s.estopRaised.setting.op = s.setting.op := rfl
@[simp] theorem State.estopRaised_setting_tick : s.estopRaised.setting.tick = s.setting.tick := rfl
@[simp] theorem State.estopRaised_setting_ready : s.estopRaised.setting.ready = s.setting.ready := rfl
@[simp] theorem State.estopRaised_records : s.estopRaised.records = { s.records with alerts := s.records.alerts ||| AlertFlag.estop.mask } := rfl
@[simp] theorem State.estopRaised_supervisor : s.estopRaised.supervisor = { s.supervisor with estopLevel := .low } := rfl
@[simp] theorem State.estopRaised_pins : s.estopRaised.pins = s.pins := rfl

@[simp] theorem State.hardReset_pending : s.hardReset.pending = s.pending := rfl
@[simp] theorem State.hardReset_setting_map : s.hardReset.setting.map = MapStore.empty := rfl
@[simp] theorem State.hardReset_setting_op : s.hardReset.setting.op = .unconfigured := rfl
@[simp] theorem State.hardReset_setting_tick : s.hardReset.setting.tick = 0 := rfl
@[simp] theorem State.hardReset_setting_ready : s.hardReset.setting.ready = s.setting.ready := rfl
@[simp] theorem State.hardReset_records : s.hardReset.records = { Records.reset with engine := { Engine.reset with perst := s.records.engine.perst } } := rfl
@[simp] theorem State.hardReset_supervisor : s.hardReset.supervisor = Supervisor.reset s.pins.estopN := rfl
@[simp] theorem State.hardReset_pins : s.hardReset.pins = s.pins := rfl

@[simp] theorem State.completeMap_pending : s.completeMap.pending = s.pending := rfl
@[simp] theorem State.completeMap_setting_map : s.completeMap.setting.map = s.setting.map.derived := rfl
@[simp] theorem State.completeMap_setting_op : s.completeMap.setting.op = .standby := rfl
@[simp] theorem State.completeMap_setting_tick : s.completeMap.setting.tick = s.setting.tick := rfl
@[simp] theorem State.completeMap_setting_ready : s.completeMap.setting.ready = s.setting.ready := rfl
@[simp] theorem State.completeMap_records : s.completeMap.records = s.records.loaded s.setting.map := rfl
@[simp] theorem State.completeMap_supervisor : s.completeMap.supervisor = s.supervisor := rfl
@[simp] theorem State.completeMap_pins : s.completeMap.pins = s.pins := rfl

@[simp] theorem State.beginMap_pending : s.beginMap.pending = s.pending := rfl
@[simp] theorem State.beginMap_setting_map : s.beginMap.setting.map = MapStore.empty := rfl
@[simp] theorem State.beginMap_setting_op : s.beginMap.setting.op = .loading := rfl
@[simp] theorem State.beginMap_setting_tick : s.beginMap.setting.tick = s.setting.tick := rfl
@[simp] theorem State.beginMap_setting_ready : s.beginMap.setting.ready = s.setting.ready := rfl
@[simp] theorem State.beginMap_records : s.beginMap.records = s.records.unloaded := rfl
@[simp] theorem State.beginMap_supervisor : s.beginMap.supervisor = s.supervisor := rfl
@[simp] theorem State.beginMap_pins : s.beginMap.pins = s.pins := rfl

@[simp] theorem State.ticked_pending : s.ticked.pending = s.pending := rfl
@[simp] theorem State.ticked_setting_map : s.ticked.setting.map = s.setting.map := rfl
@[simp] theorem State.ticked_setting_op : s.ticked.setting.op = s.setting.op := rfl
@[simp] theorem State.ticked_setting_tick : s.ticked.setting.tick = s.setting.tick + 1 := rfl
@[simp] theorem State.ticked_setting_ready : s.ticked.setting.ready = s.setting.ready := rfl
@[simp] theorem State.ticked_supervisor : s.ticked.supervisor = s.supervisor := rfl
@[simp] theorem State.ticked_pins : s.ticked.pins = s.pins := rfl

end Sys2Proof.Laws
end

