-- ==== Sys2Proof/Laws/Work.lean ====
section
/-! SUPPORT. Laws/Work.lean: how an event's work comes to rest: the pieces done one by one, what every piece keeps the
event keeps, and what each shape of an event answers. -/

namespace Sys2Proof.Laws

open Sys2Proof.Machine

variable {e : Setting} {v : Run} {r : Records} {s t : State}

/-- With no work left the event has come to rest. -/
theorem settle_rest (n : Nat) (h : v.work = []) : settle n e v = some v.records := by
  cases n <;> simp [settle, h]

/-- With work left the first piece is done. -/
theorem settle_next (n : Nat) {a : Task} {rest : List Task} (h : v.work = a :: rest) :
    settle (n + 1) e v = settle n e (v.advance e) := by
  simp [settle, h]

/-- The first piece's own work goes ahead of what was waiting. -/
theorem advance_next {a : Task} {rest : List Task} (h : v.work = a :: rest) :
    v.advance e = { runTask e a { v with work := [] } with
      work := (runTask e a { v with work := [] }).work ++ rest } := by
  simp [Run.advance, h]

/-- One piece of work that leaves a known run, and then the rest. -/
theorem settle_cons (n : Nat) {a : Task} {rest : List Task} {u : Run} (h : v.work = a :: rest)
    (hu : runTask e a { v with work := [] } = u) :
    settle (n + 1) e v = settle n e { u with work := u.work ++ rest } := by
  rw [settle_next n h, advance_next h, hu]

/-- A larger bound brings the event to the same rest. -/
theorem settle_more {n m : Nat} (h : settle n e v = some r) (hm : n ≤ m) : settle m e v = some r := by
  induction n generalizing v m with
  | zero =>
    simp only [settle] at h
    split at h
    · rename_i hw
      rw [settle_rest m (List.isEmpty_iff.mp hw)]
      exact h
    · cases h
  | succ n ih =>
    obtain ⟨m, rfl⟩ : ∃ k, m = k + 1 := ⟨m - 1, by omega⟩
    simp only [settle] at h ⊢
    split at h
    · rename_i hw
      rw [if_pos hw]
      exact h
    · rename_i hw
      rw [if_neg hw]
      exact ih h (by omega)

/-- An event that comes to rest within a small bound. -/
theorem settled_of_settle (n : Nat) (h : settle n e v = some r) (hn : n ≤ 16777216) : settled e v = some r :=
  settle_more h hn

/-- An event without work. -/
theorem settled_rest (h : v.work = []) : settled e v = some v.records := settle_rest _ h

/-- What every piece of work keeps, the event keeps: the principle by which an invariant of the records is proved piece
by piece. -/
theorem settle_keeps (P : Records → Prop) (hP : ∀ a u, P u.records → P (runTask e a u).records)
    (n : Nat) (h : settle n e v = some r) (hv : P v.records) : P r := by
  induction n generalizing v with
  | zero =>
    simp only [settle] at h
    split at h
    · cases h; exact hv
    · cases h
  | succ n ih =>
    simp only [settle] at h
    split at h
    · cases h; exact hv
    · refine ih h ?_
      cases hw : v.work with
      | nil => simpa [Run.advance, hw] using hv
      | cons a rest =>
        rw [advance_next hw]
        exact hP a _ hv

/-- The same for the whole of an event. -/
theorem settled_keeps (P : Records → Prop) (hP : ∀ a u, P u.records → P (runTask e a u).records)
    (h : settled e v = some r) (hv : P v.records) : P r :=
  settle_keeps P hP _ h hv

/-- Where an event comes to rest, the part has the records it leaves and nothing else has changed. -/
theorem finish_next (h : finish s v = .next t) : ∃ r, settled s.setting v = some r ∧ t = { s with records := r } := by
  unfold finish at h
  split at h
  · rename_i r hr
    cases h
    exact ⟨r, hr, rfl⟩
  · cases h

/-- The answer of an event whose work comes to rest. -/
theorem finish_of_settled (h : settled s.setting v = some r) : finish s v = .next { s with records := r } := by
  unfold finish; rw [h]

/-- The answer of an event without work. -/
theorem finish_rest (h : v.work = []) : finish s v = .next { s with records := v.records } :=
  finish_of_settled (settled_rest h)

/-- Everything a command can answer: nothing in reset, a refusal's response, or the accepted plan's part with its
response and the records its work leaves. -/
theorem runCommand_next {code : Byte} {n : Nat} {plan : Plan} (h : runCommand code n s plan = .next t) :
    (s.pins.resetN = .low ∧ t = s) ∨
    (∃ status data, plan = .refuse status data ∧ t = s.answered n code status data) ∨
    (∃ p u data r, plan = .accept p u data ∧ settled p.setting u = some r ∧
      t = { p.answered n code .ok data with records := r }) := by
  unfold runCommand at h
  split at h
  · rename_i hr
    cases h
    exact .inl ⟨hr, rfl⟩
  · split at h
    · rename_i status data
      cases h
      exact .inr (.inl ⟨status, data, rfl, rfl⟩)
    · rename_i p u data
      obtain ⟨r, hr, rfl⟩ := finish_next h
      exact .inr (.inr ⟨p, u, data, r, rfl, hr, rfl⟩)

/-- A command in service that is refused. -/
theorem runCommand_refuse {code : Byte} {n : Nat} {status : Status} {data : List Byte} (h : s.inService) :
    runCommand code n s (.refuse status data) = .next (s.answered n code status data) := by
  unfold State.inService at h
  simp [runCommand, h]

/-- A command in service that is accepted. -/
theorem runCommand_accept {code : Byte} {n : Nat} {p : State} {u : Run} {data : List Byte} (h : s.inService)
    (hr : settled p.setting u = some r) :
    runCommand code n s (.accept p u data) = .next { p.answered n code .ok data with records := r } := by
  unfold State.inService at h
  simp only [runCommand, h]
  rw [if_neg (by decide)]
  exact finish_of_settled (s := p.answered n code .ok data) hr

/-- A command in service that is accepted and leaves no work. -/
theorem runCommand_done {code : Byte} {n : Nat} {p : State} {data : List Byte} (h : s.inService) :
    runCommand code n s (.done p data) = .next (p.answered n code .ok data) :=
  runCommand_accept h (settled_rest rfl)

/-- Everything an event that is no command can answer. -/
theorem runEvent_next {f : Setting → Run → Run} (h : runEvent s f = .next t) :
    (s.pins.resetN = .low ∧ t = s) ∨
    ∃ r, settled s.setting (f s.setting s.run) = some r ∧ t = { s with records := r } := by
  unfold runEvent at h
  split at h
  · rename_i hr
    cases h
    exact .inl ⟨hr, rfl⟩
  · exact .inr (finish_next h)

/-- An event in service whose work comes to rest. -/
theorem runEvent_of_settled {f : Setting → Run → Run} (h : s.inService)
    (hr : settled s.setting (f s.setting s.run) = some r) : runEvent s f = .next { s with records := r } := by
  unfold State.inService at h
  simp only [runEvent, h]
  rw [if_neg (by decide)]
  exact finish_of_settled hr

end Sys2Proof.Laws
end

