-- ==== Sys2Proof/Laws/Edges.lean ====
section
/-! SUPPORT. Laws/Edges.lean: what setting, changing and clearing wait edges can do, what the recomputation of a cell's
waiters can do, and that a carrier with nothing to give up gives nothing up. -/

namespace Sys2Proof.Laws

open Sys2Proof.Machine

variable {e : Setting} {v u w : Run}

/-! ## Wait edges (R29, R133 to R138) -/

/-- `u` is `v` with nothing changed but wait edges, deadlock records and marks, and alerts raised. -/
structure EdgesOnly (v u : Run) : Prop where
  records : u.records = { v.records with
    carriers := u.records.carriers, deadlocks := u.records.deadlocks, marks := u.records.marks
    alerts := u.records.alerts }
  work : u.work = v.work
  deferring : u.deferring = v.deferring
  deferred : u.deferred = v.deferred
  opening : u.opening = v.opening
  ctx : ∀ x, (u.ctx x).butEdge = (v.ctx x).butEdge

theorem EdgesOnly.refl (v : Run) : EdgesOnly v v := ⟨rfl, rfl, rfl, rfl, rfl, fun _ => rfl⟩

theorem EdgesOnly.trans (h : EdgesOnly v u) (g : EdgesOnly u w) : EdgesOnly v w :=
  ⟨by rw [g.records, h.records], g.work.trans h.work, g.deferring.trans h.deferring, g.deferred.trans h.deferred,
    g.opening.trans h.opening, fun x => (g.ctx x).trans (h.ctx x)⟩

theorem putEdge_edgesOnly (v : Run) (c : Nat) (t : Option Nat) : EdgesOnly v (v.putEdge c t) := by
  refine ⟨rfl, rfl, rfl, rfl, rfl, fun x => ?_⟩
  by_cases hx : x = c
  · subst hx
    simp only [Run.putEdge, Run.ctx, Run.modCtx, Table.at_put_self, Context.butEdge, Option.map_map]
    congr 1
  · simp only [Run.putEdge, Run.ctx, Run.modCtx, Table.at_put_other _ _ _ hx]

theorem raise_edgesOnly (v : Run) (f : AlertFlag) : EdgesOnly v (v.raise f) :=
  ⟨rfl, rfl, rfl, rfl, rfl, fun _ => rfl⟩

theorem retireMark_edgesOnly (v : Run) (c : Nat) : EdgesOnly v (v.retireMark c) := by
  unfold Run.retireMark
  split
  · exact ⟨rfl, rfl, rfl, rfl, rfl, fun _ => rfl⟩
  · exact .refl v

theorem recordRing_edgesOnly (e : Setting) (v : Run) (members : List Nat) : EdgesOnly v (recordRing e v members) := by
  unfold recordRing
  split
  · exact raise_edgesOnly v _
  · exact ⟨rfl, rfl, rfl, rfl, rfl, fun _ => rfl⟩

theorem walkFrom_edgesOnly (e : Setting) (v : Run) (c t : Nat) : EdgesOnly v (walkFrom e v c t) := by
  unfold walkFrom
  split
  · exact recordRing_edgesOnly e v _
  · exact .refl v

theorem reportEdge_edgesOnly (e : Setting) (v : Run) (c : Nat) (previous new : Option Nat) :
    EdgesOnly v (reportEdge e v c previous new) := by
  unfold reportEdge
  split
  · exact .refl v
  · exact retireMark_edgesOnly v c
  · split
    · split
      · exact .refl v
      · exact walkFrom_edgesOnly e v c _
    · exact (retireMark_edgesOnly v c).trans (walkFrom_edgesOnly e _ c _)

/-- Everything setting an edge can do. -/
theorem setEdge_edgesOnly (e : Setting) (v : Run) (c : Nat) (t : Option Nat) : EdgesOnly v (setEdge e v c t) :=
  (putEdge_edgesOnly v c _).trans (reportEdge_edgesOnly e _ c _ _)

/-- Everything changing an edge can do. -/
theorem changeEdge_edgesOnly (e : Setting) (v : Run) (c : Nat) (t : Option Nat) : EdgesOnly v (changeEdge e v c t) := by
  unfold changeEdge
  split
  · exact .refl v
  · exact setEdge_edgesOnly e v c t

/-! ## The recomputation of a cell's waiters (R31) -/

/-- `u` is `v` with nothing changed but block causes, wait edges, deadlock records and marks, and alerts raised. -/
structure CausesOnly (v u : Run) : Prop where
  records : u.records = { v.records with
    cells := u.records.cells, carriers := u.records.carriers, deadlocks := u.records.deadlocks
    marks := u.records.marks, alerts := u.records.alerts }
  work : u.work = v.work
  deferring : u.deferring = v.deferring
  deferred : u.deferred = v.deferred
  opening : u.opening = v.opening
  ctx : ∀ x, (u.ctx x).butEdge = (v.ctx x).butEdge
  cell : ∀ x, (u.cell x).butCauses = (v.cell x).butCauses

theorem CausesOnly.refl (v : Run) : CausesOnly v v := ⟨rfl, rfl, rfl, rfl, rfl, fun _ => rfl, fun _ => rfl⟩

theorem CausesOnly.trans (h : CausesOnly v u) (g : CausesOnly u w) : CausesOnly v w :=
  ⟨by rw [g.records, h.records], g.work.trans h.work, g.deferring.trans h.deferring, g.deferred.trans h.deferred,
    g.opening.trans h.opening, fun x => (g.ctx x).trans (h.ctx x), fun x => (g.cell x).trans (h.cell x)⟩

theorem EdgesOnly.causesOnly (h : EdgesOnly v u) : CausesOnly v u :=
  ⟨by rw [h.records], h.work, h.deferring, h.deferred, h.opening, h.ctx, fun x => by
    simp only [Run.cell]; rw [h.records]⟩

/-- Recording a cause changes nothing of a queue but causes. -/
theorem recordCause_butCauses (q : List Waiter) (c : Nat) (b : BlockCause) :
    (recordCause q c b).map (fun w => { w with cause := BlockCause.closed }) =
      q.map (fun w => { w with cause := BlockCause.closed }) := by
  simp only [recordCause, List.map_map]
  apply List.map_congr_left
  intro w _
  simp only [Function.comp]
  split <;> rfl

theorem recordCause_causesOnly (v : Run) (x c : Nat) (b : BlockCause) :
    CausesOnly v (v.setCell x { v.cell x with queue := recordCause (v.cell x).queue c b }) := by
  refine ⟨rfl, rfl, rfl, rfl, rfl, fun _ => rfl, fun y => ?_⟩
  by_cases hy : y = x
  · subst hy
    simp only [Run.cell, Run.setCell, Table.at_set_self, CellRun.butCauses, recordCause_butCauses]
  · simp only [Run.cell, Run.setCell, Table.at_set_other _ _ _ hy]

theorem recomputeWaiter_causesOnly (e : Setting) (x : Nat) (v : Run) (c : Nat) :
    CausesOnly v (recomputeWaiter e x v c) := by
  unfold recomputeWaiter
  split
  · exact .refl v
  · split
    · split
      · exact (changeEdge_edgesOnly e v c none).causesOnly
      · exact (recordCause_causesOnly v x c _).trans (changeEdge_edgesOnly e _ c _).causesOnly
    · exact .refl v

/-- A fold of steps each of which changes causes and edges alone. -/
theorem foldl_causesOnly {α : Type} (f : Run → α → Run) (hf : ∀ v a, CausesOnly v (f v a)) (l : List α) (v : Run) :
    CausesOnly v (l.foldl f v) := by
  induction l generalizing v with
  | nil => exact .refl v
  | cons a l ih => exact (hf v a).trans (ih (f v a))

/-- Everything the recomputation of a cell's waiters can do. -/
theorem recompute_causesOnly (e : Setting) (v : Run) (x : Nat) : CausesOnly v (recompute e v x) :=
  foldl_causesOnly _ (fun v c => recomputeWaiter_causesOnly e x v c) _ v

/-- Everything the recomputation at a corridor's ends can do. -/
theorem recomputeEnds_causesOnly (e : Setting) (v : Run) (k : Nat) : CausesOnly v (recomputeEnds e v k) :=
  foldl_causesOnly _ (fun v x => recompute_causesOnly e v x) _ v

/-- The recomputation at a cell changes no other cell. -/
theorem recompute_other_cell (e : Setting) (v : Run) (x : Nat) {y : Nat} (hy : y ≠ x) :
    (recompute e v x).cell y = v.cell y := by
  have one : ∀ v c, (recomputeWaiter e x v c).cell y = v.cell y := by
    intro v c
    have keep : ∀ (v u : Run), EdgesOnly v u → u.cell y = v.cell y := fun v u h => by
      simp only [Run.cell]; rw [h.records]
    unfold recomputeWaiter
    split
    · rfl
    · split
      · split
        · exact keep _ _ (changeEdge_edgesOnly e v c none)
        · rw [keep _ _ (changeEdge_edgesOnly e _ c _)]
          simp only [Run.cell, Run.setCell, Table.at_set_other _ _ _ hy]
      · rfl
  have all : ∀ (l : List Nat) (v : Run), (l.foldl (recomputeWaiter e x) v).cell y = v.cell y := by
    intro l
    induction l with
    | nil => intro v; rfl
    | cons c l ih => intro v; exact (ih _).trans (one v c)
  exact all _ v

/-- A cell without waiters has none to recompute. -/
theorem recompute_of_no_waiter (e : Setting) (v : Run) (x : Nat) (h : (v.cell x).queue = []) : recompute e v x = v := by
  simp [recompute, h]

/-! ## A carrier with nothing to give up -/

/-- `u` reads as `v` in every record but the order of seniority. -/
structure Quiet (v u : Run) : Prop where
  records : u.records = { v.records with carriers := u.records.carriers, seniority := u.records.seniority }
  work : u.work = v.work
  deferring : u.deferring = v.deferring
  deferred : u.deferred = v.deferred
  opening : u.opening = v.opening
  ctx : ∀ x, u.ctx x = v.ctx x

theorem Quiet.refl (v : Run) : Quiet v v := ⟨rfl, rfl, rfl, rfl, rfl, fun _ => rfl⟩

theorem Quiet.trans (h : Quiet v u) (g : Quiet u w) : Quiet v w :=
  ⟨by rw [g.records, h.records], g.work.trans h.work, g.deferring.trans h.deferring, g.deferred.trans h.deferred,
    g.opening.trans h.opening, fun x => (g.ctx x).trans (h.ctx x)⟩

/-- Changing a context to itself is quiet. -/
theorem modCtx_quiet (v : Run) (c : Nat) (f : Context → Context) (h : f (v.ctx c) = v.ctx c) : Quiet v (v.modCtx c f) := by
  refine ⟨rfl, rfl, rfl, rfl, rfl, fun x => ?_⟩
  by_cases hx : x = c
  · subst hx
    simp only [Run.modCtx, Run.ctx, Table.at_put_self]
    exact h
  · simp only [Run.modCtx, Run.ctx, Table.at_put_other _ _ _ hx]

/-- Clearing a wait record that is absent is quiet. -/
theorem clearWait_quiet (e : Setting) (v : Run) (c : Nat) (h : (v.ctx c).wait = none) : Quiet v (clearWait e v c) := by
  have put : Quiet v (v.putEdge c none) := modCtx_quiet v c _ (by
    cases hk : v.ctx c; rw [hk] at h; simp only at h; subst h; rfl)
  have set : setEdge e v c none = v.putEdge c none := by
    have target : targetFor c none = none := by simp [targetFor]
    simp only [setEdge, target, Run.edge, h, Option.bind_none, reportEdge]
  unfold clearWait
  rw [set]
  refine put.trans (modCtx_quiet _ c _ ?_)
  rw [put.ctx]
  cases hk : v.ctx c; rw [hk] at h; simp only at h; subst h; rfl

/-- A carrier that stands in no queue and has no wait record leaves its waiting quietly. -/
theorem leaveWaiting_quiet (e : Setting) (v : Run) (c : Nat) (hq : v.queueOf c = none) (hw : (v.ctx c).wait = none) :
    Quiet v (leaveWaiting e v c) := by
  unfold leaveWaiting
  have h : leaveQueue e v c = v.dropSeniority c := by simp [leaveQueue, hq]
  rw [h]
  have drop : Quiet v (v.dropSeniority c) := ⟨rfl, rfl, rfl, rfl, rfl, fun _ => rfl⟩
  exact drop.trans (clearWait_quiet e _ c (by rw [drop.ctx]; exact hw))

/-- Clearing no reservation changes nothing. -/
theorem clearReservations_nil (e : Setting) (v : Run) (c : Nat) : clearReservations e v c [] = v := by
  simp [clearReservations, Run.later]

/-- A carrier that is no corridor's turn carrier has no turn to cancel. -/
theorem cancelTurns_none (e : Setting) (v : Run) (c : Nat)
    (h : ∀ k ∈ Table.keys v.records.corridors, (v.corridor k).turnCarrier ≠ some c) : cancelTurns e v c = v := by
  unfold cancelTurns
  have all : ∀ l : List Nat, (∀ k ∈ l, (v.corridor k).turnCarrier ≠ some c) →
      l.foldl (fun v k => if (v.corridor k).turnCarrier = some c then cancelTurn e v k else v) v = v := by
    intro l
    induction l with
    | nil => intro _; rfl
    | cons k l ih =>
      intro hl
      simp only [List.foldl_cons, if_neg (hl k (List.mem_cons_self ..))]
      exact ih (fun j hj => hl j (List.mem_cons_of_mem _ hj))
  exact all _ h

/-! ## The failure that is recorded (R25, R127, R129) -/

/-- The recorded failure is that of the first failing condition, or GATE without an edge at the portal of a gate that is
DRAINING or in FAULT. -/
theorem recordedFailure_cases (e : Setting) (v : Run) (y : Nat) (b : BlockCause) (t : Option Nat) :
    recordedFailure e v y b t = (b, t) ∨ ∃ g, e.map.gateOf y = some g ∧ b = .capacity ∧
      (v.gateState g = .draining ∨ v.gateState g = .fault) ∧ recordedFailure e v y b t = (.gate, none) := by
  unfold recordedFailure
  split
  · exact .inl rfl
  · split
    · rename_i g hg h
      exact .inr ⟨g, hg, h.1, h.2, rfl⟩
    · exact .inl rfl

/-- At a cell that is no PORTAL the failure is recorded as R25 gives it. -/
@[simp] theorem recordedFailure_off_portal (e : Setting) (v : Run) {y : Nat} (b : BlockCause) (t : Option Nat)
    (h : e.map.gateOf y = none) : recordedFailure e v y b t = (b, t) := by
  simp only [recordedFailure, h]

end Sys2Proof.Laws
end

