-- ==== Sys2Proof/Tests/Slice0.lean ====
section
/-! SUPPORT. Tests/Slice0.lean: checks of single steps against the manual's worked examples, the smoke tests of the
well-formedness checks, and for each statement with hypotheses a concrete state and operands that meet them. -/

namespace Sys2Proof.Tests

-- One theorem after another: checked all at once, their threads take more memory than a check may use.
set_option Elab.async false

open Sys2Proof Sys2Proof.Machine

/-! ## Small parts -/

/-- A record that a table answers is one of its list. -/
theorem mem_of_find {α : Type} {t : Table α} {x : Nat} {r : α} (h : Table.find t x = some r) : (x, r) ∈ t := by
  induction t with
  | nil => cases h
  | cons p l ih =>
    obtain ⟨k, a⟩ := p
    simp only [Table.find] at h
    split at h
    · rename_i hk
      cases h
      subst hk
      exact List.mem_cons_self ..
    · exact List.mem_cons_of_mem _ (ih h)

/-- What holds of the default and of each listed record but one holds of every record but that one. -/
theorem at_all_but {α : Type} {t : Table α} {d : α} {P : α → Prop} {y : Nat} (h0 : P d)
    (h : ∀ p ∈ t, p.1 ≠ y → P p.2) {x : Nat} (hx : x ≠ y) : P (Table.at t d x) := by
  unfold Table.at
  cases hf : Table.find t x with
  | none => exact h0
  | some r => exact h _ (mem_of_find hf) hx

/-- What holds of the default and of each listed record holds of every record. -/
theorem at_all {α : Type} {t : Table α} {d : α} {P : α → Prop} (h0 : P d) (h : ∀ p ∈ t, P p.2) (x : Nat) :
    P (Table.at t d x) :=
  at_all_but (y := x + 1) h0 (fun p hp _ => h p hp) (by omega)

/-- Whether an outcome is a next state with a property. -/
def leads (o : Host.Outcome State Fault Refusal) (p : State → Bool) : Bool :=
  match o with
  | .next t => p t
  | .fault _ => false
  | .refused _ => false

/-- A cell of 1000 mm with its gate and its place in a corridor. -/
def plainCell (kind : CellKind) (gate : Option Nat) (place : Option (Nat × Nat)) : CellStatic :=
  { kind := kind, length := 1000, limit := 250, clearance := 0, ports := [none, none, none, none], capacity := none
    entryPort := none, exitPort := none, gate := gate, corridor := place }

/-- The class of the manual's example of a route read across a boundary. -/
def classA : ClassRec :=
  { decel := 500, margin := 300, vmax := 200, hmax := 4, priority := 2, allowance := 5, silence := 5, lost := 10 }

/-- A part with a loaded map, no carrier enrolled and nothing waiting. -/
def part (op : OpState) (m : MapStore) : State :=
  { State.reset with
    setting := { State.reset.setting with map := m, op := op }
    records := Records.loaded m Records.reset }

/-- A RUNNING carrier on step 0 of a route that is whole in its window. -/
def runner (route : List Nat) (base : Nat) : Context :=
  { Context.vacant with
    state := .running, homeLink := some 0, windowBase := base, windowSize := 8, windowCount := route.length
    routeAddr := some 4096, stepCount := some route.length, nextStep := route.length, frontCell := route.headD 0
    requested := 200, held := [{ cell := route.headD 0, step := some 0, distance := 1000 }], allowance := 5
    blockReason := some .none }

/-- `s` with a carrier's context set and the cells it holds listing it. -/
def enter (s : State) (c : Nat) (k : Context) : State :=
  { s with records := { s.records with
    carriers := Table.set s.records.carriers c k
    cells := k.held.foldl
      (fun t h => Table.set t h.cell
        { Table.at t CellRun.free h.cell with holders := (Table.at t CellRun.free h.cell).holders ++ [c] })
      s.records.cells } }

/-- `s` with the steps of a route in the slots from `base` on. -/
def laid (s : State) (base : Nat) (route : List Nat) : State :=
  { s with records := { s.records with
    slots := route.zipIdx.foldl
      (fun t p => Table.set t (base + p.2)
        { cell := p.1, last := p.2 + 1 == route.length, hold := false, cap := 0 })
      s.records.slots } }

/-- `s` with a RUNNING carrier on the first cell of its route. -/
def placed (s : State) (c base : Nat) (route : List Nat) : State := laid (enter s c (runner route base)) base route

/-- `s` with the runtime record of a cell set. -/
def withCell (s : State) (x : Nat) (r : CellRun) : State :=
  { s with records := { s.records with cells := Table.set s.records.cells x r } }

/-- `s` with a carrier's context changed. -/
def withCtx (s : State) (c : Nat) (f : Context → Context) : State :=
  { s with records := { s.records with carriers := Table.set s.records.carriers c (f (s.ctx c)) } }

/-- `s` with the engine's records changed. -/
def withEngine (s : State) (g : Engine) : State := { s with records := { s.records with engine := g } }

/-- `s` with a gate's record set. -/
def withGate (s : State) (g : Nat) (r : GateRun) : State :=
  { s with records := { s.records with gates := Table.set s.records.gates g r } }

/-- A carrier that waits in the queue of cell `x` since a tick. -/
def waiting (x : Nat) (since : Tick) (edge : Option Nat) (k : Context) : Context :=
  { k with blockReason := some .cell, wait := some { reason := .cell, cell := x, since := since, edge := edge } }

/-- A waiter of a queue. -/
def waiter (c priority step : Nat) (cause : BlockCause) : Waiter :=
  { carrier := c, priority := priority, step := step, cause := cause }

/-! ## Formats -/

/-- The CRC's worked value (Data Formats 11.1). -/
theorem test_crc : crc16 [0x31, 0x32, 0x33, 0x34, 0x35, 0x36, 0x37, 0x38, 0x39] = 0x29B1#16 := by decide +kernel

/-- The worked result word, and its bytes in memory (Data Formats 11.2). -/
theorem test_result_word : resultWord .complete 10 2 14 = 0x800A020E#32 ∧
    wordBytes (resultWord .complete 10 2 14) = [0x0E, 0x02, 0x0A, 0x80] := by decide +kernel

/-- A step record: cell, END and HOLD flags, cap (R104, R165). -/
theorem test_step_record :
    decodeStep [0x21, 0x0B, 0x02, 0x5A, 0, 0, 0, 0] = { cell := 801, last := false, hold := true, cap := 90 } := by
  decide +kernel

/-- Required distance: 300 + ceil(2000² ÷ 1000) mm (the example of Section 6.7). -/
theorem test_required_distance : requiredDistance classA 200 = 4300 := by decide +kernel

/-- A frame of ATTACH, byte by byte (R166). -/
theorem test_decode_attach : decodeTransfer [0x10, 0x00, 0x48, 0, 0, 0, 0, 0x08, 0x04, 0x0F, 0xD0] =
    .attach 72 0x08040FD0 := by decide +kernel

/-- A frame of MAP-CORRIDOR: corridor, count, members (R166). -/
theorem test_decode_corridor : decodeTransfer [0x03, 0x05, 0x02, 0x01, 0xF5, 0x01, 0xF6] =
    .mapCorridor 5 [501, 502] := by decide +kernel

/-- A frame whose length is not the one its code gives is no command (R154). -/
theorem test_decode_short : decodeTransfer [0x0E] = .unknownCommand [0x0E] := by decide +kernel

/-- Code 0 is a read transfer (R153). -/
theorem test_decode_read : decodeTransfer [0, 0, 0] = .readTransfer 3 := by decide +kernel

/-! ## Well-formedness: each check refuses an ill-formed term -/

theorem test_corridor_count : (Instr.mapCorridor 0 (List.replicate 256 1)).wellFormed = false := by decide +kernel

theorem test_unknown_frame : (Instr.unknownCommand [0x01]).wellFormed = false := by decide +kernel

theorem test_completion_shape : (Instr.readCompletion 1 .aborted [0]).wellFormed = false := by decide +kernel

/-! ## The map of Section 1.2.4 -/

/-- The records of the example, cell 6 with its port 0 as given. -/
def shortBuffer (port6 : Option Nat) : MapStore :=
  let cell := fun (kind : CellKind) (ports : List (Option Nat)) =>
    { plainCell kind none none with ports := ports }
  { cells := [(1, cell .dock [some 2, none, none, none]), (2, cell .track [some 1, some 3, none, none]),
      (3, cell .track [some 2, some 4, none, none]), (4, cell .junction [some 3, some 5, some 6, none]),
      (5, { cell .lane [some 4, some 7, none, none] with capacity := some 3, entryPort := some 0, exitPort := some 1 }),
      (6, { cell .portal [port6, none, none, none] with gate := some 0 }), (7, cell .track [some 5, none, none, none])]
    corridors := [(0, [2, 3])]
    gates := [(0, { portal := 6, polarity := .high, callLimit := 1500, holdOpen := 200, partner := false })]
    classes := [(0, classA)] }

/-- The part in LOADING with the records of the example. -/
def loading (port6 : Option Nat) : State :=
  { State.reset with setting := { State.reset.setting with map := shortBuffer port6, op := .loading } }

/-- The first MAP-END is answered CONFLICT: check 2, ONE-WAY, cell 4, port 2, cell 6. -/
theorem test_map_end_one_way : leads (exec .mapEnd (loading none)) (fun t =>
    t.supervisor.response == [0x06, 3, 1, 0, 8, 2, 1, 0, 0, 4, 2, 0, 6] && t.setting.op == .loading) = true := by
  decide +kernel

/-- The second MAP-END is answered OK with 7 cells, 1 corridor, 1 gate binding and 1 class; cells 2 and 3 are positions 0
and 1 of corridor 0. -/
theorem test_map_end_passes : leads (exec .mapEnd (loading (some 4))) (fun t =>
    t.supervisor.response == [0x06, 0, 1, 0, 5, 0, 7, 1, 1, 1] && t.setting.op == .standby &&
      t.setting.map.corridorOf 2 == some (0, 0) && t.setting.map.corridorOf 3 == some (0, 1) &&
      t.setting.map.corridorOf 4 == none && t.gate 0 == some GateRun.shut) = true := by decide +kernel

/-! ## Clearance, offer and reservation (Section 2.11) -/

/-- The crossing of the example at the tick of the expiry. -/
def crossing : State :=
  let cells := [(120, plainCell .junction none none), (121, plainCell .junction none none),
    (122, plainCell .track none none), (130, plainCell .track none none)]
  let p := fun (n : Nat) => (n, { classA with priority := n })
  let s := part .active { cells := cells, corridors := [], gates := [], classes := [p 1, p 2, p 3] }
  let s := { s with setting := { s.setting with tick := 1150 } }
  let w := fun (s : State) (c : Nat) (cls base passed : Nat) (since : Tick) =>
    withCtx (laid s base [200 + c, 120, 121, 122]) c
      (fun _ => waiting 120 since none { runner [200 + c, 120, 121, 122] base with cls := cls, passOver := passed })
  let s := w (w (w (w s 7 2 0 0 1000) 30 2 8 0 1004) 12 1 16 2 1010) 5 3 24 0 1012
  let s := enter s 9 { runner [121, 130] 32 with cls := 2 }
  let queue := [waiter 12 1 1 .clearance, waiter 7 2 1 .clearance, waiter 30 2 1 .clearance, waiter 5 3 1 .clearance]
  let s := withCell s 120 { CellRun.free with countdown := 1, due := true, queue := queue }
  { s with records := { s.records with seniority := [7, 30, 12, 5] } }

/-- The expiry offers the cell: 12 moves to the queue of 121 and reserves 120 and 122, and the others wait on 12. -/
theorem test_clearance_example : leads (exec (.clearanceCountdownExpiry 120) crossing) (fun t =>
    (t.cell 120).reservedFor == some 12 && (t.cell 120).queue.map Waiter.carrier == [7, 30, 5] &&
      (t.cell 121).queue.map Waiter.carrier == [12] && (t.reservations 12).map Prod.fst == [120, 122] &&
      (t.ctx 12).passOver == 3 && [7, 30, 5, 12].map t.run.edge == [some 12, some 12, some 12, some 9]) = true := by
  decide +kernel

/-! ## A corridor turns (Section 4.2) -/

/-- Carrier 11 is about to release 504, its last member. -/
def aisle : State :=
  let cells := [(490, plainCell .track none none), (501, plainCell .track none (some (5, 0))),
    (502, plainCell .track none (some (5, 1))), (503, plainCell .track none (some (5, 2))),
    (504, plainCell .track none (some (5, 3))), (510, plainCell .track none none), (520, plainCell .track none none),
    (521, plainCell .track none none)]
  let s := part .active { cells := cells, corridors := [(5, [501, 502, 503, 504])], gates := [], classes := [(0, classA)] }
  let behind := { runner [504, 510] 0 with
    grantMark := 2
    held := [{ cell := 504, step := some 0, distance := 1000 }, { cell := 510, step := some 1, distance := 1000 }] }
  let s := laid (enter s 11 behind) 0 [504, 510]
  let s := withCtx (placed s 20 8 [520, 504, 503]) 20 (waiting 504 10 (some 11))
  let s := withCtx (placed s 21 16 [521, 504, 503]) 21 (waiting 504 11 (some 11))
  let s := withCtx (placed s 12 24 [490, 501, 502]) 12 (waiting 501 12 (some 20))
  let s := withCell s 504 { s.cell 504 with queue := [waiter 20 2 1 .corridor, waiter 21 2 1 .corridor] }
  let s := withCell s 501 { s.cell 501 with queue := [waiter 12 2 1 .corridor] }
  { s with records := { s.records with
    seniority := [20, 21, 12]
    corridors := [(5, { direction := .ab, occupants := [11], turnRequested := true, turnCarrier := some 20 })] } }

/-- The corridor turns, 504 goes to 20, and 12 becomes the next turn carrier. The edge of 21 follows the order of R25 and
not the example's last row (log entry 27). -/
theorem test_corridor_example : leads (exec (.pass 0 11 1 1 510 50) aisle) (fun t =>
    t.corridor 5 == { direction := .ba, occupants := [20], turnRequested := true, turnCarrier := some 12 } &&
      (t.cell 504).holders == [20] && (t.cell 504).queue.map Waiter.carrier == [21] &&
      t.run.edge 12 == some 20) = true := by decide +kernel

/-! ## Leaving a buffer lane (Section 4.4) -/

/-- A full lane whose oldest holder is leaving. -/
def lane : State :=
  let buffer := { plainCell .lane none none with
    ports := [some 414, some 416, none, none], capacity := some 3, entryPort := some 0, exitPort := some 1 }
  let cells := [(414, plainCell .track none none), (415, buffer), (416, plainCell .track none none)]
  let s := part .active { cells := cells, corridors := [], gates := [], classes := [(0, classA)] }
  let leaving := { runner [415, 416] 0 with
    grantMark := 2
    held := [{ cell := 415, step := some 0, distance := 333 }, { cell := 416, step := some 1, distance := 1000 }] }
  let inLane := fun (ahead : Nat) (k : Context) => { k with
    blockReason := some .order, wait := some { reason := .order, cell := 415, since := 1, edge := some ahead } }
  let s := laid (enter s 21 leaving) 0 [415, 416]
  let s := withCtx (placed s 33 8 [415, 416]) 33 (inLane 21)
  let s := withCtx (placed s 48 16 [415, 416]) 48 (inLane 33)
  let s := withCtx (placed s 50 24 [414, 415, 416]) 50 (waiting 415 2 (some 21))
  let s := withCell s 415 { s.cell 415 with queue := [waiter 50 2 1 .capacity] }
  { s with records := { s.records with seniority := [50] } }

/-- The lane advances, and 50 takes the freed place. -/
theorem test_lane_example : leads (exec (.pass 0 21 1 1 416 50) lane) (fun t =>
    (t.cell 415).holders == [33, 48, 50] && (t.cell 416).queue.map Waiter.carrier == [33] &&
      [33, 48, 50].map t.run.edge == [some 21, some 33, some 48] &&
      [33, 48, 50].map (fun c => (t.ctx c).blockReason) == [some .cell, some .order, some .order]) = true := by
  decide +kernel

/-! ## Stop and trim (Section 5.9) -/

/-- The track of the example. -/
def street : MapStore :=
  { cells := [(701, plainCell .track none none), (702, plainCell .track none none), (703, plainCell .track none none),
      (704, plainCell .junction none none), (705, plainCell .track none none), (801, plainCell .track none none)]
    corridors := [], gates := [], classes := [(0, classA)] }

/-- Carrier 60 HALTING with cause SUPERVISOR, on steps 4 and 5 of its route. -/
def halting : State :=
  let held := [(702, 4), (703, 5), (704, 6), (705, 7)].map
    (fun p => { cell := p.1, step := some p.2, distance := 1000 : Held })
  let k := { runner [701, 702, 703, 704, 705] 0 with
    state := .halting, stopCause := some .supervisor, windowCount := 4, nextStep := 8, stepCount := some 9
    front := 5, rear := 4, frontCell := 703, grantMark := 8, held := held }
  laid (enter (part .active street) 60 k) 4 [702, 703, 704, 705]

/-- PASS 5, 5 with speed 0: everything but 703 is released and 60 is STOPPED, with STOP as the reply. -/
theorem test_trim_example : leads (exec (.pass 0 60 5 5 703 0) halting) (fun t =>
    (t.ctx 60).state == .stopped && (t.ctx 60).grantMark == 6 && (t.ctx 60).held.map Held.cell == [703] &&
      t.records.flag .stopped && (t.cell 704).holders == [] &&
      (t.link 0).transmitter == .sending { carrier := 60, payload := .stop .supervisor }) = true := by decide +kernel

/-! ## A route read across a boundary (Section 6.7) -/

/-- Carrier 72 ATTACHED, with its first read request in the engine queue. -/
def attached72 : State :=
  let k := { Context.vacant with
    state := .attached, windowBase := 64, routeAddr := some 0x08040FD0, generation := 14, frontCell := 801
    requested := 200, allowance := 5, held := [{ cell := 801, step := none, distance := 1000 }] }
  withEngine (enter (part .active street) 72 k) { Engine.reset with queue := [.fetch 72 true] }

/-- The first read covers 48 bytes at the route address. -/
theorem test_first_read_example : leads (exec .serveFetch attached72) (fun t =>
    t.records.engine.lastIssued == some (.read 0x08040FD0 48 1) && t.records.engine.timer == some 5) = true := by
  decide +kernel

/-- The second read covers 32 bytes from the boundary. -/
theorem test_second_read_example :
    leads (exec .serveFetch (withEngine
        (withCtx attached72 72 (fun k => { k with
          state := .running, stepCount := some 11, nextStep := 4, windowCount := 4, grantMark := 4 }))
        { Engine.reset with queue := [.fetch 72 false], readNumber := 255 }))
      (fun t => t.records.engine.lastIssued == some (.read 0x08041000 32 0)) = true := by decide +kernel

/-! ## One airlock turn (Section 7.8) -/

/-- Gate 4 is CALLING for carrier 31, and gate 5 is owed a call for carrier 86. -/
def airlock : State :=
  let binding := fun (portal : Nat) (partner : Bool) =>
    { portal := portal, polarity := .high, callLimit := 1500, holdOpen := 200, partner := partner : GateBinding }
  let cells := [(640, plainCell .portal (some 4) none), (641, plainCell .portal (some 5) none),
    (650, plainCell .track none none), (651, plainCell .track none none), (652, plainCell .track none none),
    (653, plainCell .track none none)]
  let s := part .active
    { cells := cells, corridors := [], gates := [(4, binding 640 true), (5, binding 641 false)], classes := [(0, classA)] }
  let s := withCtx (placed s 31 0 [650, 640, 651]) 31 (waiting 640 1 none)
  let s := withCtx (placed s 86 8 [652, 641, 653]) 86 (waiting 641 2 none)
  let s := withCell s 640 { s.cell 640 with queue := [waiter 31 2 1 .gate] }
  let s := withCell s 641 { s.cell 641 with queue := [waiter 86 2 1 .gate] }
  let s := withGate s 4 { state := .calling, callPending := false, timer := some 1500, due := false }
  let s := withGate s 5 { GateRun.shut with callPending := true }
  { s with records := { s.records with seniority := [31, 86] } }

/-- READY 4 becomes active: the portal goes to 31, and gate 4 drains for its partner with REQUEST on. -/
theorem test_airlock_example : leads (exec (.readyChange 4 .high) airlock) (fun t =>
    (t.gate 4).map GateRun.state == some .draining && (t.gate 5).map GateRun.callPending == some true &&
      (t.cell 640).holders == [31] && (t.cell 640).queue == [] && t.request 4 && !t.request 5) = true := by
  decide +kernel

/-! ## A ring (Section 8.6) -/

/-- Carrier 14 waits on 22 and carrier 8 on 14. -/
def ring : State :=
  let cells := [(1, plainCell .track none none), (2, plainCell .track none none), (3, plainCell .track none none)]
  let s := part .active { cells := cells, corridors := [], gates := [], classes := [(0, classA)] }
  let s := { s with setting := { s.setting with tick := 5010 } }
  let s := placed s 22 0 [1, 2]
  let s := withCtx (placed s 8 8 [2, 3]) 8 (waiting 3 5003 (some 14))
  let s := withCtx (placed s 14 16 [3, 1]) 14 (waiting 1 5000 (some 22))
  let s := withCell s 3 { s.cell 3 with queue := [waiter 8 2 1 .capacity] }
  let s := withCell s 1 { s.cell 1 with queue := [waiter 14 2 1 .capacity] }
  { s with records := { s.records with seniority := [14, 8] } }

/-- Carrier 22's failure at a cell held by 8 closes the ring 22, 8, 14. -/
theorem test_ring_example : leads (exec (.ask 0 22 0 0 200 0) ring) (fun t =>
    t.records.deadlocks == [(0, { count := 3, members := [22, 8, 14], tick := 5010 })] &&
      t.records.marks == [(8, 0), (14, 0), (22, 0)] && t.records.flag .deadlock) = true := by decide +kernel

/-! ## Placing messages (Section 9.6) -/

/-- A message for a carrier. -/
def message (c speed : Nat) : Message := { carrier := c, payload := .auth 18 speed .none }

/-- A link whose queue is full of messages for other carriers. -/
def fullLink : Link :=
  { Link.reset with queue := (List.range 32).map (fun c => message c 90), transmitter := .sending (message 200 1) }

/-- A message for carrier 99 finds the queue full and is dropped; one for a carrier in the queue replaces its message. -/
theorem test_full_queue_example :
    ((fullLink.place (message 99 1)).1.drop = 1 ∧ (fullLink.place (message 99 1)).2 = true) ∧
    ((fullLink.place (message 31 1)).2 = false ∧ (fullLink.place (message 31 1)).1.queue.getLast? = some (message 31 1)) := by
  decide +kernel

/-! ## Other single steps -/

/-- ESTOP_N in ACTIVE halts the RUNNING carriers and raises ESTOP (R156). -/
theorem test_estop : leads (exec (.estopNLevelChange .low) airlock) (fun t =>
    t.setting.op == .allStop && (t.ctx 31).state == .halting && (t.ctx 86).stopCause == some .allStop &&
      t.records.flag .estop && (t.cell 640).queue == []) = true := by decide +kernel

/-- The two gates of a pair with READY active at both and waiters at both hand each other the door without end (log
entry 2): the one fault of the model, on the same step with a small bound. -/
theorem test_endless_pair :
    let s := { airlock with setting := { airlock.setting with ready := [(4, .high), (5, .high)] } }
    let s := withCell s 640 { s.cell 640 with closed := true }
    let s := withCell s 641 { s.cell 641 with closed := true }
    (settle 2000 s.setting (readyRun s.setting s.run 4)).isNone = true := by decide +kernel

/-! ## Witnesses: what a statement assumes is met by a concrete part -/

/-- What a part reads for a carrier where one carrier alone is listed. -/
theorem ctx_single (s : State) (c : Nat) (k : Context) (h : s.records.carriers = [(c, k)]) (d : Nat) :
    s.ctx d = if c = d then k else Context.vacant := by
  simp only [State.ctx, Table.at, h, Table.find]
  split <;> rfl

/-- The part of Section 5.9's track with one carrier, 60. -/
def solo (op : OpState) (k : Context) : State := enter (part op street) 60 k

/-- A carrier at rest on 801 with a route attached. -/
def resting (state : CarrierState) (routeAddr : Option Address) : Context :=
  { Context.vacant with
    state := state, homeLink := some 0, routeAddr := routeAddr, frontCell := 801, requested := 200, allowance := 5
    held := [{ cell := 801, step := none, distance := 1000 }] }

/-- A RUNNING carrier on the only step of its route. -/
def oneStep : State := laid (solo .active (runner [801] 0)) 0 [801]

/-- A STOPPED carrier on the only step of its route. -/
def stoppedBy (op : OpState) (cause : StopCause) : State :=
  laid (solo op { runner [801] 0 with state := .stopped, stopCause := some cause }) 0 [801]

theorem oneStep_claimsNothing : oneStep.claimsNothing 60 := by
  unfold State.claimsNothing; decide +kernel

theorem witness_StepTakesFront :
    { State.reset with pending := [Instr.tick, .readStatus] }.pending = .tick :: [.readStatus] ∧
      State.reset.pending = [] := by decide +kernel

theorem witness_QueueUntouched : exec .tick oneStep = .next oneStep.ticked := rfl

theorem witness_LinkQueuesKept : ∃ s t : State, s.linkQueuesBounded ∧ step s = .next t ∧ (s.link 0).queue ≠ [] := by
  let s : State := { State.reset with
    pending := [.tick], records := { Records.reset with links := [(0, fullLink)] } }
  refine ⟨s, _, ?_, rfl, by decide +kernel⟩
  intro l
  have h : s.link l = if 0 = l then fullLink else Link.reset := by
    simp only [State.link, Table.at, s, Table.find]
    split <;> rfl
  rw [h]
  split
  · decide +kernel
  · decide +kernel

theorem witness_CorridorAndGateLawsKept : ∃ s t : State, s.fifthLaw ∧ step s = .next t ∧ s.run.gateActive 4 = true := by
  refine ⟨{ airlock with pending := [.tick] }, _, ⟨by decide +kernel, ?_⟩, rfl, by decide +kernel⟩
  intro g p _ h
  have gates : ∀ n, ({ airlock with pending := [.tick] } : State).run.gateActive n = true → n = 4 := by
    intro n hn
    by_cases h4 : n = 4
    · exact h4
    · by_cases h5 : n = 5
      · subst h5; exact absurd hn (by decide +kernel)
      · have : ({ airlock with pending := [.tick] } : State).run.gateActive n = false := by
          have hr : airlock.records.gates =
              [(4, { state := .calling, callPending := false, timer := some 1500, due := false }),
               (5, { GateRun.shut with callPending := true })] := by decide +kernel
          simp only [Run.gateActive, Run.gateState, Run.gate, State.run, Run.start, hr, Table.find]
          rw [if_neg (Ne.symm h4), if_neg (Ne.symm h5)]
          rfl
        rw [this] at hn
        exact absurd hn (by decide)
  have hg := gates g h.1
  have hp := gates p h.2
  subst hg; subst hp
  rename_i hpart
  exact absurd hpart (by decide +kernel)

theorem witness_FirstLawKept :
    ∃ s t : State, s.holdingsSound ∧ step s = .next t ∧ (s.cell 801).holders = [60] := by
  let s : State := { oneStep with pending := [.tick] }
  have hctx : ∀ c, s.ctx c = if 60 = c then runner [801] 0 else Context.vacant := ctx_single s 60 _ rfl
  have hcells : s.records.cells =
      [(701, CellRun.free), (702, CellRun.free), (703, CellRun.free), (704, CellRun.free), (705, CellRun.free),
        (801, { CellRun.free with holders := [60] })] := by decide +kernel
  have all : ∀ p ∈ s.records.cells, p.2.holders.length ≤ s.setting.map.capacity p.1 ∧ p.2.holders.Nodup ∧
      (p.2.reservedFor.isSome → p.2.holders = []) := by decide +kernel
  refine ⟨s, _, ⟨fun x r h => all _ (mem_of_find h), ?_, ?_, ?_, ⟨?_, ?_⟩, fun _ x _ => ?_⟩, rfl,
    by decide +kernel⟩
  · intro x c
    have hold : c ∈ (s.cell x).holders ↔ x = 801 ∧ c = 60 := by
      simp only [State.cell, Table.at, hcells, Table.find]
      clear hcells all hctx
      split_ifs <;> simp [CellRun.free] <;> omega
    rw [hold, hctx]
    by_cases hc : 60 = c
    · subst hc
      simp only [Context.holds, runner, if_pos, and_true]
      simp
      exact eq_comm
    · rw [if_neg hc]
      simp [Context.holds, Context.vacant, Ne.symm hc]
  · intro c
    rw [hctx]
    split <;> decide
  · intro c
    rw [hctx]
    split
    · intro h; exact absurd h (by decide)
    · intro _; rfl
  · intro c
    rw [hctx]
    split <;> decide +kernel
  · intro c hc
    rw [hctx, if_neg (by simp only [Config.carriers] at hc; omega)]
    rfl
  · exact at_all (d := CellRun.free) (P := fun r => r.reservedFor = none) rfl
      (by decide +kernel : ∀ p ∈ s.records.cells, _) x

/-- Carrier 60 waits for the closed junction 704 for the third time, and has 705 reserved. -/
def reserver : State :=
  let s := laid (solo .active (waiting 704 0 none { runner [703, 704, 705] 0 with passOver := 3 })) 0 [703, 704, 705]
  let s := withCell s 704 { CellRun.free with closed := true, queue := [waiter 60 2 1 .closed] }
  let s := withCell s 705 { CellRun.free with reservedFor := some 60 }
  { s with records := { s.records with reservations := [(60, [(705, 2)])], seniority := [60] }, pending := [.tick] }

theorem witness_SecondLawKept :
    ∃ t, reserver.secondLaw ∧ step reserver = .next t ∧ (reserver.cell 705).reservedFor = some 60 := by
  have hcells : reserver.records.cells.map (fun p => (p.1, p.2.reservedFor)) =
      [(701, none), (702, none), (703, none), (704, none), (705, some 60), (801, none)] := by decide +kernel
  have hfor : ∀ x, (reserver.cell x).reservedFor = if 705 = x then some 60 else none := by
    intro x
    by_cases h : 705 = x
    · subst h; decide +kernel
    · rw [if_neg h]
      exact at_all_but (d := CellRun.free) (P := fun r => r.reservedFor = none) rfl
        (by decide +kernel : ∀ p ∈ reserver.records.cells, p.1 ≠ 705 → _) (Ne.symm h)
  have hlist : ∀ c, reserver.reservations c = if 60 = c then [(705, 2)] else [] := by
    intro c
    simp only [State.reservations, reserver, Table.at, Table.find]
    split <;> rfl
  refine ⟨_, ⟨?_, ?_, ?_⟩, rfl, by decide +kernel⟩
  · intro x c
    rw [hfor, hlist]
    by_cases hx : 705 = x <;> by_cases hc : 60 = c <;> simp [hx, hc]
    · exact fun h => hx h.symm
  · intro c
    rw [hlist]
    split <;> decide
  · intro c h
    rw [hlist] at h
    by_cases hc : 60 = c
    · subst hc
      unfold Context.runsLive
      decide +kernel
    · rw [if_neg hc] at h
      exact absurd rfl h

theorem witness_WaitsSoundKept :
    ∃ t, reserver.canonical = true ∧ reserver.waitsSound ∧ step reserver = .next t ∧ (reserver.cell 704).queue ≠ [] := by
  refine ⟨_, by decide +kernel, ⟨by decide +kernel, fun x => ?_⟩, rfl, by decide +kernel⟩
  by_cases h : 704 = x
  · subst h
    unfold Context.runsLive
    decide +kernel
  · have empty : (reserver.cell x).queue = [] :=
      at_all_but (d := CellRun.free) (P := fun r => r.queue = []) rfl
        (by decide +kernel : ∀ p ∈ reserver.records.cells, p.1 ≠ 704 → _) (Ne.symm h)
    rw [empty]
    simp

/-- Each case of the corridor unit at a corridor with ends 501 and 504, and of the lane that closes up. -/
theorem witness_CorridorUnitActs :
    let r := aisle.corridor 5
    (r.occupants.filter (· != 11) = [] ∧ r.direction = .ab ∧ r.turnRequested = true) ∧
    (let q := { r with turnRequested := false, turnCarrier := none, direction := .ba }
     q.direction ≠ .free ∧ q.turnRequested = false ∧ q.turnCarrier = none ∧ q.occupants.filter (· != 12) ≠ []) ∧
    (let q := { r with turnRequested := false, occupants := [] }
     q.direction ≠ .free ∧ q.turnRequested = false ∧ q.turnCarrier ≠ none ∧ q.occupants = []) := by decide +kernel

theorem witness_LaneClosesUp :
    (lane.run.cell 415).holders.Nodup ∧ (lane.run.cell 415).holders[1]? = some 33 ∧
    (lane.run.ctx 33).waitsInLane 415 = true ∧ 60 ∉ (lane.run.cell 415).holders := by decide +kernel

theorem witness_FourthLaw : ∃ s t : State, s.fourthLaw ∧ step s = .next t ∧ s.records.corridors ≠ [] := by
  refine ⟨{ aisle with pending := [.tick] }, _, ?_, rfl, by decide +kernel⟩
  intro k r h hd
  have hc : aisle.records.corridors =
      [(5, { direction := .ab, occupants := [11], turnRequested := true, turnCarrier := some 20 })] := by decide +kernel
  simp only [hc, Table.find] at h
  split at h
  · cases h; cases hd
  · cases h

theorem witness_EngineQueueKept :
    ∃ s t : State, s.engineQueueBounded ∧ step s = .next t ∧ s.records.engine.fetching ≠ [] := by
  let s : State := { withEngine (solo .active (resting .attached (some 4096)))
    { Engine.reset with queue := [.fetch 60 true] } with pending := [.tick] }
  refine ⟨s, _, ⟨by decide +kernel, by decide +kernel, ?_, by decide +kernel, by decide +kernel⟩, rfl,
    by decide +kernel⟩
  intro c
  rw [ctx_single s 60 (resting .attached (some 4096)) rfl]
  split <;> rfl

theorem witness_WindowsSoundKept :
    ∃ s t : State, s.windowsSound ∧ step s = .next t ∧ s.records.engine.inFlight.isSome = true := by
  let k : Context := { resting .attached (some 4096) with windowBase := 4064, windowSize := 32 }
  let f : ReadInFlight := { carrier := 60, generation := 0, number := 1, first := true, length := 64, received := [] }
  let s : State :=
    { withEngine (solo .active k) { Engine.reset with inFlight := some f } with pending := [.tick] }
  have hctx : ∀ c, s.ctx c = if 60 = c then k else Context.vacant := ctx_single s 60 k rfl
  refine ⟨s, _, ⟨?_, ?_, ?_⟩, rfl, rfl⟩
  · intro c
    rw [hctx]
    split <;> decide +kernel
  · intro c d _ _ hne hc hd
    rw [hctx] at hc hd
    split at hc
    · split at hd
      · omega
      · exact absurd rfl hd
    · exact absurd rfl hc
  · intro r hr
    cases hr
    decide +kernel

theorem witness_CarrierStatesKept :
    ∃ s t : State, s.statesAllowed ∧ step s = .next t ∧ (s.ctx 60).state = .stopped := by
  let s : State := { stoppedBy .allStop .allStop with pending := [.tick] }
  have h : ∀ c, s.ctx c = if 60 = c then s.ctx 60 else Context.vacant :=
    ctx_single s 60 _ rfl
  refine ⟨s, _, ⟨?_, ?_⟩, rfl, by decide +kernel⟩
  · intro c
    rw [h]
    split <;> decide +kernel
  · intro c hc
    rw [h, if_neg (by simp only [Config.carriers] at hc; omega)]
    rfl

theorem witness_CanonicalKept : airlock.canonical = true ∧ step { airlock with pending := [.tick] } =
    .next { airlock.ticked with pending := [] } := ⟨by decide +kernel, rfl⟩

theorem witness_FramesAndCommandsAgree : ∃ bytes, (Instr.mapCorridor 63 [2047, 1]).wellFormed = true ∧
    encodeTransfer (.mapCorridor 63 [2047, 1]) = some bytes := ⟨_, by decide, rfl⟩

theorem witness_MapBeginOpens :
    (State.reset.inService ∧ State.reset.setting.op = .unconfigured) ∧
    ((loading none).inService ∧ (loading none).setting.op = .loading) ∧
    ((part .standby street).setting.op = .standby ∧ ∀ c, ((part .standby street).ctx c).state = .vacant) ∧
    (let s := enter (part .standby street) 255 (resting .idle none)
     s.setting.op = .standby ∧ ∃ c, c < Config.carriers ∧ (s.ctx c).state ≠ .vacant) ∧
    airlock.setting.op = .active ∧ (stoppedBy .allStop .allStop).setting.op = .allStop :=
  ⟨by unfold State.inService; decide, by unfold State.inService; decide, ⟨rfl, fun _ => rfl⟩,
    ⟨rfl, 255, by decide, by decide +kernel⟩, rfl, rfl⟩

theorem witness_MapCellDefines :
    State.reset.setting.op ≠ .loading ∧ (loading none).setting.op = .loading ∧
    CellFieldsInRange 2047 3 20000 255 [1, 2, 0, 2046] 0 0 0 15 ∧ CellFieldsInRange 1 2 200 1 [0, 0, 2, 0] 8 3 0 255 ∧
    ¬CellFieldsInRange 1 2 200 1 [2, 0, 2, 0] 8 3 0 255 := by
  have ports : ∀ (cell a b c d : Half), (a ≠ 0 → a.toNat ≤ 2047 ∧ a ≠ cell) → (b ≠ 0 → b.toNat ≤ 2047 ∧ b ≠ cell) →
      (c ≠ 0 → c.toNat ≤ 2047 ∧ c ≠ cell) → (d ≠ 0 → d.toNat ≤ 2047 ∧ d ≠ cell) →
      ∀ p ∈ [a, b, c, d], p ≠ 0 → p.toNat ≤ 2047 ∧ p ≠ cell := by
    intro cell a b c d ha hb hc hd p hp
    simp only [List.mem_cons, List.not_mem_nil, or_false] at hp
    rcases hp with rfl | rfl | rfl | rfl
    · exact ha
    · exact hb
    · exact hc
    · exact hd
  refine ⟨by decide, rfl, ?_, ?_, fun h => absurd h.2.2.2.2.2.1 (by decide)⟩
  · exact ⟨by decide, by decide, by decide, by decide, ports _ _ _ _ _ (by decide) (by decide) (by decide) (by decide),
      by decide, by decide, by decide⟩
  · exact ⟨by decide, by decide, by decide, by decide, ports _ _ _ _ _ (by decide) (by decide) (by decide) (by decide),
      by decide, by decide, by decide⟩

theorem witness_MapCorridorDefines :
    (63 : Byte).toNat ≤ 63 ∧ (2 ≤ (List.replicate 32 (2047 : Half)).length ∧ (List.replicate 32 (2047 : Half)).length ≤ 32) ∧
    (∀ x ∈ List.replicate 32 (2047 : Half), 1 ≤ x.toNat ∧ x.toNat ≤ 2047) ∧ ¬(2 ≤ [(1 : Half)].length) := by
  refine ⟨by decide, by decide, fun x hx => ?_, by decide⟩
  rw [List.eq_of_mem_replicate hx]
  decide

theorem witness_MapGateDefines :
    ((15 : Byte).toNat ≤ 15 ∧ (1 ≤ (2047 : Half).toNat ∧ (2047 : Half).toNat ≤ 2047) ∧ ((1 : Byte) = 0 ∨ (1 : Byte) = 1) ∧
      ((0 : Byte) = 0 ∨ (0 : Byte) = 1) ∧ (1 ≤ (6000 : Half).toNat ∧ (6000 : Half).toNat ≤ 6000) ∧
      (1000 : Half).toNat ≤ 1000 ∧ ¬((15 : Byte).toNat % 2 = 1 ∧ (0 : Byte) = 1)) ∧
    ((15 : Byte).toNat % 2 = 1 ∧ (1 : Byte) = 1) := by decide

theorem witness_MapClassDefines :
    ((7 : Byte).toNat ≤ 7 ∧ (100 ≤ (4000 : Half).toNat ∧ (4000 : Half).toNat ≤ 4000) ∧ (2000 : Half).toNat ≤ 2000 ∧
      10 ≤ (10 : Byte).toNat ∧ (1 ≤ (16 : Byte).toNat ∧ (16 : Byte).toNat ≤ 16) ∧ (3 : Byte).toNat ≤ 3 ∧
      (1 ≤ (15 : Byte).toNat ∧ (15 : Byte).toNat ≤ 15) ∧ (5 ≤ (500 : Half).toNat ∧ (500 : Half).toNat ≤ 500) ∧
      (10 ≤ (501 : Half).toNat ∧ (501 : Half).toNat ≤ 6000) ∧ (500 : Half).toNat < (501 : Half).toNat) ∧
    ¬(500 : Half).toNat < (500 : Half).toNat := by decide

theorem witness_MapEndCompletes :
    (loading none).inService ∧ (∃ r, mapFailure (loading none).setting.map = some r) ∧
    mapFailure (loading (some 4)).setting.map = none :=
  ⟨rfl, Option.isSome_iff_exists.mp (by decide +kernel), by decide +kernel⟩

theorem witness_PassedMapIsSound : let m := shortBuffer (some 4)
    (Table.wf m.cells = true ∧ Table.wf m.corridors = true ∧ Table.wf m.gates = true) ∧
    (∀ p ∈ m.cells, p.2.ports.length = 4) ∧ mapFailure m = none := by decide +kernel

theorem witness_PassedMapIsSound_reports : let m := shortBuffer none
    (Table.wf m.cells = true ∧ Table.wf m.corridors = true ∧ Table.wf m.gates = true) ∧
    (∀ p ∈ m.cells, p.2.ports.length = 4) ∧ (mapFailure m).isSome = true := by decide +kernel

theorem witness_ActivateEnters :
    (part .standby street).inService ∧ (part .standby street).setting.op = .standby ∧
    (part .standby street).supervisor.estopLevel = .high ∧ State.reset.setting.op ≠ .standby := by
  unfold State.inService; decide +kernel

theorem witness_OpStateChanges : exec .activate (part .standby street) =
    .next (((part .standby street).enter .active).answered 1 0x07 .ok []) ∧
    ((part .standby street).enter .active).setting.op ≠ (part .standby street).setting.op := ⟨rfl, by decide +kernel⟩

theorem witness_EachRecordHasItsEvents : exec .tick oneStep = .next oneStep.ticked ∧
    oneStep.ticked.setting.tick ≠ oneStep.setting.tick := ⟨rfl, by decide +kernel⟩

theorem witness_AllStopHalts :
    oneStep.inService ∧ oneStep.setting.op = .active ∧
    (∀ c, c < Config.carriers → (oneStep.ctx c).state = .running → oneStep.claimsNothing c) ∧
    (oneStep.ctx 60).state = .running ∧ (stoppedBy .allStop .allStop).setting.op = .allStop ∧
    State.reset.setting.op = .unconfigured := by
  refine ⟨rfl, rfl, ?_, by decide +kernel, rfl, rfl⟩
  intro c _ h
  rw [ctx_single oneStep 60 (runner [801] 0) rfl] at h
  by_cases hc : 60 = c
  · subst hc
    exact oneStep_claimsNothing
  · rw [if_neg hc] at h
    exact absurd h (by decide)

theorem witness_ResumeAllResumes : let s := stoppedBy .allStop .allStop
    s.setting.op = .allStop ∧ s.supervisor.estopLevel = .high ∧ (s.ctx 60).state = .stopped ∧
    (s.ctx 60).contact = .live ∧ (∀ c, c < Config.carriers → (s.ctx c).state = .stopped →
      (s.ctx c).stopCause = some .allStop → s.claimsNothing c ∧ ((s.ctx c).contact = .live →
        ∃ r, r ≠ .order ∧ stopTest { s.setting with op := .active } (s.run.modCtx c resumedContext) c = some r)) := by
  refine ⟨rfl, rfl, by decide +kernel, by decide +kernel, ?_⟩
  intro c _ h _
  rw [ctx_single (stoppedBy .allStop .allStop) 60 _ rfl] at h
  by_cases hc : 60 = c
  · subst hc
    exact ⟨by unfold State.claimsNothing; decide +kernel, fun _ => ⟨.routeEnd, by decide, by decide +kernel⟩⟩
  · rw [if_neg hc] at h
    exact absurd h (by decide)

theorem witness_ResumeAllResumes_silent :
    let s := withCtx (stoppedBy .allStop .allStop) 60 (fun k => { k with contact := .silent })
    s.setting.op = .allStop ∧ Context.resumes (s.ctx 60) = true ∧ (s.ctx 60).contact ≠ .live ∧ s.claimsNothing 60 := by
  unfold State.claimsNothing; decide +kernel

theorem witness_RestartReturns : airlock.setting.op.loaded = true ∧ airlock.canonical = true ∧
    State.reset.setting.op.loaded = false := by decide +kernel

theorem witness_CellEditsAct :
    (airlock.setting.op.loaded = true ∧ airlock.cellDefined 640 = true ∧ airlock.cellDefined 0 = false ∧
      (airlock.cell 640).closed = false) ∧
    (let s := withCell airlock 653 { CellRun.free with closed := true }
     s.cellDefined 653 = true ∧ (s.cell 653).closed = true ∧ (s.cell 653).queue = []) ∧
    (let s := withCell airlock 640 { airlock.cell 640 with closed := true, countdown := 255 }
     (s.cell 640).closed = true ∧ (s.cell 640).countdown ≠ 0 ∧ (s.cell 640).queue ≠ []) := by decide +kernel

/-- Carrier 60 waits for 705, the next step of its route, with the record of 705 as given but for its queue. -/
def offered (r : CellRun) : State :=
  let s := laid (solo .active (waiting 705 0 none (runner [703, 705] 0))) 0 [703, 705]
  let s := withCell s 705 { r with queue := [waiter 60 2 1 .closed] }
  { s with records := { s.records with seniority := [60] } }

/-- The hypotheses of an offer that grants are met at 705 once its record has become free (R38, R39). -/
theorem offered_grants (r : CellRun) (h : r = { CellRun.free with closed := true } ∨
    r = { CellRun.free with countdown := 1, due := true }) :
    let s := offered r
    let v := s.run.setCell 705 CellRun.free
    s.setting.op = .active ∧ s.setting.map.gateOf 705 = none ∧ (s.ctx 60).runsLive ∧
    (s.ctx 60).wait = some { reason := .cell, cell := 705, since := 0, edge := none } ∧ v.queueOf 60 = none ∧
    grantTest s.setting v 60 705 1 = none ∧ stopTest s.setting v 60 = none ∧
    nextRun s.setting v 60 = some [(705, 1)] ∧ PlainRun s.setting v 60 [(705, 1)] ∧
    stopTest s.setting (grantedRun s.setting v 60 [(705, 1)]) 60 = some .routeEnd := by
  unfold Context.runsLive PlainRun
  rcases h with rfl | rfl <;> decide +kernel

theorem witness_CellEditsAct_offers :
    (let s := offered { CellRun.free with closed := true }
     s.cellDefined 705 = true ∧ (s.cell 705).closed = true ∧ (s.cell 705).countdown = 0 ∧
      { s.cell 705 with closed := false, queue := [] } = CellRun.free ∧ (s.cell 705).queue = [waiter 60 2 1 .closed]) ∧
    (let s := offered { CellRun.free with closed := true, holders := [61] }
     (s.cell 705).closed = true ∧ OffersNobody s 705 { s.cell 705 with closed := false }) := by
  refine ⟨by decide +kernel, by decide +kernel, Or.inr (Or.inr ⟨waiter 60 2 1 .closed, [], ?_⟩)⟩
  decide +kernel

theorem witness_SetLimitSets_lowered : oneStep.cellDefined 801 = true ∧ (10 : Byte) ≠ 0 ∧
    (10 : Byte).toNat < oneStep.setting.map.limitOf 801 ∧ (oneStep.cell 801).holders = [60] ∧
    (oneStep.ctx 60).state = .running ∧ (oneStep.ctx 60).blockReason.isSome = true ∧
    oneStep.cellDefined 800 = false := by decide +kernel

theorem witness_SetLimitSets : halting.inService ∧ halting.setting.op.loaded = true ∧
    halting.cellDefined 705 = true ∧ (255 : Byte) ≠ 0 ∧ halting.setting.map.limitOf 705 ≤ (255 : Byte).toNat := by
  unfold State.inService; decide +kernel

theorem witness_GateResetResets :
    (let s := withGate airlock 4 { GateRun.shut with state := .fault }
     let s := withGate s 5 GateRun.shut
     (∃ r b, (4 : Byte).toNat ≤ 15 ∧ s.gate 4 = some r ∧ r.state = .fault ∧ Table.find s.setting.map.gates 4 = some b) ∧
     partnerPending s.setting s.run 4 = false ∧ partnerActive s.setting s.run 4 = false ∧
     s.setting.readyActive 4 = false) ∧
    (∃ r, airlock.gate 5 = some r ∧ r.state ≠ .fault) ∧ airlock.gate 15 = none := by
  refine ⟨⟨⟨_, _, by decide, rfl, rfl, rfl⟩, by decide +kernel, by decide +kernel, by decide +kernel⟩, ⟨_, rfl, ?_⟩, rfl⟩
  decide

theorem witness_EnrolEnrols : let s := part .standby street
    s.inService ∧ s.setting.op = .standby ∧ (255 : Half).toNat ≤ 255 ∧ (1 ≤ (801 : Half).toNat ∧ (801 : Half).toNat ≤ 2047) ∧
    (4064 : Half).toNat % (32 : Byte).toNat = 0 ∧ (4064 : Half).toNat + (32 : Byte).toNat ≤ 4096 ∧
    (s.ctx 255).state = .vacant ∧ Table.find s.setting.map.classes 0 = some classA ∧
    s.setting.map.standing 801 = true ∧ s.setting.map.corridorOf 801 = none ∧
    enrolRoom s.setting.map 801 (s.cell 801) = true ∧ (s.cell 801).countdown = 0 ∧
    ∀ d, (s.ctx d).state ≠ .vacant → False :=
  ⟨rfl, rfl, by decide, by decide, by decide, by decide, rfl, by decide +kernel, by decide +kernel, by decide +kernel,
    by decide +kernel, by decide +kernel, fun _ h => h rfl⟩

theorem witness_CommandsRefuse :
    State.reset.setting.op.loaded = false ∧ (part .standby street).setting.op = .standby ∧ 255 < (256 : Half).toNat ∧
    (let s := solo .active (resting .idle none)
     s.setting.op = .active ∧ (s.ctx 60).state ≠ .vacant ∧
      ((60 : Half).toNat ≤ 255 ∧ (7 : Byte).toNat ≤ 7 ∧ (1 ≤ (2047 : Half).toNat ∧ (2047 : Half).toNat ≤ 2047) ∧
        (4080 : Half).toNat % (16 : Byte).toNat = 0 ∧ (4080 : Half).toNat + (16 : Byte).toNat ≤ 4096)) := by
  decide +kernel

theorem witness_CommandsRefuse_later : let s := oneStep
    ((s.ctx 61).state = .vacant ∧ Table.find s.setting.map.classes 7 = none) ∧
    ((Table.find s.setting.map.classes 0).isSome = true ∧ Table.find s.setting.map.cells 2047 = none ∧
      (Table.find s.setting.map.cells 704).map CellStatic.kind = some .junction) ∧
    (Table.find s.setting.map.cells 801 = some (plainCell .track none none) ∧ (s.cell 801).holders ≠ []) ∧
    ((s.ctx 60).state ≠ .vacant ∧ ¬((s.ctx 60).windowBase + (s.ctx 60).windowSize ≤ (0 : Half).toNat) ∧
      ¬((0 : Half).toNat + (8 : Byte).toNat ≤ (s.ctx 60).windowBase)) ∧
    ((s.ctx 61).state ≠ .attached ∧ (s.ctx 61).state ≠ .running) := by decide +kernel

theorem witness_AttachAttaches : let s := solo .active (resting .idle none)
    s.setting.op = .active ∧ (s.ctx 60).state = .idle ∧ s.records.engine.writeBackQueued 60 = false ∧
    (0x08040FD0 : Address).toNat % 16 = 0 ∧ (8 : Address).toNat % 16 ≠ 0 := by decide +kernel

theorem witness_DetachEndsRoute : let s := solo .allStop (resting .attached (some 4096))
    s.setting.op = .allStop ∧ (s.ctx 60).state = .attached ∧ (s.ctx 60).routeAddr = some 4096 ∧
    (∀ h ∈ (s.ctx 60).held, h.step = none) ∧ (s.ctx 60).wait = none := by decide +kernel

theorem witness_StopAndDetachHalt : oneStep.setting.op = .active ∧ (oneStep.ctx 60).state = .running ∧
    oneStep.claimsNothing 60 ∧ (oneStep.ctx 61).state ≠ .running :=
  ⟨rfl, by decide +kernel, oneStep_claimsNothing, by decide +kernel⟩

theorem witness_RecoverRecovers : let s := stoppedBy .active .supervisor
    let k := recoveredContext s.setting.map (s.ctx 60)
    s.setting.op = .active ∧ (s.ctx 60).state = .stopped ∧ s.claimsNothing 60 ∧
    (∀ h ∈ (s.ctx 60).held, h.outside (s.ctx 60).rear (s.ctx 60).front = false) ∧
    stopTest s.setting (s.run.modCtx 60 (fun _ => k)) 60 = some .routeEnd ∧
    (oneStep.ctx 60).state ≠ .stopped := by
  refine ⟨rfl, by decide +kernel, by unfold State.claimsNothing; decide +kernel, by decide +kernel, by decide +kernel,
    by decide +kernel⟩

theorem witness_RetireRemoves :
    oneStep.setting.op.loaded = true ∧ (oneStep.ctx 60).state ≠ .vacant ∧ oneStep.claimsNothing 60 ∧
    (oneStep.ctx 60).held = [{ cell := 801, step := some 0, distance := 1000 }] ∧
    Table.find oneStep.setting.map.cells 801 = some (plainCell .track none none) ∧
    (oneStep.cell 801).queue = [] ∧ (oneStep.cell 801).holders = [60] ∧ (oneStep.ctx 255).state = .vacant :=
  ⟨rfl, by decide +kernel, oneStep_claimsNothing, by decide +kernel, by decide +kernel, by decide +kernel,
    by decide +kernel, by decide +kernel⟩

theorem witness_AlertCommandsAct : (loading none).inService := rfl

theorem witness_QueriesAnswer : let s := loading none
    let q := airlock
    s.inService ∧ s.setting.op ≠ .unconfigured ∧ (Table.find s.setting.map.cells 7).isSome = true ∧
    (Table.find s.setting.map.corridors 0).isSome = true ∧ (Table.find q.setting.map.gates 5).isSome = true ∧
    q.setting.op.loaded = true ∧ (255 : Half).toNat ≤ 255 ∧ (7 : Byte).toNat ≤ 7 ∧ (3 : Byte).toNat ≤ 3 ∧
    State.reset.setting.op = .unconfigured ∧ 2047 < (2048 : Half).toNat ∧ 63 < (64 : Byte).toNat ∧
    Table.find s.setting.map.gates 15 = none := by unfold State.inService; decide +kernel

theorem witness_TransfersAnswer : airlock.inService ∧ (0x1E : Byte) ≠ 0 := ⟨rfl, by decide⟩

theorem witness_CommandsAreAnswered : ∃ rest t, encodeTransfer (.closeCell 705) = some (0x0B :: rest) ∧
    exec (.closeCell 705) State.reset = .next t := ⟨_, _, rfl, rfl⟩

theorem witness_EstopActs :
    { State.reset with pins := { State.reset.pins with estopN := .low } }.pins.estopN = .low ∧
    State.reset.pins.estopN = .high ∧ State.reset.setting.op ≠ .active ∧ oneStep.pins.estopN = .high ∧
    oneStep.setting.op = .active := by decide +kernel

theorem witness_HardResetClears : ∃ s : State, s.pins.resetN = .low ∧ ¬isPinEvent .tick ∧ s.setting.op = .unconfigured :=
  ⟨{ State.reset with pins := { State.reset.pins with resetN := .low } }, rfl,
    by unfold isPinEvent isReset; simp, rfl⟩

theorem witness_TickCounts : airlock.inService ∧ (airlock.gate 4).bind GateRun.timer = some 1500 :=
  ⟨rfl, by decide +kernel⟩

theorem witness_ClearanceExpires :
    let s := withCell airlock 653 { CellRun.free with countdown := 1, due := true }
    let q := withCell airlock 640 { airlock.cell 640 with countdown := 1, due := true, closed := true }
    (s.cell 653).due = true ∧ (s.cell 653).queue = [] ∧ (q.cell 640).due = true ∧ (q.cell 640).closed = true := by
  decide +kernel

theorem witness_ClearanceExpires_offers :
    (let s := offered { CellRun.free with countdown := 1, due := true }
     (s.cell 705).due = true ∧ (s.cell 705).closed = false ∧
      { s.cell 705 with countdown := 0, due := false, queue := [] } = CellRun.free) ∧
    (let s := offered { CellRun.free with countdown := 1, due := true, holders := [61] }
     (s.cell 705).due = true ∧ OffersNobody s 705 { s.cell 705 with countdown := 0, due := false }) := by
  refine ⟨by decide +kernel, by decide +kernel, Or.inr (Or.inr ⟨waiter 60 2 1 .closed, [], ?_⟩)⟩
  decide +kernel

theorem witness_ContactLimitsAct :
    let s := withCtx oneStep 60 (fun k => { k with silence := 5 })
    let q := withCtx oneStep 60 (fun k => { k with silence := 10, contact := .silent })
    let h := withCtx halting 60 (fun k => { k with silence := 10 })
    let a := solo .active { resting .attached (some 4096) with silence := 10 }
    ((s.ctx 60).contact = .live ∧ (s.setting.map.classOf (s.ctx 60)).silence ≤ (s.ctx 60).silence ∧
      (s.ctx 60).state = .running ∧ s.claimsNothing 60) ∧
    ((q.ctx 60).contact ≠ .lost ∧ (q.setting.map.classOf (q.ctx 60)).lost ≤ (q.ctx 60).silence ∧
      (q.ctx 60).state = .running ∧ q.claimsNothing 60) ∧
    ((h.setting.map.classOf (h.ctx 60)).lost ≤ (h.ctx 60).silence ∧ (h.ctx 60).state = .halting) ∧
    (a.setting.map.classOf (a.ctx 60)).lost ≤ (a.ctx 60).silence ∧ (a.ctx 60).state = .attached := by
  unfold State.claimsNothing; decide +kernel

theorem witness_GateTimersExpire :
    let open4 : GateRun := { state := .opened, callPending := false, timer := some 1, due := true }
    let c := withGate (withGate airlock 4 { open4 with state := .calling }) 5 GateRun.shut
    let idle := withCell (withCell airlock 640 CellRun.free) 641 CellRun.free
    let o := withGate (withGate idle 4 open4) 5 GateRun.shut
    let p := withGate idle 4 open4
    ((c.gate 4) = some { open4 with state := .calling } ∧ portalHeld c.setting c.run 4 = false ∧
      partnerPending c.setting c.run 4 = false) ∧
    (o.gate 4 = some open4 ∧ portalIdle o.setting o.run 4 = true ∧ partnerPending o.setting o.run 4 = false) ∧
    (p.gate 4 = some open4 ∧ portalIdle p.setting p.run 4 = true ∧ p.setting.map.partner 4 = some 5 ∧
      p.gate 5 = some { GateRun.shut with callPending := true } ∧
      (Table.find p.setting.map.gates 5).isSome = true ∧ p.setting.readyActive 5 = false) := by decide +kernel

theorem witness_ReadyActs :
    let idle := withGate (withCell airlock 640 CellRun.free) 5 GateRun.shut
    let o := withGate idle 4 { state := .opened, callPending := false, timer := some 7, due := false }
    let o := { o with setting := { o.setting with ready := [(4, .high)] } }
    (Table.at idle.setting.ready .low 4 ≠ .high ∧
      (∃ r b, idle.gate 4 = some r ∧ Table.find idle.setting.map.gates 4 = some b ∧ r.state = .calling ∧
        .high = b.polarity ∧ b.holdOpen ≠ 0) ∧
      portalIdle idle.setting idle.run 4 = true ∧ partnerPending idle.setting idle.run 4 = false) ∧
    (Table.at o.setting.ready .low 4 ≠ .low ∧
      (∃ r b, o.gate 4 = some r ∧ Table.find o.setting.map.gates 4 = some b ∧ r.state = .opened ∧ .low ≠ b.polarity) ∧
      portalHeld o.setting o.run 4 = false ∧ partnerPending o.setting o.run 4 = false) ∧
    (Table.at idle.setting.ready .low 15 ≠ .high ∧ idle.gate 15 = none) := by
  refine ⟨⟨by decide +kernel, ⟨_, _, rfl, rfl, rfl, rfl, by decide⟩, by decide +kernel, by decide +kernel⟩,
    ⟨by decide +kernel, ⟨_, _, rfl, rfl, rfl, by decide⟩, by decide +kernel, by decide +kernel⟩, by decide +kernel, rfl⟩

/-- Carrier 31 RUNNING in the portal of gate 4, whose record is as given; its partner is SHUT. -/
def inPortal (g : GateRun) (ready : Table Level) : State :=
  let s := { airlock with
    setting := { airlock.setting with ready := ready }, records := Records.loaded airlock.setting.map Records.reset }
  withGate (placed s 31 0 [640, 651]) 4 g

theorem witness_GateTimersExpire_halts :
    let r : GateRun := { state := .calling, callPending := false, timer := some 1, due := true }
    let s := inPortal r []
    s.gate 4 = some r ∧ s.setting.map.portalOf 4 = some 640 ∧ (s.cell 640).holders = [31] ∧
    (s.ctx 31).state = .running ∧ s.claimsNothing 31 ∧ partnerPending s.setting s.run 4 = false := by
  unfold State.claimsNothing; decide +kernel

theorem witness_ReadyActs_busy :
    let r : GateRun := { state := .calling, callPending := false, timer := some 7, due := false }
    let s := inPortal r []
    let q := inPortal { r with state := .opened, timer := none } [(4, .high)]
    (Table.at s.setting.ready .low 4 ≠ .high ∧ s.gate 4 = some r ∧
      (Table.find s.setting.map.gates 4).map (fun b => (b.portal, b.polarity)) = some (640, .high) ∧
      (s.cell 640).holders ≠ [] ∧ (s.cell 640).queue = [] ∧ partnerPending s.setting s.run 4 = false) ∧
    (Table.at q.setting.ready .low 4 ≠ .low ∧ (q.gate 4).map GateRun.state = some .opened ∧
      (q.cell 640).holders = [31] ∧ (q.ctx 31).state = .running ∧ q.claimsNothing 31 ∧
      partnerPending q.setting q.run 4 = false) := by
  unfold State.claimsNothing; decide +kernel

/-- Gate 4 opens over carrier 31, which waits for portal 640 while its clearance countdown runs (log entry 31). -/
theorem witness_ReadyActs_awaited :
    let s := withGate (withCell airlock 640 { airlock.cell 640 with countdown := 7 }) 5 GateRun.shut
    let r : GateRun := { state := .calling, callPending := false, timer := some 1500, due := false }
    let open_ := s.run.modGate 4 (fun _ => { r with state := .opened, timer := none })
    (Table.at s.setting.ready .low 4 ≠ .high ∧ s.gate 4 = some r ∧
      (Table.find s.setting.map.gates 4).map (fun b => (b.portal, b.polarity)) = some (640, .high)) ∧
    (s.cell 640).queue = [waiter 31 2 1 .gate] ∧ s.setting.op = .active ∧
    grantTest s.setting open_ 31 640 1 = some (.clearance, none) ∧ partnerPending s.setting s.run 4 = false ∧
    leads (exec (.readyChange 4 .high) s) (fun t =>
      t.gate 4 == some { r with state := .opened, timer := none }) = true := by
  decide +kernel

/-- Carrier 60 asks for portal 640, which carrier 31 still holds at gate 4. -/
def refusedAtDoor (state : GateState) : State :=
  placed (inPortal { GateRun.shut with state := state } [(4, .high)]) 60 16 [650, 640, 651]

theorem witness_AskAttempts_failsAtDoor :
    let s := refusedAtDoor .draining
    let k' := { heardContext (s.ctx 60) 0 with requested := 200, lastSpeed := 0, holdLifted := false }
    let w := heardRun s 0 60 k'
    let run := [] ++ (640, 1) :: [(651, 2)]
    s.claimsNothing 60 ∧ (s.ctx 60).state = .running ∧ (s.ctx 60).cutPoint = none ∧
    stopTest s.setting w 60 = none ∧ nextRun s.setting w 60 = some run ∧ (run.map Prod.fst).Nodup ∧
    grantTest s.setting w 60 640 1 = some (.capacity, some 31) ∧
    run.filter (fun p => p.1 != 640 && (grantTest s.setting w 60 p.1 p.2).isNone) = [(651, 2)] ∧
    min 3 ((w.ctx 60).passOver + 1) < 3 ∧ s.setting.map.gateOf 640 = some 4 ∧
    (s.gate 4).map GateRun.state = some .draining ∧ ((refusedAtDoor .fault).gate 4).map GateRun.state = some .fault ∧
    (w.cell 640).queue = [] := by
  unfold State.claimsNothing; decide +kernel

/-- Each way of taking the call: CALLING, FAULT, DRAINING, OPEN, and SHUT without and with an active partner. -/
theorem witness_AskAttempts_takesCall :
    let record := fun (g : GateState) => { GateRun.shut with state := g }
    let shut := inPortal GateRun.shut []
    let waits := withGate (refusedAtDoor .shut) 5 { record .calling with timer := some 9 }
    (∀ g ∈ [GateState.calling, .fault], GateTakesCall (refusedAtDoor g) 4 (record g) True (record g)) ∧
    GateTakesCall (refusedAtDoor .draining) 4 (record .draining) True { record .draining with callPending := true } ∧
    GateTakesCall (refusedAtDoor .opened) 4 { record .opened with timer := some 3 } True (record .opened) ∧
    GateTakesCall (refusedAtDoor .opened) 4 { record .opened with timer := some 3 } False
      { record .opened with timer := some 3 } ∧
    GateTakesCall shut 4 GateRun.shut True { record .calling with timer := some 1500 } ∧
    GateTakesCall waits 4 GateRun.shut True { GateRun.shut with callPending := true } := by
  refine ⟨?_, .inr (.inl ⟨rfl, rfl⟩), .inr (.inr (.inl ⟨rfl, trivial, rfl⟩)), .inr (.inr (.inr (.inl ⟨rfl, id, rfl⟩))),
    .inr (.inr (.inr (.inr (.inl ⟨rfl, by decide +kernel, by decide +kernel, _, rfl, rfl⟩)))),
    .inr (.inr (.inr (.inr (.inr ⟨rfl, rfl, 5, _, by decide +kernel, rfl, .inl rfl⟩))))⟩
  intro g hg
  rcases List.mem_cons.mp hg with rfl | hg
  · exact .inl ⟨.inl rfl, rfl⟩
  · rw [List.mem_singleton.mp hg]
    exact .inl ⟨.inr rfl, rfl⟩

/-- Worked sequence 12.3, carrier 71: a run that fails at the held portal of a DRAINING gate has cause GATE (R127). -/
theorem test_draining_portal : leads (exec (.ask 0 60 0 0 200 0) (refusedAtDoor .draining)) (fun t =>
    (t.cell 640).queue.map (fun w => (w.carrier, w.cause)) == [(60, .gate)] &&
      (t.ctx 60).wait.bind WaitRec.edge == none && (t.gate 4).map GateRun.callPending == some true) = true := by
  decide +kernel

/-- A read in flight for a carrier. -/
def readFor (c : Nat) (first : Bool) (length : Nat) : ReadInFlight :=
  { carrier := c, generation := 0, number := 1, first := first, length := length, received := [] }

/-- The engine with a read in flight. -/
def reading (f : ReadInFlight) (due : Bool) : Engine :=
  { Engine.reset with inFlight := some f, timer := some 1, due := due, readNumber := 1 }

theorem witness_PortEventsAct :
    State.reset.records.engine.inFlight = none ∧
    (let s := withEngine State.reset (reading (readFor 60 true 24) false)
     s.records.engine.inFlight = some (readFor 60 true 24) ∧ s.records.engine.perst = false ∧
      (s.ctx (readFor 60 true 24).carrier).state = .vacant ∧ (readFor 60 true 24).number = 1 ∧
      (readFor 60 true 24).received.length + (List.replicate 23 (0 : Byte)).length < (readFor 60 true 24).length) := by
  decide +kernel

theorem witness_FailedReadEndsRoute :
    let f := readFor 60 true 24
    let s := withEngine (solo .active (resting .attached (some 4096))) (reading f true)
    (s.records.engine.inFlight = some f ∧ s.records.engine.perst = false ∧ s.records.engine.due = true ∧
      (s.ctx 60).state = .attached ∧ (s.ctx 60).generation = f.generation ∧ (s.ctx 60).routeAddr = some 4096 ∧
      (s.ctx 60).nextStep = 0 ∧ (s.ctx 60).wait = none ∧ ∀ h ∈ (s.ctx 60).held, h.step = none) ∧
    (f.first = true ∧ f.length ≤ f.received.length + (List.replicate 24 (0 : Byte)).length ∧
      field ((f.received ++ List.replicate 24 (0 : Byte)).take f.length) 0 2 ≠ 0x5A31) := by decide +kernel

/-- The header and the one step record of a route of one step on 801. -/
def onePage : List Byte :=
  [0x31, 0x5A, 1, 0, 0x10, 0x2A, 0, 0, 0, 0, 0, 0, 0, 0, 0, 0, 0x21, 0x03, 1, 0, 0, 0, 0, 0]

theorem witness_FirstPageStartsRoute :
    let f := readFor 60 true 24
    let s := withEngine (solo .active (resting .attached (some 4096))) (reading f false)
    s.records.engine.inFlight = some f ∧ s.records.engine.perst = false ∧ f.first = true ∧ f.length = 24 ∧
    f.received = [] ∧ onePage.length = 24 ∧ field onePage 0 2 = 0x5A31 ∧ field onePage 2 2 = 1 ∧
    (decodeStep (onePage.drop 16)).cell = (s.ctx 60).frontCell ∧ (decodeStep (onePage.drop 16)).last = true ∧
    s.setting.map.standing (s.ctx 60).frontCell = true ∧ s.setting.map.corridorOf (s.ctx 60).frontCell = none ∧
    (s.ctx 60).state = .attached ∧ (s.ctx 60).contact = .live ∧ (s.ctx 60).generation = f.generation ∧
    (s.ctx 60).nextStep = 0 ∧ (s.ctx 60).windowCount = 0 ∧ (s.ctx 60).windowSize = 8 ∧ (s.ctx 60).cutPoint = none ∧
    s.claimsNothing 60 ∧ (s.ctx 60).held = [{ cell := 801, step := none, distance := 1000 }] := by
  unfold State.claimsNothing; decide +kernel

/-- Four cells in a row, the last a JUNCTION. -/
def row : MapStore :=
  let cell := fun (kind : CellKind) (ports : List (Option Nat)) => { plainCell kind none none with ports := ports }
  { cells := [(1, cell .track [some 2, none, none, none]), (2, cell .track [some 1, some 3, none, none]),
      (3, cell .track [some 2, some 4, none, none]), (4, cell .junction [some 3, none, none, none])]
    corridors := [], gates := [], classes := [(0, classA)] }

/-- Carrier 60, as changed from a RUNNING one on cell 1 with a HOLD at step 0 of a route of three steps, with a read in
flight. -/
def fetching (f : ReadInFlight) (g : Context → Context) : State :=
  let k : Context := { runner [1] 0 with
    stepCount := some 3, blockReason := some .hold, validation := some { cell := 1, corridor := none, nonStanding := 0 } }
  let s := withEngine (enter (part .active row) 60 (g k)) (reading f true)
  { s with records := { s.records with slots := [(0, { cell := 1, last := false, hold := true, cap := 0 })] } }

/-- The records of two steps, the second with END. -/
def pair (x y : Byte) : List Byte := [x, 0, 0, 0, 0, 0, 0, 0, y, 0, 1, 0, 0, 0, 0, 0]

/-- The steps on 2 and 3 follow step 0 on 1. -/
theorem row_taken : let f := readFor 60 false 16
    StepsTaken (fetching f id).setting ((fetching f id).run.setEngine Engine.reset) 60 3 (decodeSteps 2 (pair 2 3))
      [{ cell := 2, corridor := none, nonStanding := 0 }, { cell := 3, corridor := none, nonStanding := 0 }] := by
  refine ⟨by decide +kernel, fun j s h => ?_⟩
  match j with
  | 0 =>
    have : s = { cell := 2, last := false, hold := false, cap := 0 } := by
      have h' : (decodeSteps 2 (pair 2 3))[0]? = some { cell := 2, last := false, hold := false, cap := 0 } := by
        decide +kernel
      rw [h'] at h; exact (Option.some.inj h).symm
    subst this; decide +kernel
  | 1 =>
    have : s = { cell := 3, last := true, hold := false, cap := 0 } := by
      have h' : (decodeSteps 2 (pair 2 3))[1]? = some { cell := 3, last := true, hold := false, cap := 0 } := by
        decide +kernel
      rw [h'] at h; exact (Option.some.inj h).symm
    subst this; decide +kernel
  | j + 2 =>
    have : (decodeSteps 2 (pair 2 3))[j + 2]? = none := by
      rw [List.getElem?_eq_none_iff]
      exact (by decide +kernel : (decodeSteps 2 (pair 2 3)).length ≤ 2).trans (by omega)
    rw [this] at h; cases h

/-- A step read that appends two steps, for a RUNNING, a SILENT and a HALTING carrier. -/
theorem witness_FirstPageStartsRoute_stepRead :
    let f := readFor 60 false 16
    let s := fetching f id
    let v := s.run.setEngine { s.records.engine with inFlight := none, timer := none, due := false }
    let u := withSteps v 60 (decodeSteps 2 (pair 2 3))
      [{ cell := 2, corridor := none, nonStanding := 0 }, { cell := 3, corridor := none, nonStanding := 0 }]
    (s.records.engine.inFlight = some f ∧ s.records.engine.perst = false ∧ f.first = false ∧
      (s.ctx 60).generation = f.generation ∧ (s.ctx 60).routeAddr.isSome = true ∧ (s.ctx 60).stepCount = some 3 ∧
      f.length ≤ f.received.length + (pair 2 3).length ∧ decodeSteps 2 (pair 2 3) ≠ [] ∧ (s.ctx 60).nextStep < 3 ∧
      ((decodeSteps 2 (pair 2 3)).take (3 - (s.ctx 60).nextStep)).length ≤ (s.ctx 60).windowSize) ∧
    ((u.ctx 60).state = .running ∧ s.claimsNothing 60 ∧ s.setting.op = .active ∧ (u.ctx 60).contact = .live ∧
      stopTest s.setting u 60 = some .hold) ∧
    ((fetching f (fun k => { k with contact := .silent })).ctx 60).contact ≠ .live ∧
    ((fetching f (fun k => { k with state := .halting, stopCause := some .supervisor })).ctx 60).state = .halting := by
  unfold State.claimsNothing; decide +kernel

/-- An invalid step after a valid one, on 4, which does not follow 2: the route is cut at step 1. -/
theorem witness_FirstPageStartsRoute_cut :
    let f := readFor 60 false 16
    let s := fetching f id
    let v := s.run.setEngine { s.records.engine with inFlight := none, timer := none, due := false }
    let bad : Slot := { cell := 4, last := true, hold := false, cap := 0 }
    let u := withSteps v 60 [{ cell := 2, last := false, hold := false, cap := 0 }]
      [{ cell := 2, corridor := none, nonStanding := 0 }]
    let w := u.modCtx 60 (fun k => { k with faultStep := some k.nextStep })
    decodeSteps 2 (pair 2 4) = [{ cell := 2, last := false, hold := false, cap := 0 }] ++ bad :: [] ∧
    validateStep s.setting u 60 2 3 bad = none ∧ StandsAt s.setting w 60 1 ∧
    (∀ j', j' < 2 → 1 < j' → ¬StandsAt s.setting w 60 j') ∧
    stopTest s.setting (withCut w 60 1 .stepFault) 60 = some .hold := by
  unfold StandsAt; decide +kernel

/-- A bus fault with only the front step, on the JUNCTION, in the window: there is no usable cut point. -/
theorem witness_FirstPageStartsRoute_uncut :
    let s := fetching (readFor 60 false 8) (fun k => { k with
      nextStep := 2, front := 1, rear := 1, grantMark := 2, windowBase := 8, frontCell := 4
      held := [{ cell := 4, step := some 1, distance := 1000 }] })
    let s := { s with records := { s.records with slots := [(9, { cell := 4, last := false, hold := false, cap := 0 })] } }
    s.records.engine.due = true ∧ (s.ctx 60).nextStep ≠ 0 ∧ (∀ j, j < 2 → ¬StandsAt s.setting s.run 60 j) ∧
    (s.ctx 60).state = .running ∧ s.claimsNothing 60 ∧ (s.ctx 60).rear ≤ (s.ctx 60).front ∧
    (s.ctx 60).held = [{ cell := 4, step := some (s.ctx 60).front, distance := 1000 }] ∧
    (s.ctx 60).routeAddr = some 4096 := by
  unfold StandsAt State.claimsNothing; decide +kernel

/-- A first page of two steps, on 1 with HOLD and on 2 with END. -/
def twoPage : List Byte :=
  [0x31, 0x5A, 2, 0, 0x10, 0x2A, 0, 0, 0, 0, 0, 0, 0, 0, 0, 0, 1, 0, 2, 0, 0, 0, 0, 0, 2, 0, 1, 0, 0, 0, 0, 0]

theorem witness_FirstPageStartsRoute_page :
    let f := readFor 60 true 32
    let s := withEngine (enter (part .active row) 60 { resting .attached (some 4096) with
      frontCell := 1, held := [{ cell := 1, step := none, distance := 1000 }] }) (reading f false)
    let page := (f.received ++ twoPage).take f.length
    let records := (decodeSteps ((f.length - 16) / 8) (page.drop 16)).take 2
    let v := (s.run.setEngine { s.records.engine with inFlight := none, timer := none, due := false }).modCtx 60
      (fun k => { k with stepCount := some 2, routeTag := some (BitVec.ofNat 32 (field page 4 4)) })
    let ws := [{ cell := 1, corridor := none, nonStanding := 0 }, { cell := 2, corridor := none, nonStanding := 0 }]
    let u := (withSteps v 60 records ws).modCtx 60 (fun k => { k with
      state := .running, front := 0, rear := 0, grantMark := 1, holdLifted := false, blockReason := none
      held := k.held.map (fun h => if h.step = none ∧ h.cell = k.frontCell then { h with step := some 0 } else h) })
    (s.records.engine.inFlight = some f ∧ f.first = true ∧ f.length ≤ f.received.length + twoPage.length ∧
      field page 0 2 = 0x5A31 ∧ field page 2 2 = 2 ∧ records ≠ [] ∧ records.length ≤ (s.ctx 60).windowSize ∧
      records.length = ws.length) ∧
    (validateStep s.setting v 60 0 2 (records.getD 0 Slot.blank) = ws[0]? ∧
      validateStep s.setting (v.modCtx 60 (fun k => { k with validation := ws[0]? })) 60 1 2
        (records.getD 1 Slot.blank) = ws[1]?) ∧
    (s.ctx 60).state = .attached ∧ (s.ctx 60).contact = .live ∧ (s.ctx 60).generation = f.generation ∧
    (s.ctx 60).nextStep = 0 ∧ s.claimsNothing 60 ∧ stopTest s.setting u 60 = some .hold := by
  unfold State.claimsNothing; decide +kernel

theorem witness_QueueIsServed :
    (attached72.records.engine.queue = [.fetch 72 true] ∧ attached72.records.engine.inFlight = none ∧
      attached72.records.engine.perst = false ∧ (attached72.ctx 72).routeAddr = some 0x08040FD0) ∧
    (let s := withEngine State.reset { Engine.reset with queue := [.writeBack 60 4096 .complete 1022 255 14] }
     s.records.engine.queue = .writeBack 60 4096 .complete 1022 255 14 :: [] ∧ s.records.engine.inFlight = none) := by
  decide +kernel

theorem witness_FramesOutsideRunning :
    FrameOf (.done 3 60 0 0) 3 60 ∧ (State.reset.ctx 60).state = .vacant ∧
    ((solo .active (resting .idle none)).ctx 60).state = .idle ∧
    ((solo .active (resting .attached (some 4096))).ctx 60).state = .attached ∧
    ((stoppedBy .active .lost).ctx 60).state = .stopped ∧
    ((stoppedBy .active .lost).ctx 60).stopCause = some .lost :=
  ⟨Or.inr (Or.inr ⟨_, _, rfl⟩), by decide +kernel, by decide +kernel, by decide +kernel, by decide +kernel,
    by decide +kernel⟩

/-- Carrier 60 HALTING at rest on the only step of its route, with a stop cause. -/
def haltingAt (op : OpState) (cause : StopCause) : State :=
  laid (solo op { runner [801] 0 with state := .halting, stopCause := some cause }) 0 [801]

theorem witness_FramesOutsideRunning_reports :
    let k' := fun (s : State) => { heardContext (s.ctx 60) 0 with lastSpeed := 0 }
    (HaltingReport (.pass 0 60 5 5 0 0) 0 60 halting 0 (k' halting)) ∧
    (HaltingReport (.pass 0 60 0 0 801 0) 0 60 (haltingAt .active .detach) 0 (k' (haltingAt .active .detach))) ∧
    (HaltingReport (.ask 0 60 0 0 200 0) 0 60 (haltingAt .active .gate) 0
      { k' (haltingAt .active .gate) with requested := 200 }) ∧
    ((halting.ctx 60).state = .halting ∧ (halting.ctx 60).stopCause = some .supervisor ∧
      (0 : Half).toNat < (halting.ctx 60).front ∧ (halting.ctx 60).grantMark ≤ (8 : Half).toNat) := by
  unfold HaltingReport PassConsistent
  refine ⟨Or.inr ⟨5, 5, 0, rfl, ?_⟩, Or.inr ⟨0, 0, 801, rfl, ?_⟩, Or.inl ⟨0, 200, 0, rfl, ?_⟩, ?_⟩
  · refine ⟨by decide +kernel, by decide +kernel, Or.inl ⟨by decide +kernel, rfl⟩⟩
  · refine ⟨by decide +kernel, by decide +kernel, Or.inr ⟨by decide +kernel, ?_, by decide +kernel⟩⟩
    intro e he
    have : e = { cell := 801, step := some 0, distance := 1000 } := by
      have hk : ((haltingAt .active .detach).ctx 60).held = [{ cell := 801, step := some 0, distance := 1000 }] := by
        decide +kernel
      exact List.mem_singleton.mp (hk ▸ he)
    subst this
    exact ⟨0, rfl, by decide⟩
  · exact ⟨fun _ => by decide +kernel, by decide +kernel⟩
  · decide +kernel

theorem witness_FramesOutsideRunning_ends :
    let k := fun (s : State) => { heardContext (s.ctx 60) 0 with lastSpeed := 0 }
    let s := haltingAt .active .allStop
    let back := { k s with
      grantMark := (k s).front + 1, holdLifted := false, state := .running, stopCause := none, silence := 0 }
    (∀ e ∈ (k s).held, e.outside (k s).rear (k s).front = false) ∧ s.setting.op = .active ∧ s.claimsNothing 60 ∧
    stopTest s.setting (heardRun s 0 60 back) 60 = some .routeEnd ∧
    (haltingAt .allStop .allStop).setting.op ≠ .active ∧
    (let q := haltingAt .active .detach
     (k q).routeAddr = some 4096 ∧ (k q).wait = none ∧
      (k q).held = [{ cell := (k q).frontCell, step := some (k q).front, distance := 1000 }]) := by
  unfold State.claimsNothing; decide +kernel

/-- A HALTING carrier that still holds a resting entry, on 705, comes to rest with cause DETACH. -/
theorem witness_FramesOutsideRunning_detach :
    let s := withCell (withCtx (haltingAt .active .detach) 60 (fun k =>
      { k with held := { cell := 705, step := none, distance := 1000 } :: k.held })) 705
      { CellRun.free with holders := [60] }
    let k := { heardContext (s.ctx 60) 0 with lastSpeed := 0 }
    k.held.filter (fun e => e.step.isNone) = [{ cell := 705, step := none, distance := 1000 }] ∧
    (∀ e ∈ k.held, e.outside k.rear k.front = false) ∧ k.routeAddr = some 4096 ∧
    (s.cell 705).queue = [] ∧ (s.cell 705).holders = [60] ∧
    Table.find s.setting.map.cells 705 = some (plainCell .track none none) ∧
    (leads (exec (.ask 0 60 0 0 200 0) s) (fun t => (t.ctx 60).held.map Held.cell == [801] &&
      (t.cell 705).holders == [])) = true := by
  decide +kernel

/-- The PASS of the worked trim, moving: carrier 60 leaves 702 behind. -/
theorem witness_FramesOutsideRunning_releases :
    PassConsistent halting 60 5 5 703 ∧
    (halting.ctx 60).held.filter (leftBehind 5) = [{ cell := 702, step := some 4, distance := 1000 }] ∧
    (halting.cell 702).queue = [] ∧ (halting.cell 702).holders = [60] ∧
    Table.find halting.setting.map.cells 702 = some (plainCell .track none none) ∧
    (let s := withCtx halting 60 (fun k => { k with held := k.held.take 2, grantMark := 6 })
     let k' := passedContext (s.ctx 60) 0 0 5 5 703
     PassConsistent s 60 5 5 703 ∧ ∀ e ∈ k'.held, e.outside k'.rear k'.front = false) := by
  unfold PassConsistent; decide +kernel

/-- Carrier 60 RUNNING at the first step of a route whose other steps it does not hold. -/
def asking (route : List Nat) (passed : Nat) : State :=
  laid (solo .active { runner route 0 with passOver := passed }) 0 route

theorem witness_AskAttempts_grants :
    let s := asking [703, 705] 0
    let k' := { heardContext (s.ctx 60) 0 with requested := 200, lastSpeed := 0, holdLifted := false }
    let w := heardRun s 0 60 k'
    s.claimsNothing 60 ∧ (s.ctx 60).state = .running ∧ (s.ctx 60).cutPoint = none ∧
    stopTest s.setting w 60 = none ∧ nextRun s.setting w 60 = some [(705, 1)] ∧
    PlainRun s.setting w 60 [(705, 1)] ∧
    stopTest s.setting (grantedRun s.setting w 60 [(705, 1)]) 60 = some .routeEnd := by
  unfold State.claimsNothing PlainRun; decide +kernel

/-- The third failure at the closed junction 704, with 705 free behind it and so reserved. -/
theorem witness_AskAttempts_fails :
    let s := withCell (asking [703, 704, 705] 2) 704 { CellRun.free with closed := true }
    let k' := { heardContext (s.ctx 60) 0 with requested := 200, lastSpeed := 0, holdLifted := false }
    let w := heardRun s 0 60 k'
    let run := [] ++ (704, 1) :: [(705, 2)]
    let free := run.filter (fun p => p.1 != 704 && (grantTest s.setting w 60 p.1 p.2).isNone)
    s.claimsNothing 60 ∧ stopTest s.setting w 60 = none ∧ nextRun s.setting w 60 = some run ∧
    (run.map Prod.fst).Nodup ∧ grantTest s.setting w 60 704 1 = some (.closed, none) ∧
    s.setting.map.gateOf 704 = none ∧ (w.cell 704).queue = [] ∧ free = [(705, 2)] ∧ (w.ctx 60).passOver = 2 ∧
    (w.cell 705).queue = [] := by
  unfold State.claimsNothing; decide +kernel

theorem witness_AskAttempts :
    let k := oneStep.ctx 60
    let k' := { heardContext k 0 with
      requested := min (200 : Byte).toNat (oneStep.setting.map.classOf k).vmax, lastSpeed := (0 : Byte).toNat
      holdLifted := k.holdLifted || (resumeFlag 1 && (0 : Half).toNat == k.front && oneStep.run.isHold 60 k.front) }
    oneStep.setting.op = .active ∧ k.state = .running ∧ k.cutPoint = none ∧ oneStep.claimsNothing 60 ∧
    stopTest oneStep.setting (oneStep.run.modCtx 60 (fun _ => k')) 60 = some .routeEnd :=
  ⟨rfl, by decide +kernel, by decide +kernel, oneStep_claimsNothing, by decide +kernel⟩

/-- A RUNNING carrier that holds both steps of its route. -/
def twoSteps : State :=
  let k := { runner [703, 705] 0 with
    grantMark := 2
    held := [{ cell := 703, step := some 0, distance := 1000 }, { cell := 705, step := some 1, distance := 1000 }] }
  laid (solo .active k) 0 [703, 705]

theorem witness_PassIsSorted :
    let k := twoSteps.ctx 60
    let k' := { heardContext k 0 with lastSpeed := (9 : Byte).toNat, front := 1, rear := 0, frontCell := (705 : Half).toNat }
    let p := withCtx twoSteps 60 (fun k => { k with front := 1 })
    (k.state = .running ∧ k.cutPoint = none ∧ twoSteps.claimsNothing 60 ∧ k.front ≤ 1 ∧ 1 < k.grantMark ∧
      (twoSteps.run.step 60 1).map Slot.cell = some (705 : Half).toNat ∧ k.rear ≤ 0 ∧
      (∀ h ∈ k.held, h.step = some 0 ∨ h.step = some 1) ∧
      stopTest twoSteps.setting (twoSteps.run.modCtx 60 (fun _ => k')) 60 = some .routeEnd) ∧
    ((p.ctx 60).state = .running ∧ (p.ctx 60).contact = .live ∧ 0 < (p.ctx 60).front) ∧
    (k.front ≤ 2 ∧ k.grantMark ≤ 2) := by
  unfold State.claimsNothing; decide +kernel

/-- One TRACK cell on the street that is held by carrier 60 alone and has no waiter leads to nothing more when released. -/
theorem freedAlone_one {s : State} {h : Held} (hm : Table.find s.setting.map.cells h.cell = some (plainCell .track none none))
    (hq : (s.cell h.cell).queue = []) (hh : (s.cell h.cell).holders = [60]) : FreedAlone s 60 [h] := by
  refine ⟨by simp, fun g hg => ?_⟩
  rw [List.mem_singleton.mp hg]
  exact ⟨hq, hh, _, hm, by decide, by decide, rfl⟩

/-- An accepted PASS that leaves cell 703 and its window slot behind. -/
theorem witness_PassIsSorted_releases :
    let h : Held := { cell := 703, step := some 0, distance := 1000 }
    let k' := passedContext (twoSteps.ctx 60) 0 (9 : Byte).toNat 1 1 705
    let w := emptiedRun twoSteps.setting.map (heardRun twoSteps 0 60 k') [h]
    PassConsistent twoSteps 60 1 1 705 ∧ (twoSteps.ctx 60).held.filter (leftBehind 1) = [h] ∧
    FreedAlone twoSteps 60 [h] ∧ k'.windowCount = 1 ∧ stopTest twoSteps.setting w 60 = some .routeEnd := by
  refine ⟨?_, by decide +kernel, freedAlone_one (by decide +kernel) (by decide +kernel) (by decide +kernel),
    by decide +kernel, by decide +kernel⟩
  unfold PassConsistent; decide +kernel

/-- A PASS that comes to rest at the cut point, and an ASK at rest there. -/
theorem witness_PassIsSorted_cut :
    let cut := fun (front : Nat) => withCtx twoSteps 60 (fun k =>
      { k with front := front, cutPoint := some 1, cutResult := some .bus })
    let h : Held := { cell := 703, step := some 0, distance := 1000 }
    let k' := passedContext ((cut 0).ctx 60) 0 (0 : Byte).toNat 1 1 705
    let a := withCtx (cut 1) 60 (fun k => { k with frontCell := 705 })
    ((cut 0).claimsNothing 60 ∧ PassConsistent (cut 0) 60 1 1 705 ∧ k'.cutPoint = some k'.front ∧
      k'.cutResult = some .bus ∧ k'.routeAddr = some 4096 ∧
      k'.held = [{ cell := k'.frontCell, step := some k'.front, distance := 1000 }] ∧ k'.rear = k'.front) ∧
    FreedAlone (cut 0) 60 [h] ∧
    (a.claimsNothing 60 ∧ (a.ctx 60).state = .running ∧ (a.ctx 60).cutPoint = some (a.ctx 60).front ∧
      (∀ e ∈ (a.ctx 60).held, e.outside (a.ctx 60).rear (a.ctx 60).front = false) ∧
      (∀ e ∈ (a.ctx 60).held, e.step = some (a.ctx 60).front → e.cell = (a.ctx 60).frontCell)) := by
  refine ⟨?_, freedAlone_one (by decide +kernel) (by decide +kernel) (by decide +kernel), ?_⟩
  · unfold State.claimsNothing PassConsistent; decide +kernel
  · unfold State.claimsNothing; decide +kernel

/-- Carrier 20 asks for 504 against the direction of the FLOWING corridor of Section 4.2. -/
theorem witness_AskAttempts_turn :
    let s := withCtx (withCell aisle 504 CellRun.free) 20 (fun k => { k with wait := none, blockReason := some .none })
    let s := { s with records := { s.records with
      corridors := [(5, { direction := .ab, occupants := [11], turnRequested := false, turnCarrier := none })] } }
    let k' := { heardContext (s.ctx 20) 0 with requested := 200, lastSpeed := 0, holdLifted := false }
    let w := heardRun s 0 20 k'
    let run := [] ++ (504, 1) :: []
    s.claimsNothing 20 ∧ (s.ctx 20).state = .running ∧ (s.ctx 20).cutPoint = none ∧
    stopTest s.setting w 20 = none ∧ nextRun s.setting w 20 = some run ∧ (run.map Prod.fst).Nodup ∧
    grantTest s.setting w 20 504 1 = some (.corridor, some 11) ∧ (w.ctx 20).passOver = 0 ∧
    s.setting.map.gateOf 504 = none ∧ s.setting.map.corridorOf 504 = some (5, 3) ∧
    (s.corridor 5).condition = .flowing ∧ (w.cell 504).queue = [] := by
  unfold State.claimsNothing; decide +kernel

/-- Carrier 33 in the lane of Section 4.4 behind carrier 21, before its attempt has met lane order. -/
theorem witness_AskAttempts_order :
    let s := withCtx lane 33 (fun k => { k with wait := none, blockReason := some .none })
    let k' := { heardContext (s.ctx 33) 0 with requested := 200, lastSpeed := 0, holdLifted := false }
    let w := heardRun s 0 33 k'
    s.claimsNothing 33 ∧ (s.ctx 33).state = .running ∧ (s.ctx 33).cutPoint = none ∧
    stopTest s.setting w 33 = some .order ∧ laneBefore s.setting w 33 = some 415 ∧
    (w.cell 415).holders = [] ++ 21 :: 33 :: [48] ∧ ((w.ctx 21).wait.bind WaitRec.edge) = none := by
  unfold State.claimsNothing; decide +kernel

/-- The clauses of a frame that costs fault allowance, and of a stale PASS from a SILENT carrier. -/
theorem witness_PassIsSorted_charged :
    let last := withCtx oneStep 60 (fun k => { k with allowance := 1 })
    let hushed := withCtx oneStep 60 (fun k => { k with contact := .silent })
    let stale := withCtx twoSteps 60 (fun k => { k with front := 1, contact := .silent })
    let charged := { heardContext (hushed.ctx 60) 0 with lastSpeed := (9 : Byte).toNat, allowance := 4, used := 1 }
    (oneStep.ctx 60).front ≤ (0 : Half).toNat ∧ (0 : Half).toNat < (oneStep.ctx 60).grantMark ∧
    ¬PassConsistent oneStep 60 0 0 (705 : Half).toNat ∧
    ((last.ctx 60).allowance ≤ 1 ∧ last.claimsNothing 60) ∧
    (1 < (oneStep.ctx 60).allowance ∧ (oneStep.ctx 60).contact ≠ .silent) ∧
    ((hushed.ctx 60).contact = .silent ∧ hushed.claimsNothing 60 ∧
      stopTest hushed.setting (heardRun hushed 0 60 charged) 60 = some .routeEnd) ∧
    ((stale.ctx 60).contact = .silent ∧ (0 : Half).toNat < (stale.ctx 60).front ∧ stale.claimsNothing 60 ∧
      stopTest stale.setting (heardRun stale 0 60 (heardContext (stale.ctx 60) 0)) 60 = some .routeEnd) ∧
    ¬((oneStep.ctx 60).stepCount = some ((7 : Half).toNat + 1)) := by
  unfold State.claimsNothing PassConsistent; decide +kernel

theorem witness_DoneCompletes :
    oneStep.setting.op = .active ∧ (oneStep.ctx 60).state = .running ∧ oneStep.claimsNothing 60 ∧
    (oneStep.ctx 60).stepCount = some ((0 : Half).toNat + 1) ∧ (oneStep.ctx 60).front = 0 ∧ (oneStep.ctx 60).rear = 0 ∧
    (oneStep.ctx 60).held = [{ cell := 801, step := some 0, distance := 1000 }] ∧
    (oneStep.ctx 60).routeAddr = some 4096 :=
  ⟨rfl, by decide +kernel, oneStep_claimsNothing, by decide +kernel, by decide +kernel, by decide +kernel,
    by decide +kernel, by decide +kernel⟩

theorem witness_FailedFramesAreCounted :
    (Receiver.hunting.take 0xA5 false).2 = .collecting ∧
    ({ Receiver.hunting with state := .length }.take 10 false).2 = .failed .format := by decide +kernel

theorem witness_FailedFramesAreCounted_crc :
    let r := fun (code length : Nat) (ok : Bool) =>
      let body : List Byte := kindByte code :: List.replicate (length - 1) 60
      ({ state := .crc, length := length, body := body
         crc := [if ok then highByte (crc16 body) else highByte (crc16 body) + 1] : Receiver },
        lowByte (crc16 body))
    let outcome := fun (q : Receiver × Byte) => (q.1.take q.2 false).2
    outcome (r 3 5 false) = .failed .check ∧ outcome (r 4 5 true) = .failed .unknown ∧
    outcome (r 3 6 true) = .failed .format ∧ (∃ q, outcome (r 3 5 true) = .framed 60 q) := by
  refine ⟨by decide +kernel, by decide +kernel, by decide +kernel, ⟨.done 0x3C3C 60, by decide +kernel⟩⟩

theorem witness_LastCharacterHandsOver :
    let body : List Byte := [kindByte 3, 60] ++ halfBytes 1022 ++ [0]
    let k := { Link.reset with
      receiver := { state := .crc, length := 5, body := body, crc := [highByte (crc16 body)] } }
    let s := { State.reset with records := { Records.reset with links := [(3, k)] } }
    (s.link 3).receiver.state = .crc ∧ (s.link 3).receiver.body = body ∧
      (s.link 3).receiver.crc = [highByte (crc16 body)] := by decide +kernel

theorem witness_TransmittersServe :
    let idle := { Link.reset with queue := [message 40 1] }
    let s := { State.reset with records := { Records.reset with links := [(0, idle), (3, fullLink)] } }
    (s.link 0).transmitter = .idle ∧ (s.link 0).queue = [message 40 1] ∧ (s.link 3).transmitter ≠ .idle := by
  decide +kernel

theorem witness_MessagesArePlaced :
    ((message 31 1).carrier ∈ fullLink.queue.map Message.carrier ∧ (fullLink.queue.map Message.carrier).Nodup) ∧
    ((message 99 1).carrier ∉ fullLink.queue.map Message.carrier ∧ 32 ≤ fullLink.queue.length) ∧
    (let k := { fullLink with queue := fullLink.queue.tail }
     (message 99 1).carrier ∉ k.queue.map Message.carrier ∧ k.queue.length < 32) := by decide +kernel

theorem witness_PermittedSpeedIsSafe :
    (∃ h ∈ (twoSteps.ctx 60).held, (Table.find twoSteps.setting.map.cells h.cell).isSome = true) ∧
    (2 ^ 64 - 1 < 2 ^ 64 ∧ classA.decel ≤ 4000) := by decide +kernel

theorem witness_EnrolmentAndGeneration : oneStep.canonical = true ∧ exec .tick oneStep = .next oneStep.ticked :=
  ⟨by decide +kernel, rfl⟩

theorem witness_WalkFindsRing :
    ring.run.edge 14 = some 22 ∧ (22 : Nat) ≠ 14 ∧
    chainWalk (fun c => if c = 22 then some 8 else ring.run.edge c) 22 Config.walkHops [22] 8 = some [22, 8, 14] := by
  decide +kernel

/-- The ring of Section 8.6 as it stands once it has been recorded. -/
def ringed : State :=
  let s := withCtx ring 22 (waiting 2 5010 (some 8))
  let s := withCell s 2 { s.cell 2 with queue := [waiter 22 2 1 .capacity] }
  { s with
    pending := [.tick]
    records := { s.records with
      deadlocks := [(0, { count := 3, members := [22, 8, 14], tick := 5010 })], marks := [(8, 0), (14, 0), (22, 0)] } }

theorem ringed_isRing : isRing ringed.run.edge [22, 8, 14] := by unfold isRing; decide +kernel

theorem witness_WalkFindsRing_found : isRing ringed.run.edge [22, 8, 14] ∧ ([22, 8, 14] : List Nat).length ≤ 256 ∧
    ([22, 8, 14] : List Nat).head? = some 22 ∧ ringed.run.edge 22 = some 8 :=
  ⟨ringed_isRing, by decide, rfl, by decide +kernel⟩

theorem witness_SeventhLawKept : ∃ t, ringed.canonical = true ∧ ringed.seventhLaw ∧ step ringed = .next t := by
  refine ⟨_, by decide +kernel, ⟨?_, ?_, ?_⟩, rfl⟩
  · intro n d h
    have hd : Table.find [(0, ({ count := 3, members := [22, 8, 14], tick := 5010 } : DeadlockRec))] n = some d := h
    simp only [Table.find] at hd
    split at hd
    · rename_i hn
      subst hn
      cases hd
      refine ⟨by decide, [22, 8, 14], ringed_isRing, rfl, rfl, fun c => ?_⟩
      show Table.find [(8, 0), (14, 0), (22, 0)] c = some 0 ↔ _
      simp only [Table.find]
      split_ifs <;> simp <;> omega
    · cases hd
  · intro c n h
    have hm : Table.find [(8, 0), (14, 0), (22, 0)] c = some n := h
    have : n = 0 := by
      simp only [Table.find] at hm
      split_ifs at hm <;> simp_all
    subst this
    rfl
  · intro c
    exact at_all (d := Context.vacant) (P := fun k => k.state = .vacant → k.held = [] ∧ k.wait = none) (fun _ => ⟨rfl, rfl⟩)
      (by decide +kernel : ∀ p ∈ ringed.records.carriers, _) c

end Sys2Proof.Tests
end

section
/-! The commands that load a map: MAP-BEGIN, the map records and MAP-END's answer (O12 to O17), and the values hard reset
leaves (O3). What the fields of a record command define is said once per record as an `if` on R9 to R12's ranges; the
command's outcome then follows from one lemma per branch of `mapRecord`. -/

namespace Sys2Proof.Proofs

open Sys2Proof.Machine Sys2Proof.Laws

/-! ## Field ranges -/

@[simp] theorem within_iff (low high n : Nat) : within low high n = true ↔ low ≤ n ∧ n ≤ high := by
  simp [within]

@[simp] theorem isCell_iff (h : Half) : isCell h = true ↔ 1 ≤ h.toNat ∧ h.toNat ≤ 2047 := within_iff 1 2047 h.toNat

@[simp] theorem isCarrier_iff (h : Half) : isCarrier h = true ↔ h.toNat ≤ 255 := by
  unfold isCarrier Config.carriers
  rw [decide_eq_true_eq]
  omega

/-! ## Hard reset -/

/-- Settles O3: every record of the reset part computes to its hard reset value. -/
theorem resetValues : Obligations.ResetValues := by
  unfold Obligations.ResetValues
  exact ⟨rfl, rfl, rfl, rfl, rfl, rfl, rfl, fun _ => rfl, rfl, fun _ => rfl, rfl, rfl, rfl, rfl, rfl, rfl, rfl, rfl, rfl,
    fun _ => rfl, fun _ => rfl⟩

/-! ## MAP-BEGIN (R8) -/

section
variable {s : State}

theorem anyEnrolled_iff : s.anyEnrolled = true ↔ ∃ c, c < Config.carriers ∧ (s.ctx c).state ≠ .vacant := by
  simp [State.anyEnrolled, State.carriersWith]

theorem mapBegin_accepted (hs : s.inService) (h : s.setting.op = .unconfigured ∨ s.setting.op = .loading ∨
    (s.setting.op = .standby ∧ ∀ c, (s.ctx c).state = .vacant)) :
    exec .mapBegin s = .next (s.beginMap.answered 1 0x01 .ok []) := by
  change execMapBegin s = _
  unfold execMapBegin
  rcases h with h | h | ⟨h, vacant⟩
  · rw [h]
    exact runCommand_done hs
  · rw [h]
    exact runCommand_done hs
  · have nobody : ¬s.anyEnrolled = true := by simp [anyEnrolled_iff, vacant]
    simp only [h, if_neg nobody]
    exact runCommand_done hs

theorem mapBegin_enrolled (hs : s.inService) (h : s.setting.op = .standby)
    (enrolled : ∃ c, c < Config.carriers ∧ (s.ctx c).state ≠ .vacant) :
    exec .mapBegin s = .next (s.answered 1 0x01 .conflict []) := by
  change execMapBegin s = _
  unfold execMapBegin
  simp only [h, if_pos (anyEnrolled_iff.mpr enrolled)]
  exact runCommand_refuse hs

theorem mapBegin_moving (hs : s.inService) (h : s.setting.op = .active ∨ s.setting.op = .allStop) :
    exec .mapBegin s = .next (s.answered 1 0x01 .state []) := by
  change execMapBegin s = _
  unfold execMapBegin
  rcases h with h | h
  · rw [h]
    exact runCommand_refuse hs
  · rw [h]
    exact runCommand_refuse hs

end

/-- Settles O12, by the operating state that MAP-BEGIN finds. -/
theorem mapBeginOpens : Obligations.MapBeginOpens := by
  unfold Obligations.MapBeginOpens
  intro s hs
  refine ⟨fun h => ⟨_, mapBegin_accepted hs h, rfl, rfl, rfl, rfl, rfl, rfl, rfl, rfl, rfl, rfl, rfl, rfl, rfl, rfl, rfl,
    rfl, fun g => ?_, rfl, rfl⟩, fun h => mapBegin_enrolled hs h.1 h.2, mapBegin_moving hs⟩
  simp [State.request, Records.unloaded]

/-! ## The map record commands (R9 to R12) -/

section
variable {α : Type} {s : State} {fields : Option α} {store : α → MapStore} {code : Byte} {n : Nat}

theorem mapRecord_not_loading (hs : s.inService) (h : s.setting.op ≠ .loading) :
    runCommand code n s (mapRecord s fields store) = .next (s.answered n code .state []) := by
  simp only [mapRecord, if_neg h]
  exact runCommand_refuse hs

theorem mapRecord_out_of_range (hs : s.inService) (h : s.setting.op = .loading) (hf : fields = none) :
    runCommand code n s (mapRecord s fields store) = .next (s.answered n code .range []) := by
  simp only [mapRecord, if_pos h, hf]
  exact runCommand_refuse hs

theorem mapRecord_stored (hs : s.inService) (h : s.setting.op = .loading) {a : α} (hf : fields = some a) :
    runCommand code n s (mapRecord s fields store) = .next ((s.setMap (store a)).answered n code .ok []) := by
  simp only [mapRecord, if_pos h, hf]
  exact runCommand_done hs

/-- The three outcomes of a map record command whose fields define `a` exactly where `ok` holds. -/
theorem mapRecord_outcomes (hs : s.inService) {ok : Prop} [Decidable ok] {a : α}
    (hf : fields = if ok then some a else none) :
    (s.setting.op ≠ .loading →
      runCommand code n s (mapRecord s fields store) = .next (s.answered n code .state [])) ∧
    (s.setting.op = .loading → ¬ok →
      runCommand code n s (mapRecord s fields store) = .next (s.answered n code .range [])) ∧
    (s.setting.op = .loading → ok →
      runCommand code n s (mapRecord s fields store) = .next ((s.setMap (store a)).answered n code .ok [])) :=
  ⟨mapRecord_not_loading hs, fun h no => mapRecord_out_of_range hs h (by rw [hf, if_neg no]),
    fun h yes => mapRecord_stored hs h (by rw [hf, if_pos yes])⟩

end

/-! ### MAP-CORRIDOR (R10) -/

theorem corridorOfFields_eq (corridor : Byte) (members : List Half) :
    corridorOfFields corridor members =
      if corridor.toNat ≤ 63 ∧ (2 ≤ members.length ∧ members.length ≤ 32) ∧
        ∀ x ∈ members, 1 ≤ x.toNat ∧ x.toNat ≤ 2047
      then some (members.map BitVec.toNat) else none := by
  unfold corridorOfFields
  refine if_congr ?_ rfl rfl
  simp only [Bool.and_eq_true, decide_eq_true_eq, within_iff, List.all_eq_true, isCell_iff, Nat.lt_succ_iff, and_assoc]

/-- Settles O14. -/
theorem mapCorridorDefines : Obligations.MapCorridorDefines := by
  unfold Obligations.MapCorridorDefines
  intro corridor members s hs
  exact mapRecord_outcomes hs (corridorOfFields_eq corridor members)

/-! ### MAP-GATE (R11) -/

theorem polarityOfCode_eq (b : Byte) :
    polarityOfCode b = if b = 0 ∨ b = 1 then some (if b = 1 then .high else .low) else none := by
  unfold polarityOfCode
  split
  next h =>
    obtain rfl : b = 0 := BitVec.eq_of_toNat_eq h
    rfl
  next h =>
    obtain rfl : b = 1 := BitVec.eq_of_toNat_eq h
    rfl
  next h0 h1 => rw [if_neg (by rintro (rfl | rfl); exacts [h0 rfl, h1 rfl])]

theorem partnerOfCode_eq (b : Byte) :
    partnerOfCode b = if b = 0 ∨ b = 1 then some (decide (b = 1)) else none := by
  unfold partnerOfCode
  split
  next h =>
    obtain rfl : b = 0 := BitVec.eq_of_toNat_eq h
    rfl
  next h =>
    obtain rfl : b = 1 := BitVec.eq_of_toNat_eq h
    rfl
  next h0 h1 => rw [if_neg (by rintro (rfl | rfl); exacts [h0 rfl, h1 rfl])]

theorem bindingOfFields_eq (gate : Byte) (portal : Half) (polarity : Byte) (callLimit holdOpen : Half) (partner : Byte) :
    bindingOfFields gate portal polarity callLimit holdOpen partner =
      if gate.toNat ≤ 15 ∧ (1 ≤ portal.toNat ∧ portal.toNat ≤ 2047) ∧ (polarity = 0 ∨ polarity = 1) ∧
        (partner = 0 ∨ partner = 1) ∧ (1 ≤ callLimit.toNat ∧ callLimit.toNat ≤ 6000) ∧ holdOpen.toNat ≤ 1000 ∧
        ¬(gate.toNat % 2 = 1 ∧ partner = 1)
      then some {
        portal := portal.toNat, polarity := if polarity = 1 then .high else .low
        callLimit := callLimit.toNat, holdOpen := holdOpen.toNat, partner := decide (partner = 1) }
      else none := by
  unfold bindingOfFields
  rw [polarityOfCode_eq, partnerOfCode_eq]
  by_cases hp : polarity = 0 ∨ polarity = 1
  · by_cases hq : partner = 0 ∨ partner = 1
    · simp only [if_pos hp, if_pos hq]
      refine if_congr ?_ rfl rfl
      simp only [Bool.and_eq_true, decide_eq_true_eq, within_iff, isCell_iff, Nat.lt_succ_iff, Bool.not_eq_true',
        Bool.and_eq_false_iff, beq_eq_false_iff_ne, decide_eq_false_iff_not]
      tauto
    · simp only [if_pos hp, if_neg hq]
      rw [if_neg (by tauto)]
  · simp only [if_neg hp]
    rw [if_neg (by tauto)]

/-- Settles O15. -/
theorem mapGateDefines : Obligations.MapGateDefines := by
  unfold Obligations.MapGateDefines
  intro gate portal polarity callLimit holdOpen partner s hs
  exact mapRecord_outcomes hs (bindingOfFields_eq gate portal polarity callLimit holdOpen partner)

/-! ### MAP-CLASS (R12) -/

theorem classOfFields_eq (cls : Byte) (decel margin : Half) (vmax hmax priority allowance : Byte) (silence lost : Half) :
    classOfFields cls decel margin vmax hmax priority allowance silence lost =
      if cls.toNat ≤ 7 ∧ (100 ≤ decel.toNat ∧ decel.toNat ≤ 4000) ∧ margin.toNat ≤ 2000 ∧ 10 ≤ vmax.toNat ∧
        (1 ≤ hmax.toNat ∧ hmax.toNat ≤ 16) ∧ priority.toNat ≤ 3 ∧ (1 ≤ allowance.toNat ∧ allowance.toNat ≤ 15) ∧
        (5 ≤ silence.toNat ∧ silence.toNat ≤ 500) ∧ (10 ≤ lost.toNat ∧ lost.toNat ≤ 6000) ∧ silence.toNat < lost.toNat
      then some {
        decel := decel.toNat, margin := margin.toNat, vmax := vmax.toNat, hmax := hmax.toNat
        priority := priority.toNat, allowance := allowance.toNat, silence := silence.toNat, lost := lost.toNat }
      else none := by
  unfold classOfFields
  refine if_congr ?_ rfl rfl
  simp only [Bool.and_eq_true, decide_eq_true_eq, within_iff, Nat.lt_succ_iff, and_assoc]

/-- Settles O16. -/
theorem mapClassDefines : Obligations.MapClassDefines := by
  unfold Obligations.MapClassDefines
  intro cls decel margin vmax hmax priority allowance silence lost s hs
  exact mapRecord_outcomes hs (classOfFields_eq cls decel margin vmax hmax priority allowance silence lost)

/-! ### MAP-CELL (R9) -/

theorem kindOfCode_eq (b : Byte) :
    kindOfCode b = [CellKind.track, .junction, .lane, .portal, .dock][b.toNat]? := by
  unfold kindOfCode
  split
  case h_6 h0 h1 h2 h3 h4 =>
    have beyond : 5 ≤ b.toNat := by
      rw [imp_false] at h0 h1 h2 h3 h4
      omega
    rw [List.getElem?_eq_none beyond]
  all_goals next h => rw [h]; rfl

theorem kindOfCode_isSome_iff (b : Byte) : (kindOfCode b).isSome = true ↔ b.toNat ≤ 4 := by
  simp [kindOfCode_eq, Nat.lt_succ_iff]

theorem kindOfCode_eq_some_iff {b : Byte} {k : CellKind} (h : kindOfCode b = some k) :
    (k = .lane ↔ b = 2) ∧ (k = .portal ↔ b = 3) := by
  have code (n : Nat) (hn : n < 256) : b = BitVec.ofNat 8 n ↔ b.toNat = n := by
    rw [← BitVec.toNat_inj, BitVec.toNat_ofNat, Nat.mod_eq_of_lt hn]
  have lane := code 2 (by decide)
  have portal := code 3 (by decide)
  change (_ ↔ b = BitVec.ofNat 8 2) ∧ (_ ↔ b = BitVec.ofNat 8 3)
  rw [lane, portal]
  unfold kindOfCode at h
  split at h
  case h_6 => cases h
  all_goals next hb => cases h; simp [hb]

theorem portCell_eq_some_iff (p q : Half) (hp : p ≠ 0) : some p.toNat = portCell q ↔ p = q := by
  unfold portCell
  split
  next hq => exact iff_of_false (Option.some_ne_none _) (fun h => hp (h.trans hq))
  next hq => rw [Option.some_inj, BitVec.toNat_inj]

theorem namesTwice_eq_false_iff (ports : List Half) :
    namesTwice (ports.map portCell) = false ↔ (ports.filter (· ≠ 0)).Nodup := by
  induction ports with
  | nil => simp [namesTwice]
  | cons p rest ih =>
    by_cases hp : p = 0
    · simpa [hp, portCell, namesTwice] using ih
    · have named : portCell p = some p.toNat := if_neg hp
      have absent : (rest.map portCell).contains (some p.toNat) = false ↔ p ∉ rest := by
        simp only [List.contains_eq_mem, List.mem_map, decide_eq_false_iff_not, eq_comm (b := some p.toNat),
          portCell_eq_some_iff p _ hp, exists_eq_right']
      have kept : p ∈ rest.filter (· ≠ 0) ↔ p ∈ rest := by
        rw [List.mem_filter]
        exact and_iff_left (decide_eq_true hp)
      rw [List.filter_cons_of_pos (by exact decide_eq_true hp), List.nodup_cons, kept, List.map_cons, named, namesTwice,
        Bool.or_eq_false_iff, absent, ih]

theorem portsAllowed_iff (cell : Half) (ports : List Half) :
    portsAllowed cell ports = true ↔
      (∀ p ∈ ports, p ≠ 0 → p.toNat ≤ 2047 ∧ p ≠ cell) ∧ (ports.filter (· ≠ 0)).Nodup := by
  have one (p : Half) : (p == 0 || (isCell p && p != cell)) = true ↔ (p ≠ 0 → p.toNat ≤ 2047 ∧ p ≠ cell) := by
    have pos : p ≠ 0 → 1 ≤ p.toNat := fun h => Nat.pos_of_ne_zero (fun h0 => h (BitVec.eq_of_toNat_eq h0))
    simp only [Bool.or_eq_true, Bool.and_eq_true, beq_iff_eq, bne_iff_ne, isCell_iff]
    tauto
  simp only [portsAllowed, Bool.and_eq_true, List.all_eq_true, one, Bool.not_eq_true', namesTwice_eq_false_iff]

/-- The record that the fields of a MAP-CELL of kind `k` define. -/
def recordOfFields (k : CellKind) (length : Half) (limit clearance : Byte) (ports : List Half)
    (capacity entryPort exitPort gate : Byte) : CellStatic :=
  { kind := k, length := length.toNat, limit := limit.toNat, clearance := clearance.toNat
    ports := ports.map portCell
    capacity := if k = .lane then some capacity.toNat else none
    entryPort := if k = .lane then some entryPort.toNat else none
    exitPort := if k = .lane then some exitPort.toNat else none
    gate := if k = .portal then some gate.toNat else none
    corridor := none }

section
variable {cell : Half} {kind : Byte} {length : Half} {limit clearance : Byte} {ports : List Half}
  {capacity entryPort exitPort gate : Byte}

/-- Fields in range define the record of their kind. -/
theorem cellOfFields_in_range (h : CellFieldsInRange cell kind length limit ports capacity entryPort exitPort gate) :
    ∃ k, kindOfCode kind = some k ∧
      cellOfFields cell kind length limit clearance ports capacity entryPort exitPort gate =
        some (recordOfFields k length limit clearance ports capacity entryPort exitPort gate) := by
  obtain ⟨hcell, hkind, hlength, hlimit, hports, hnodup, hlane, hportal⟩ := h
  obtain ⟨k, hk⟩ := Option.isSome_iff_exists.mp ((kindOfCode_isSome_iff kind).mpr hkind)
  obtain ⟨lane, portal⟩ := kindOfCode_eq_some_iff hk
  rw [← lane] at hlane
  rw [← portal] at hportal
  have allowed := (portsAllowed_iff cell ports).mpr ⟨hports, hnodup⟩
  refine ⟨k, hk, ?_⟩
  simp only [cellOfFields, hk]
  refine if_pos ?_
  cases k <;> simp_all [Nat.lt_succ_iff]

/-- Fields out of range define nothing. -/
theorem cellOfFields_out_of_range
    (h : ¬CellFieldsInRange cell kind length limit ports capacity entryPort exitPort gate) :
    cellOfFields cell kind length limit clearance ports capacity entryPort exitPort gate = none := by
  simp only [cellOfFields]
  split
  next => rfl
  next k hk =>
    obtain ⟨lane, portal⟩ := kindOfCode_eq_some_iff hk
    refine if_neg (fun sound => h ?_)
    have hkind := (kindOfCode_isSome_iff kind).mp (by rw [hk]; rfl)
    simp only [Bool.and_eq_true, isCell_iff, within_iff, bne_iff_ne, portsAllowed_iff] at sound
    obtain ⟨⟨⟨⟨hcell, hlength⟩, hlimit⟩, hports, hnodup⟩, own⟩ := sound
    refine ⟨hcell, hkind, hlength, hlimit, hports, hnodup, fun h2 => ?_, fun h3 => ?_⟩
    · obtain rfl := lane.mpr h2
      simpa [and_assoc] using own
    · obtain rfl := portal.mpr h3
      simpa [Nat.lt_succ_iff] using own

end

/-- Settles O13: the fields define the record of their kind, which is stored under the cell's number, or nothing. -/
theorem mapCellDefines : Obligations.MapCellDefines := by
  unfold Obligations.MapCellDefines
  intro cell kind length limit clearance p0 p1 p2 p3 capacity entryPort exitPort gate s hs
  refine ⟨fun h => mapRecord_not_loading hs h,
    fun h no => mapRecord_out_of_range hs h (cellOfFields_out_of_range no), fun h ok => ?_⟩
  obtain ⟨k, hk, defined⟩ := cellOfFields_in_range ok
  obtain ⟨lane, portal⟩ := kindOfCode_eq_some_iff hk
  refine ⟨_, _, mapRecord_stored hs h defined, Table.find_set_self .., ?_, rfl, rfl, rfl, rfl, ?_, ?_, ?_, ?_, rfl,
    fun x hx => Table.find_set_other _ _ hx, rfl, rfl, rfl, h, rfl, rfl, rfl⟩
  · rw [← kindOfCode_eq, hk]
    rfl
  all_goals simp only [recordOfFields, lane, portal]

/-! ## MAP-END (R13 to R15) -/

theorem find_derived (m : MapStore) (x : Nat) : Table.find m.derived.cells x =
    (Table.find m.cells x).map (fun k => { k with corridor := m.placeIn x }) := by
  have mapped (t : Table CellStatic) :
      Table.find (t.map (fun p => (p.1, { p.2 with corridor := m.placeIn p.1 }))) x =
        (Table.find t x).map (fun k => { k with corridor := m.placeIn x }) := by
    induction t with
    | nil => rfl
    | cons p rest ih =>
      simp only [List.map_cons, Table.find]
      split
      next h => simp [h]
      next => exact ih
  exact mapped m.cells

/-- Settles O17, by the operating state and the verdict on the map. -/
theorem mapEndCompletes : Obligations.MapEndCompletes := by
  unfold Obligations.MapEndCompletes
  intro s hs
  change (_ → execMapEnd s = _) ∧ (∀ r, _ → _ → execMapEnd s = _) ∧ (_ → _ → ∃ t, execMapEnd s = _ ∧ _)
  unfold execMapEnd
  refine ⟨fun h => ?_, fun r h failed => ?_, fun h passed => ?_⟩
  · rw [if_neg h]
    exact runCommand_refuse hs
  · rw [if_pos h, failed]
    exact runCommand_refuse hs
  · rw [if_pos h, passed]
    exact ⟨_, runCommand_done hs, rfl, find_derived s.setting.map, rfl, rfl, rfl,
      fun x => Table.find_map _ (fun _ => CellRun.free) x, fun k => Table.find_map _ (fun _ => CorridorRun.idle) k,
      fun g => Table.find_map _ (fun _ => GateRun.shut) g, rfl, rfl, rfl, rfl, rfl, rfl⟩

end Sys2Proof.Proofs
end

section
/-! The tests before a command (O29): each shape of test answers its refusal, and ENROL's checks read as R82 lists them. -/

namespace Sys2Proof.Proofs

open Sys2Proof.Machine Sys2Proof.Laws

variable {s : State} {code : Byte} {n : Nat} {plan : Plan}

/-! ## Edits of a cell (R16) -/

section
variable {cell : Half}

theorem cellEdit_not_loaded (hs : s.inService) (h : s.setting.op.loaded = false) :
    runCommand code n s (cellEdit s cell plan) = .next (s.answered n code .state []) := by
  simp only [cellEdit, h]
  exact runCommand_refuse hs

theorem cellEdit_undefined (hs : s.inService) (h : s.setting.op.loaded = true) (hc : s.cellDefined cell = false) :
    runCommand code n s (cellEdit s cell plan) = .next (s.answered n code .range []) := by
  simp only [cellEdit, h, hc]
  exact runCommand_refuse hs

theorem cellEdit_defined (h : s.setting.op.loaded = true) (hc : s.cellDefined cell = true) :
    cellEdit s cell plan = plan := by
  simp only [cellEdit, h, hc, if_true]

end

/-! ## Carrier commands (R81) -/

section
variable {accepts : OpState → Bool} {carrier : Half} {fields : Bool}

theorem carrierCommand_state (hs : s.inService) (h : accepts s.setting.op = false) :
    runCommand code n s (carrierCommand s accepts carrier fields plan) = .next (s.answered n code .state []) := by
  simp only [carrierCommand, h]
  exact runCommand_refuse hs

theorem carrierCommand_range (hs : s.inService) (h : accepts s.setting.op = true)
    (hf : ¬(carrier.toNat ≤ 255 ∧ fields = true)) :
    runCommand code n s (carrierCommand s accepts carrier fields plan) = .next (s.answered n code .range []) := by
  have unsound : ¬(isCarrier carrier && fields) = true := by rwa [Bool.and_eq_true, isCarrier_iff]
  simp only [carrierCommand, h, if_true, if_neg unsound]
  exact runCommand_refuse hs

theorem carrierCommand_plan (h : accepts s.setting.op = true) (hc : carrier.toNat ≤ 255) (hf : fields = true) :
    carrierCommand s accepts carrier fields plan = plan := by
  have sound : (isCarrier carrier && fields) = true := by simp [hc, hf]
  simp only [carrierCommand, h, if_true, if_pos sound]

end

theorem moving_iff (o : OpState) : o.moving = true ↔ o = .active ∨ o = .allStop := by
  cases o <;> simp [OpState.moving]

theorem enrols_iff (o : OpState) : o.enrols = true ↔ o = .standby ∨ o = .active := by
  cases o <;> simp [OpState.enrols]

theorem not_moving {o : OpState} (h : o ≠ .active) (h' : o ≠ .allStop) : o.moving = false := by
  rw [← Bool.not_eq_true, moving_iff]
  exact not_or.mpr ⟨h, h'⟩

theorem not_enrols {o : OpState} (h : o ≠ .standby) (h' : o ≠ .active) : o.enrols = false := by
  rw [← Bool.not_eq_true, enrols_iff]
  exact not_or.mpr ⟨h, h'⟩

/-! ## The checks of ENROL (R82) -/

theorem windowAllowed_iff (b : Half) (z : Byte) : windowAllowed b.toNat z.toNat = true ↔
    (z = 8 ∨ z = 16 ∨ z = 32) ∧ b.toNat % z.toNat = 0 ∧ b.toNat + z.toNat ≤ 4096 := by
  have size (k : Byte) : z.toNat = k.toNat ↔ z = k := BitVec.toNat_inj
  have e8 := size 8
  have e16 := size 16
  have e32 := size 32
  simp only [windowAllowed, Bool.and_eq_true, Bool.or_eq_true, beq_iff_eq, decide_eq_true_eq, or_assoc, and_assoc]
  rw [← e8, ← e16, ← e32]
  rfl

theorem windowTaken_eq_false_iff (s : State) (base size : Nat) : s.windowTaken base size = false ↔
    ∀ d, d < Config.carriers → (s.ctx d).state ≠ .vacant →
      (s.ctx d).windowBase + (s.ctx d).windowSize ≤ base ∨ base + size ≤ (s.ctx d).windowBase := by
  have apart (d : Nat) : ((s.ctx d).state != .vacant && (s.ctx d).overlaps base size) = false ↔
      ((s.ctx d).state ≠ .vacant →
        (s.ctx d).windowBase + (s.ctx d).windowSize ≤ base ∨ base + size ≤ (s.ctx d).windowBase) := by
    rw [Bool.and_eq_false_imp, bne_iff_ne, Context.overlaps, Bool.and_eq_false_iff, decide_eq_false_iff_not,
      decide_eq_false_iff_not, Nat.not_lt, Nat.not_lt]
  simp only [State.windowTaken, State.carriersWith, Bool.not_eq_false', List.isEmpty_iff, List.filter_eq_nil_iff,
    List.mem_range, Bool.not_eq_true, apart]

theorem enrolCell_iff (m : MapStore) (x : Nat) : m.enrolCell x = true ↔
    ∃ q, Table.find m.cells x = some q ∧ (q.kind = .track ∨ q.kind = .lane ∨ q.kind = .dock) ∧ q.corridor = none := by
  cases h : Table.find m.cells x with
  | none => simp [MapStore.enrolCell, MapStore.standing, MapStore.kindOf, h]
  | some q =>
    have standing : q.kind.standing = true ↔ q.kind = .track ∨ q.kind = .lane ∨ q.kind = .dock := by
      cases q.kind <;> simp [CellKind.standing]
    simp [MapStore.enrolCell, MapStore.standing, MapStore.kindOf, MapStore.corridorOf, h, standing]

theorem enrolRoom_iff {m : MapStore} {x : Nat} {q : CellStatic} (h : Table.find m.cells x = some q) (r : CellRun) :
    enrolRoom m x r = true ↔ if q.kind = .lane then r.holders.length < q.capacity.getD 1
      else r.holders = [] ∧ r.reservedFor = none := by
  have lane : m.isLane x = true ↔ q.kind = .lane := by simp [MapStore.isLane, MapStore.kindOf, h]
  unfold enrolRoom
  by_cases hq : q.kind = .lane
  · simp [lane, hq, MapStore.capacity, h, CellStatic.places]
  · simp [lane, hq]

section
variable {c cls x base size : Nat}

theorem enrolPlan_enrolled (h : (s.ctx c).state ≠ .vacant) :
    enrolPlan s c cls x base size = .refused .conflict := if_pos h

theorem enrolPlan_no_class (h : (s.ctx c).state = .vacant) (hk : Table.find s.setting.map.classes cls = none) :
    enrolPlan s c cls x base size = .refused .range := by
  simp only [enrolPlan, h, ne_eq, not_true_eq_false, if_false, hk]

theorem enrolPlan_checked {r : ClassRec} (h : (s.ctx c).state = .vacant)
    (hk : Table.find s.setting.map.classes cls = some r) :
    enrolPlan s c cls x base size =
      if s.setting.map.enrolCell x then
        if enrolRoom s.setting.map x (s.cell x) && (s.cell x).countdown == 0 && !s.windowTaken base size then
          .acts s (enrolRun s.setting s.run c cls r x base size)
        else .refused .conflict
      else .refused .range := by
  simp only [enrolPlan, h, ne_eq, not_true_eq_false, if_false, hk]
  rfl

end

/-! ## The refusals -/

/-- What R82's first check asks of the fields of an ENROL. -/
theorem enrol_fields_iff (c : Half) (k : Byte) (x b : Half) (z : Byte) :
    (c.toNat ≤ 255 ∧ (decide (k.toNat < Config.classes) && isCell x && windowAllowed b.toNat z.toNat) = true) ↔
      c.toNat ≤ 255 ∧ k.toNat ≤ 7 ∧ (1 ≤ x.toNat ∧ x.toNat ≤ 2047) ∧ (z = 8 ∨ z = 16 ∨ z = 32) ∧
        b.toNat % z.toNat = 0 ∧ b.toNat + z.toNat ≤ 4096 := by
  simp only [Bool.and_eq_true, decide_eq_true_eq, isCell_iff, windowAllowed_iff, and_assoc, Nat.lt_succ_iff]

theorem detach_refused (hs : s.inService) (h : s.setting.op = .active ∨ s.setting.op = .allStop) {c : Half}
    (hc : c.toNat ≤ 255) (ha : (s.ctx c.toNat).state ≠ .attached) (hr : (s.ctx c.toNat).state ≠ .running) :
    exec (.detach c) s = .next (s.answered 3 0x11 .conflict []) := by
  change execDetach c s = _
  simp only [execDetach, carrierCommand_plan (accepts := OpState.moving) ((moving_iff _).mpr h) hc rfl]
  cases hk : (s.ctx c.toNat).state with
  | attached => exact absurd hk ha
  | running => exact absurd hk hr
  | vacant => exact runCommand_refuse hs
  | idle => exact runCommand_refuse hs
  | halting => exact runCommand_refuse hs
  | stopped => exact runCommand_refuse hs

section
variable {c : Half} {k : Byte} {x b : Half} {z : Byte}

/-- An ENROL whose fields pass R82's first check comes to the plan of the later checks. -/
theorem exec_enrol_of_fields (h : s.setting.op = .standby ∨ s.setting.op = .active)
    (sound : c.toNat ≤ 255 ∧ k.toNat ≤ 7 ∧ (1 ≤ x.toNat ∧ x.toNat ≤ 2047) ∧ (z = 8 ∨ z = 16 ∨ z = 32) ∧
      b.toNat % z.toNat = 0 ∧ b.toNat + z.toNat ≤ 4096) :
    exec (.enrol c k x b z) s = runCommand 0x0F 9 s (enrolPlan s c.toNat k.toNat x.toNat b.toNat z.toNat) := by
  obtain ⟨hc, hf⟩ := (enrol_fields_iff c k x b z).mpr sound
  change execEnrol c k x b z s = _
  rw [execEnrol, carrierCommand_plan ((enrols_iff _).mpr h) hc hf]

/-- The later checks of ENROL fail on the cell's place in the map (RANGE) or on what stands there (CONFLICT). -/
theorem enrolPlan_cell_refused {r : ClassRec} {c cls x base size : Nat} (h : (s.ctx c).state = .vacant)
    (hk : Table.find s.setting.map.classes cls = some r) :
    (s.setting.map.enrolCell x = false → enrolPlan s c cls x base size = .refused .range) ∧
    (s.setting.map.enrolCell x = true →
      ¬(enrolRoom s.setting.map x (s.cell x) = true ∧ (s.cell x).countdown = 0 ∧
        s.windowTaken base size = false) →
      enrolPlan s c cls x base size = .refused .conflict) := by
  rw [enrolPlan_checked h hk]
  refine ⟨fun no => by simp only [no, Bool.false_eq_true, if_false], fun yes taken => ?_⟩
  rw [if_pos yes]
  refine if_neg (fun free => taken ?_)
  simpa [and_assoc] using free

end

/-- Settles O29: each refusal is the one of its test, in the order of R81 and R82. -/
theorem commandsRefuse : Obligations.CommandsRefuse := by
  unfold Obligations.CommandsRefuse
  intro s hs
  refine ⟨fun h => ?_, fun h h' => ?_, fun h => ?_, fun h h' c k x b z => ?_, fun c hc => ?_,
    fun h c k x b z => ?_, fun h c hc ha hr => detach_refused hs h hc ha hr⟩
  · refine ⟨fun x => cellEdit_not_loaded hs h, fun x => cellEdit_not_loaded hs h, fun x l => cellEdit_not_loaded hs h,
      fun g => ?_, fun c => carrierCommand_state hs h⟩
    change execGateReset g s = _
    simp only [execGateReset, h]
    exact runCommand_refuse hs
  · exact ⟨fun c => carrierCommand_state hs (not_moving h h'), fun c => carrierCommand_state hs (not_moving h h')⟩
  · exact ⟨fun c a => carrierCommand_state hs (beq_false_of_ne h), fun c => carrierCommand_state hs (beq_false_of_ne h)⟩
  · exact carrierCommand_state hs (not_enrols h h')
  · have beyond (f : Bool) : ¬(c.toNat ≤ 255 ∧ f = true) := fun sound => absurd sound.1 (Nat.not_le.mpr hc)
    refine ⟨fun h => carrierCommand_range hs h (beyond _), fun h => ?_, fun h => ?_⟩
    · have moving := (moving_iff s.setting.op).mpr h
      exact ⟨carrierCommand_range hs moving (beyond _), carrierCommand_range hs moving (beyond _)⟩
    · have active := beq_iff_eq.mpr h
      exact ⟨carrierCommand_range hs active (beyond _), fun a => carrierCommand_range hs active (beyond _)⟩
  · refine ⟨fun unsound => ?_, fun sound enrolled => ?_, fun sound vacant undefined => ?_,
      fun sound vacant defined => ?_⟩
    · exact carrierCommand_range hs ((enrols_iff _).mpr h) (mt (enrol_fields_iff c k x b z).mp unsound)
    · rw [exec_enrol_of_fields h sound, enrolPlan_enrolled enrolled]
      exact runCommand_refuse hs
    · rw [exec_enrol_of_fields h sound, enrolPlan_no_class vacant undefined]
      exact runCommand_refuse hs
    · obtain ⟨r, hr⟩ := Option.isSome_iff_exists.mp defined
      obtain ⟨atRange, atConflict⟩ :=
        enrolPlan_cell_refused (x := x.toNat) (base := b.toNat) (size := z.toNat) vacant hr
      rw [exec_enrol_of_fields h sound]
      refine ⟨fun no => ?_, fun stands taken => ?_⟩
      · rw [atRange (Bool.not_eq_true _ ▸ mt (enrolCell_iff _ _).mp no)]
        exact runCommand_refuse hs
      · rw [atConflict ((enrolCell_iff _ _).mpr stands) (fun free => taken ?_)]
        · exact runCommand_refuse hs
        · obtain ⟨room, cleared, apart⟩ := free
          refine ⟨fun q' hq' => ?_, cleared, (windowTaken_eq_false_iff s _ _).mp apart⟩
          exact (enrolRoom_iff hq' _).mp room

end Sys2Proof.Proofs
end

section
/-! Which work may change the step store, the read number and the engine's port reset (O21): no piece of work and no first
effect but those of the engine's own events, so each operation has one lemma here, in the order of the model's files. -/

namespace Sys2Proof.Proofs

open Sys2Proof.Machine Sys2Proof.Laws

/-- The step store, the read number and the level of PE_PERST_N as the engine sees it (R107, R111). -/
def storeOf (r : Records) : Table Slot × Byte × Bool := (r.slots, r.engine.readNumber, r.engine.perst)

section
variable (e : Setting) (v u : Run)

/-! ## Updates of one record -/

@[simp] theorem storeOf_setCell (x : Nat) (r : CellRun) :
    storeOf (v.setCell x r).records = storeOf v.records := rfl
@[simp] theorem storeOf_modCtx (c : Nat) (f : Context → Context) :
    storeOf (v.modCtx c f).records = storeOf v.records := rfl
@[simp] theorem storeOf_setReservations (c : Nat) (l : List (Nat × Nat)) :
    storeOf (v.setReservations c l).records = storeOf v.records := rfl
@[simp] theorem storeOf_setSeniority (l : List Nat) :
    storeOf (v.setSeniority l).records = storeOf v.records := rfl
@[simp] theorem storeOf_setCorridor (k : Nat) (r : CorridorRun) :
    storeOf (v.setCorridor k r).records = storeOf v.records := rfl
@[simp] theorem storeOf_modGate (g : Nat) (f : GateRun → GateRun) :
    storeOf (v.modGate g f).records = storeOf v.records := rfl
@[simp] theorem storeOf_setLink (l : Nat) (k : Link) :
    storeOf (v.setLink l k).records = storeOf v.records := rfl
@[simp] theorem storeOf_raise (f : AlertFlag) :
    storeOf (v.raise f).records = storeOf v.records := rfl
@[simp] theorem storeOf_later (ts : List Task) :
    storeOf (v.later ts).records = storeOf v.records := rfl
@[simp] theorem storeOf_enqueue (r : EngineRequest) :
    storeOf (v.setEngine (v.records.engine.enqueue r)).records = storeOf v.records := rfl
@[simp] theorem storeOf_dropFetch (c : Nat) :
    storeOf (v.setEngine (v.records.engine.dropFetch c)).records = storeOf v.records := rfl

@[simp] theorem storeOf_ite (p : Prop) [Decidable p] (a b : Run) :
    storeOf (if p then a else b).records = if p then storeOf a.records else storeOf b.records :=
  apply_ite (fun w : Run => storeOf w.records) p a b

@[simp] theorem storeOf_foldl {α : Type} (f : Run → α → Run) (hf : ∀ v a, storeOf (f v a).records = storeOf v.records)
    (l : List α) : storeOf (l.foldl f v).records = storeOf v.records := by
  induction l generalizing v with
  | nil => rfl
  | cons a l ih => exact (ih (f v a)).trans (hf v a)

/-! ## Wait edges and recomputations (Chapter 8, R31) -/

theorem storeOf_of_edgesOnly {v u : Run} (h : EdgesOnly v u) : storeOf u.records = storeOf v.records := by
  rw [h.records]
  rfl

theorem storeOf_of_causesOnly {v u : Run} (h : CausesOnly v u) : storeOf u.records = storeOf v.records := by
  rw [h.records]
  rfl

@[simp] theorem storeOf_retireMark (c : Nat) :
    storeOf (v.retireMark c).records = storeOf v.records :=
  storeOf_of_edgesOnly (retireMark_edgesOnly v c)
@[simp] theorem storeOf_setEdge (c : Nat) (t : Option Nat) :
    storeOf (setEdge e v c t).records = storeOf v.records :=
  storeOf_of_edgesOnly (setEdge_edgesOnly e v c t)
@[simp] theorem storeOf_changeEdge (c : Nat) (t : Option Nat) :
    storeOf (changeEdge e v c t).records = storeOf v.records :=
  storeOf_of_edgesOnly (changeEdge_edgesOnly e v c t)
@[simp] theorem storeOf_clearWait (c : Nat) :
    storeOf (clearWait e v c).records = storeOf v.records :=
  storeOf_setEdge e v c none
@[simp] theorem storeOf_recompute (x : Nat) :
    storeOf (recompute e v x).records = storeOf v.records :=
  storeOf_of_causesOnly (recompute_causesOnly e v x)
@[simp] theorem storeOf_recomputeEnds (k : Nat) :
    storeOf (recomputeEnds e v k).records = storeOf v.records :=
  storeOf_of_causesOnly (recomputeEnds_causesOnly e v k)
/-! ## The gate unit (Chapter 7) -/

@[simp] theorem storeOf_stopTimer (g : Nat) :
    storeOf (v.stopTimer g).records = storeOf v.records := rfl
@[simp] theorem storeOf_owe (g : Nat) :
    storeOf (v.owe g).records = storeOf v.records := rfl
@[simp] theorem storeOf_openDeferred :
    storeOf (openDeferred v).records = storeOf v.records := rfl

@[simp] theorem storeOf_gateBusy (g : Nat) :
    storeOf (gateBusy v g).records = storeOf v.records := by
  simp [gateBusy]

@[simp] theorem storeOf_startHold (g : Nat) :
    storeOf (startHold e v g).records = storeOf v.records := by
  unfold startHold
  split <;> simp

@[simp] theorem storeOf_gateIdleCheck (g : Nat) :
    storeOf (gateIdleCheck e v g).records = storeOf v.records := by
  simp [gateIdleCheck]

@[simp] theorem storeOf_queueFilled (x : Nat) :
    storeOf (queueFilled e v x).records = storeOf v.records := by
  unfold queueFilled
  split <;> simp

@[simp] theorem storeOf_queueEmptied (x : Nat) :
    storeOf (queueEmptied e v x).records = storeOf v.records := by
  unfold queueEmptied
  split <;> simp

@[simp] theorem storeOf_gateReleased (g : Nat) :
    storeOf (gateReleased e v g).records = storeOf v.records := by
  simp [gateReleased]

@[simp] theorem storeOf_gateOpens (g : Nat) :
    storeOf (gateOpens v g).records = storeOf v.records := by
  simp [gateOpens]

@[simp] theorem storeOf_gateCalls (g : Nat) :
    storeOf (gateCalls e v g).records = storeOf v.records := by
  simp [gateCalls]

@[simp] theorem storeOf_gateCall (g : Nat) :
    storeOf (gateCall e v g).records = storeOf v.records := by
  unfold gateCall
  repeat' split
  all_goals simp

@[simp] theorem storeOf_gateOpened (g : Nat) :
    storeOf (gateOpened e v g).records = storeOf v.records := by
  unfold gateOpened
  repeat' split
  all_goals simp

@[simp] theorem storeOf_gateAfterOffer (g : Nat) :
    storeOf (gateAfterOffer e v g).records = storeOf v.records := by
  simp [gateAfterOffer]

@[simp] theorem storeOf_gateDrain (g : Nat) :
    storeOf (gateDrain e v g).records = storeOf v.records := by
  simp [gateDrain]

@[simp] theorem storeOf_gateShut (g : Nat) :
    storeOf (gateShut v g).records = storeOf v.records := by
  simp [gateShut]

@[simp] theorem storeOf_gateOwedPartner (g : Nat) :
    storeOf (gateOwedPartner e v g).records = storeOf v.records := by
  unfold gateOwedPartner
  split <;> simp

@[simp] theorem storeOf_gateOwedSelf (g : Nat) :
    storeOf (gateOwedSelf e v g).records = storeOf v.records := by
  simp [gateOwedSelf]

@[simp] theorem storeOf_gateFaults (g : Nat) :
    storeOf (gateFaults e v g).records = storeOf v.records := by
  simp [gateFaults]
/-! ## Windows and links (R108, R110, Chapter 9) -/


@[simp] theorem storeOf_fetchTrigger (c : Nat) :
    storeOf (fetchTrigger v c).records = storeOf v.records := by
  simp [fetchTrigger]
@[simp] theorem storeOf_freeWindow (c : Nat) :
    storeOf (freeWindow v c).records = storeOf v.records := rfl

@[simp] theorem storeOf_placeOn (l : Nat) (m : Message) :
    storeOf (placeOn v l m).records = storeOf v.records := by
  simp [placeOn]

@[simp] theorem storeOf_send (c : Nat) (p : Payload) :
    storeOf (send v c p).records = storeOf v.records := by
  unfold send
  split <;> simp

@[simp] theorem storeOf_setHome (c l : Nat) :
    storeOf (setHome v c l).records = storeOf v.records := by
  unfold setHome
  split <;> simp

@[simp] theorem storeOf_removeMessages (c : Nat) :
    storeOf (removeMessages v c).records = storeOf v.records := by
  exact storeOf_foldl v _ (fun v l => storeOf_setLink v l _) _
/-! ## The rights table and the corridor unit (Chapters 2 and 4) -/

@[simp] theorem storeOf_takeFrom (x c : Nat) :
    storeOf (v.takeFrom x c).records = storeOf v.records := rfl
@[simp] theorem storeOf_dropSeniority (c : Nat) :
    storeOf (v.dropSeniority c).records = storeOf v.records := rfl
@[simp] theorem storeOf_joinSeniority (c : Nat) :
    storeOf (v.joinSeniority c).records = storeOf v.records := rfl

@[simp] theorem storeOf_leaveQueue (c : Nat) :
    storeOf (leaveQueue e v c).records = storeOf v.records := by
  unfold leaveQueue
  split <;> simp

@[simp] theorem storeOf_leaveWaiting (c : Nat) :
    storeOf (leaveWaiting e v c).records = storeOf v.records := by
  simp [leaveWaiting]

@[simp] theorem storeOf_appointTurn (k : Nat) :
    storeOf (appointTurn e v k).records = storeOf v.records := by
  simp only [appointTurn]
  repeat' split
  all_goals simp

@[simp] theorem storeOf_corridorEnter (k position c : Nat) :
    storeOf (corridorEnter e v k position c).records = storeOf v.records := by
  simp [corridorEnter]

@[simp] theorem storeOf_corridorFailed (k c : Nat) :
    storeOf (corridorFailed e v k c).records = storeOf v.records := by
  simp [corridorFailed]

@[simp] theorem storeOf_corridorLeave (k c : Nat) :
    storeOf (corridorLeave e v k c).records = storeOf v.records := by
  simp only [corridorLeave]
  repeat' split
  all_goals simp

@[simp] theorem storeOf_cancelTurn (k : Nat) :
    storeOf (cancelTurn e v k).records = storeOf v.records := by
  simp [cancelTurn]

@[simp] theorem storeOf_cancelTurns (c : Nat) :
    storeOf (cancelTurns e v c).records = storeOf v.records := by
  simp [cancelTurns]

@[simp] theorem storeOf_reserve (c : Nat) (p : Nat × Nat) :
    storeOf (reserve e c v p).records = storeOf v.records := by
  simp [reserve]

@[simp] theorem storeOf_clearReservation (c : Nat) (p : Nat × Nat) :
    storeOf (clearReservation e c v p).records = storeOf v.records := by
  simp [clearReservation]

@[simp] theorem storeOf_clearReservations (c : Nat) (ps : List (Nat × Nat)) :
    storeOf (clearReservations e v c ps).records = storeOf v.records := by
  simp [clearReservations]

@[simp] theorem storeOf_releaseEntry (c : Nat) (h : Held) :
    storeOf (releaseEntry e c v h).records = storeOf v.records := by
  simp [releaseEntry]

@[simp] theorem storeOf_release (c : Nat) (entries : List Held) :
    storeOf (release e v c entries).records = storeOf v.records := by
  simp [release]

@[simp] theorem storeOf_retargetLane (x : Nat) (ahead : Option Nat) (l : List Nat) :
    storeOf (retargetLane e x v ahead l).records = storeOf v.records := by
  induction l generalizing v ahead with
  | nil => rfl
  | cons h rest ih =>
    rw [retargetLane, ih]
    split
    · exact storeOf_changeEdge e v h ahead
    · rfl

@[simp] theorem storeOf_laneClosesUp (x : Nat) (wasOldest : Bool) (behind : Option Nat) :
    storeOf (laneClosesUp e v x wasOldest behind).records = storeOf v.records := by
  unfold laneClosesUp
  repeat' split
  all_goals simp

@[simp] theorem storeOf_leaveCorridorOf (c x : Nat) :
    storeOf (leaveCorridorOf e v c x).records = storeOf v.records := by
  unfold leaveCorridorOf
  split <;> simp

@[simp] theorem storeOf_freed (c x : Nat) (emptied wasOldest : Bool) (behind : Option Nat) :
    storeOf (freed e v c x emptied wasOldest behind).records = storeOf v.records := by
  simp only [freed]
  split <;> simp

@[simp] theorem storeOf_freedSettle (x : Nat) (offers : Bool) :
    storeOf (freedSettle e v x offers).records = storeOf v.records := by
  simp [freedSettle]
/-! ## The authority unit (Chapter 3) -/


@[simp] theorem storeOf_sendNotice (c : Nat) :
    storeOf (sendNotice e v c).records = storeOf v.records := by
  simp [sendNotice]

@[simp] theorem storeOf_sendWait (c : Nat) (r : Reason) :
    storeOf (sendWait v c r).records = storeOf v.records := by
  simp [sendWait]

@[simp] theorem storeOf_sendStop (c : Nat) :
    storeOf (sendStop v c).records = storeOf v.records := by
  unfold sendStop
  split <;> simp

@[simp] theorem storeOf_grantCell (c : Nat) (p : Nat × Nat) :
    storeOf (grantCell e c v p).records = storeOf v.records := by
  simp [grantCell]

@[simp] theorem storeOf_grantReport (c : Nat) (p : Nat × Nat) :
    storeOf (grantReport e c v p).records = storeOf v.records := by
  unfold grantReport
  repeat' split
  all_goals simp

@[simp] theorem storeOf_grantRun (c : Nat) (run : List (Nat × Nat)) :
    storeOf (grantRun e v c run).records = storeOf v.records := by
  simp [grantRun]

@[simp] theorem storeOf_passOver (c y : Nat) (run : List (Nat × Nat)) :
    storeOf (passOver e v c y run).records = storeOf v.records := by
  simp [passOver]

@[simp] theorem storeOf_placeWaiter (c y j : Nat) (cause : BlockCause) (taken : Option Nat) :
    storeOf (placeWaiter e v c y j cause taken).records = storeOf v.records := by
  simp [placeWaiter]
@[simp] theorem storeOf_recordWait (c y : Nat) (kept : Bool) :
    storeOf (recordWait e v c y kept).records = storeOf v.records := rfl

@[simp] theorem storeOf_runFails (c : Nat) (run : List (Nat × Nat)) (y j : Nat) (cause : BlockCause) (target taken : Option Nat) :
    storeOf (runFails e v c run y j cause target taken).records = storeOf v.records := by
  unfold runFails
  repeat' split
  all_goals simp

@[simp] theorem storeOf_attemptStart (c : Nat) (after : After) :
    storeOf (attemptStart e v c after).records = storeOf v.records := by
  unfold attemptStart
  repeat' split
  all_goals simp

@[simp] theorem storeOf_attemptRound (c : Nat) (granted : Bool) (after : After) :
    storeOf (attemptRound e v c granted after).records = storeOf v.records := by
  simp only [attemptRound]
  repeat' split
  all_goals simp

@[simp] theorem storeOf_waitInLane (c x : Nat) :
    storeOf (waitInLane e v c x).records = storeOf v.records := by
  simp [waitInLane]

@[simp] theorem storeOf_settleWait (c : Nat) (reason : Reason) :
    storeOf (settleWait e v c reason).records = storeOf v.records := by
  unfold settleWait
  repeat' split
  all_goals simp

@[simp] theorem storeOf_attemptEnd (c : Nat) (reason : Reason) (granted : Bool) (after : After) :
    storeOf (attemptEnd e v c reason granted after).records = storeOf v.records := by
  unfold attemptEnd
  split <;> simp

@[simp] theorem storeOf_offerStart (x : Nat) :
    storeOf (offerStart e v x).records = storeOf v.records := by
  simp [offerStart]

@[simp] theorem storeOf_offerNext (x : Nat) (left : List Nat) :
    storeOf (offerNext e v x left).records = storeOf v.records := by
  unfold offerNext
  repeat' split
  all_goals simp
/-! ## The carrier table (Chapter 5) -/


@[simp] theorem storeOf_giveUpClaims (c : Nat) :
    storeOf (giveUpClaims e v c).records = storeOf v.records := by
  simp [giveUpClaims]

@[simp] theorem storeOf_halt (c : Nat) (cause : StopCause) :
    storeOf (halt e v c cause).records = storeOf v.records := by
  simp only [halt]
  split <;> simp
@[simp] theorem storeOf_becomeStopped (c : Nat) (cause : StopCause) :
    storeOf (becomeStopped v c cause).records = storeOf v.records := rfl

@[simp] theorem storeOf_trim (c : Nat) :
    storeOf (trim e v c).records = storeOf v.records := by
  simp [trim]

@[simp] theorem storeOf_routeEndKeeping (c : Nat) (result : RouteResult) (kept : Held → Bool) :
    storeOf (routeEndKeeping e v c result kept).records = storeOf v.records := by
  simp [routeEndKeeping]

@[simp] theorem storeOf_routeEnd (c : Nat) (result : RouteResult) :
    storeOf (routeEnd e v c result).records = storeOf v.records := by
  simp [routeEnd]

@[simp] theorem storeOf_rangeEnd (c : Nat) (result : RouteResult) :
    storeOf (rangeEnd e v c result).records = storeOf v.records := by
  simp [rangeEnd]

@[simp] theorem storeOf_queueWriteBack (c : Nat) (result : RouteResult) :
    storeOf (queueWriteBack v c result).records = storeOf v.records := by
  simp only [queueWriteBack]
  split <;> simp

@[simp] theorem storeOf_routeEndRest (c : Nat) (result : RouteResult) :
    storeOf (routeEndRest e v c result).records = storeOf v.records := by
  simp [routeEndRest]

@[simp] theorem storeOf_routeStart (c : Nat) :
    storeOf (routeStart e v c).records = storeOf v.records := by
  simp only [routeStart]
  split <;> simp

@[simp] theorem storeOf_resume (c : Nat) :
    storeOf (resume e v c).records = storeOf v.records := by
  simp [resume]

@[simp] theorem storeOf_recoverRest (c : Nat) :
    storeOf (recoverRest e v c).records = storeOf v.records := by
  simp [recoverRest]

@[simp] theorem storeOf_retireRelease (c : Nat) :
    storeOf (retireRelease e v c).records = storeOf v.records := by
  simp [retireRelease]

@[simp] theorem storeOf_retireRest (c : Nat) :
    storeOf (retireRest v c).records = storeOf v.records := by
  simp [retireRest]

@[simp] theorem storeOf_cutEnd (c : Nat) :
    storeOf (cutEnd e v c).records = storeOf v.records := by
  simp [cutEnd]

@[simp] theorem storeOf_passRest (c speed : Nat) :
    storeOf (passRest e v c speed).records = storeOf v.records := by
  simp [passRest]

@[simp] theorem storeOf_haltingRest (c speed : Nat) :
    storeOf (haltingRest e v c speed).records = storeOf v.records := by
  simp [haltingRest]

@[simp] theorem storeOf_haltingExit (c : Nat) :
    storeOf (haltingExit e v c).records = storeOf v.records := by
  unfold haltingExit
  repeat' split
  all_goals simp
@[simp] theorem storeOf_recordSpeed (c speed : Nat) :
    storeOf (v.recordSpeed c speed).records = storeOf v.records := rfl
@[simp] theorem storeOf_recordRequest (c requested : Nat) :
    storeOf (recordRequest e v c requested).records = storeOf v.records := rfl
@[simp] theorem storeOf_restoreContact (c : Nat) :
    storeOf (restoreContact v c).records = storeOf v.records := rfl
@[simp] theorem storeOf_countFailure (l : Nat) (f : FrameFailure) :
    storeOf (countFailure v l f).records = storeOf v.records := rfl

@[simp] theorem storeOf_movePosition (c f r x : Nat) :
    storeOf (movePosition e v c f r x).records = storeOf v.records := by
  simp [movePosition]

@[simp] theorem storeOf_replyAfterRestore (c : Nat) (wasSilent : Bool) :
    storeOf (replyAfterRestore e v c wasSilent).records = storeOf v.records := by
  simp [replyAfterRestore]

@[simp] theorem storeOf_charge (c : Nat) (wasSilent : Bool) :
    storeOf (charge e v c wasSilent).records = storeOf v.records := by
  simp [charge]

@[simp] theorem storeOf_runningPass (c f r x speed : Nat) (wasSilent : Bool) :
    storeOf (runningPass e v c f r x speed wasSilent).records = storeOf v.records := by
  unfold runningPass
  split <;> simp

@[simp] theorem storeOf_runningAsk (c f speed requested : Nat) (resume : Bool) :
    storeOf (runningAsk e v c f speed requested resume).records = storeOf v.records := by
  simp [runningAsk]

@[simp] theorem storeOf_runningDone (c f speed : Nat) (wasSilent : Bool) :
    storeOf (runningDone e v c f speed wasSilent).records = storeOf v.records := by
  simp [runningDone]

@[simp] theorem storeOf_haltingOverrun (c speed : Nat) :
    storeOf (haltingOverrun v c speed).records = storeOf v.records := by
  simp [haltingOverrun]

@[simp] theorem storeOf_haltingPass (c f r x speed : Nat) :
    storeOf (haltingPass e v c f r x speed).records = storeOf v.records := by
  unfold haltingPass
  split <;> simp

@[simp] theorem storeOf_haltingAsk (c f speed requested : Nat) :
    storeOf (haltingAsk e v c f speed requested).records = storeOf v.records := by
  simp [haltingAsk]

@[simp] theorem storeOf_haltingDone (c speed : Nat) :
    storeOf (haltingDone v c speed).records = storeOf v.records := by
  simp [haltingDone]

@[simp] theorem storeOf_carrierRequest (c : Nat) (q : Request) :
    storeOf (carrierRequest e v c q).records = storeOf v.records := by
  simp only [carrierRequest, runningRequest, haltingRequest]
  repeat' split
  all_goals simp

@[simp] theorem storeOf_frameArrives (l c : Nat) (q : Request) :
    storeOf (frameArrives e v l c q).records = storeOf v.records := by
  simp [frameArrives]

@[simp] theorem storeOf_silenceReached (c : Nat) :
    storeOf (silenceReached e v c).records = storeOf v.records := by
  simp [silenceReached]

@[simp] theorem storeOf_lostReached (c : Nat) :
    storeOf (lostReached e v c).records = storeOf v.records := by
  simp only [lostReached]
  repeat' split
  all_goals simp

/-! ## Every piece of work -/

/-- No piece of work writes the step store or the engine's port. -/
@[simp] theorem storeOf_runTask (a : Task) : storeOf (runTask e a v).records = storeOf v.records := by
  cases a <;> simp [runTask]

end

/-- What an event's work comes to, its step store and the engine's port are those of its first effects. -/
theorem storeOf_settled {e : Setting} {v : Run} {r : Records} (h : settled e v = some r) :
    storeOf r = storeOf v.records :=
  settled_keeps (fun q => storeOf q = storeOf v.records) (fun a u hu => (storeOf_runTask e u a).trans hu) h rfl

end Sys2Proof.Proofs
end

section
/-! Which events may change which records (O21): the engine's own events first, then every command and event. -/

namespace Sys2Proof.Proofs

open Sys2Proof.Machine Sys2Proof.Laws

/-! ## The engine's events (R111 to R118) -/

/-- The read number and the level of PE_PERST_N as the engine sees it (R111). -/
def portOf (r : Records) : Byte × Bool := (storeOf r).2

section
variable (e : Setting) (v : Run)

theorem portOf_of_storeOf {r q : Records} (h : storeOf r = storeOf q) : portOf r = portOf q := congrArg Prod.snd h

@[simp] theorem storeOf_clearBeyondCut (c : Nat) :
    storeOf (clearBeyondCut e v c).records = storeOf v.records := by
  unfold clearBeyondCut
  split <;> simp

@[simp] theorem storeOf_cutRoute (c f : Nat) (result : RouteResult) :
    storeOf (cutRoute e v c f result).1.records = storeOf v.records := by
  unfold cutRoute
  split <;> simp

@[simp] theorem storeOf_actOnRead (c : Nat) (o : ReadOutcome) :
    storeOf (actOnRead e v c o).records = storeOf v.records := by
  unfold actOnRead
  split <;> simp

@[simp] theorem storeOf_busFault (c : Nat) : storeOf (busFault e v c).records = storeOf v.records := by
  simp only [busFault]
  split <;> simp

/-- A read that ends without data leaves the step store and the port as they are (R118). -/
@[simp] theorem storeOf_endRead_none (r : ReadInFlight) :
    storeOf (endRead e v r none).records = storeOf v.records := by
  have ended (q : Option ReadInFlight) (n : Option Nat) (d : Bool) :
      storeOf (v.setEngine { v.records.engine with inFlight := q, timer := n, due := d }).records =
        storeOf v.records := rfl
  simp [endRead, ended]

@[simp] theorem storeOf_readTimerExpires : storeOf (readTimerExpires e v).records = storeOf v.records := by
  simp only [readTimerExpires]
  split <;> simp

@[simp] theorem storeOf_serveWriteBack : storeOf (serveWriteBack v).records = storeOf v.records := by
  simp only [serveWriteBack]
  split
  · split <;> rfl
  · rfl
  · rfl

theorem portOf_appendSteps (c n : Nat) (records : List Slot) :
    portOf (appendSteps e c n v records).1.records = portOf v.records := by
  induction records generalizing v with
  | nil => rfl
  | cons s rest ih =>
    simp only [appendSteps]
    split
    · rfl
    · split
      · exact ih _
      · rfl

theorem portOf_useSteps (c : Nat) (records : List Slot) :
    portOf (useSteps e v c records).records = portOf v.records := by
  simp only [useSteps]
  split
  · rw [portOf_of_storeOf (storeOf_actOnRead ..)]
    exact portOf_appendSteps ..
  · refine Eq.trans (portOf_of_storeOf ?_) (portOf_appendSteps e v c ((v.ctx c).stepCount.getD 0) records)
    simp

theorem portOf_useData (c : Nat) (first : Bool) (data : List Byte) :
    portOf (useData e v c first data).records = portOf v.records := by
  simp only [useData]
  split
  · split
    · exact portOf_useSteps ..
    · exact portOf_of_storeOf (by simp)
  · exact portOf_useSteps ..

theorem portOf_endRead (r : ReadInFlight) (data : Option (List Byte)) :
    portOf (endRead e v r data).records = portOf v.records := by
  cases data with
  | none => exact portOf_of_storeOf (storeOf_endRead_none ..)
  | some d =>
    simp only [endRead, Run.later_records]
    split
    · exact portOf_useData ..
    · rfl

theorem portOf_completionArrives (number : Byte) (status : CompletionStatus) (data : List Byte) :
    portOf (completionArrives e v number status data).records = portOf v.records := by
  simp only [completionArrives]
  split
  · rfl
  · split
    · rfl
    · split
      · exact portOf_endRead ..
      · exact portOf_endRead ..
      · split
        · exact portOf_endRead ..
        · rfl

/-- Serving a fetch changes of the step store and the port the read number alone. -/
theorem serveFetch_keeps : (serveFetch v).records.slots = v.records.slots ∧
    (serveFetch v).records.engine.perst = v.records.engine.perst := by
  simp only [serveFetch]
  split
  · split
    · split <;> exact ⟨rfl, rfl⟩
    · exact ⟨rfl, rfl⟩
  · exact ⟨rfl, rfl⟩
  · exact ⟨rfl, rfl⟩

/-- The assertion of PE_PERST_N changes of the step store and the port the level alone. -/
theorem storeOf_perstAsserted : storeOf (perstAsserted e v).records =
    (v.records.slots, v.records.engine.readNumber, true) := by
  have set : storeOf (v.setEngine { v.records.engine with perst := true }).records =
    (v.records.slots, v.records.engine.readNumber, true) := rfl
  simp only [perstAsserted]
  split
  · split
    · exact set
    · rw [storeOf_endRead_none, set]
  · exact set

end

/-! ## Commands -/

/-- The tick counter, the levels kept of the pins, the pins, the enable mask, the step store and the engine's port are as
before, and so is the map store but where `W` holds. -/
structure Untouched (W : Prop) (s t : State) : Prop where
  map : t.setting.map = s.setting.map ∨ W
  tick : t.setting.tick = s.setting.tick
  ready : t.setting.ready = s.setting.ready
  pins : t.pins = s.pins
  estop : t.supervisor.estopLevel = s.supervisor.estopLevel
  enable : t.supervisor.enable = s.supervisor.enable
  store : storeOf t.records = storeOf s.records

theorem Untouched.refl (W : Prop) (s : State) : Untouched W s s := ⟨.inl rfl, rfl, rfl, rfl, rfl, rfl, rfl⟩

/-- What a plan of a command leaves untouched: the part as its first effects leave it, with the records of their run. -/
def Plan.Leaves (W : Prop) (s : State) : Plan → Prop
  | .refuse _ _ => True
  | .accept p u _ => Untouched W s { p with records := u.records }

section
variable {W : Prop} {s t : State}

theorem leaves_refused (status : Status) : Plan.Leaves W s (.refused status) := trivial

theorem leaves_done_self (data : List Byte) : Plan.Leaves W s (.done s data) := Untouched.refl W s

theorem leaves_acts {v : Run} (h : storeOf v.records = storeOf s.records) : Plan.Leaves W s (.acts s v) :=
  ⟨.inl rfl, rfl, rfl, rfl, rfl, rfl, h⟩

theorem leaves_ite {p : Prop} [Decidable p] {a b : Plan} (ha : Plan.Leaves W s a) (hb : Plan.Leaves W s b) :
    Plan.Leaves W s (if p then a else b) := by
  split
  · exact ha
  · exact hb

theorem leaves_cellEdit {cell : Half} {plan : Plan} (h : Plan.Leaves W s plan) :
    Plan.Leaves W s (cellEdit s cell plan) :=
  leaves_ite (leaves_ite h (leaves_refused _)) (leaves_refused _)

theorem leaves_carrierCommand {accepts : OpState → Bool} {carrier : Half} {fields : Bool} {plan : Plan}
    (h : Plan.Leaves W s plan) : Plan.Leaves W s (carrierCommand s accepts carrier fields plan) :=
  leaves_ite (leaves_ite h (leaves_refused _)) (leaves_refused _)

theorem leaves_query {α : Type} (accepts : Bool) (record : Option α) (data : α → List Byte) :
    Plan.Leaves W s (query s accepts record data) := by
  refine leaves_ite ?_ (leaves_refused _)
  cases record with
  | none => exact leaves_refused _
  | some a => exact leaves_done_self _

theorem leaves_mapRecord {α : Type} (fields : Option α) (store : α → MapStore) :
    Plan.Leaves True s (mapRecord s fields store) := by
  refine leaves_ite ?_ (leaves_refused _)
  cases fields with
  | none => exact leaves_refused _
  | some a => exact ⟨.inr trivial, rfl, rfl, rfl, rfl, rfl, rfl⟩

/-- What a command's plan leaves untouched, the command does. -/
theorem untouched_of_command {code : Byte} {n : Nat} {plan : Plan} (h : runCommand code n s plan = .next t)
    (k : Plan.Leaves W s plan) : Untouched W s t := by
  rcases runCommand_next h with ⟨-, rfl⟩ | ⟨status, data, -, rfl⟩ | ⟨p, u, data, r, rfl, hr, rfl⟩
  · exact .refl W t
  · exact ⟨.inl rfl, rfl, rfl, rfl, rfl, rfl, rfl⟩
  · obtain ⟨map, tick, ready, pins, estop, enable, store⟩ := k
    exact ⟨map, tick, ready, pins, estop, enable, (storeOf_settled hr).trans store⟩

end

/-! ## Events that are no command -/

section
variable {s t : State}

/-- An event whose first effects leave the step store and the port as they are changes the records alone. -/
theorem untouched_of_event {f : Setting → Run → Run} (h : runEvent s f = .next t)
    (k : ∀ e v, storeOf (f e v).records = storeOf v.records) : Untouched False s t ∧ t.supervisor = s.supervisor := by
  rcases runEvent_next h with ⟨-, rfl⟩ | ⟨r, hr, rfl⟩
  · exact ⟨.refl False t, rfl⟩
  · exact ⟨⟨.inl rfl, rfl, rfl, rfl, rfl, rfl, (storeOf_settled hr).trans (k _ _)⟩, rfl⟩

theorem untouched_of_finish {v : Run} (h : finish s v = .next t) (k : storeOf v.records = storeOf s.records) :
    Untouched False s t ∧ t.supervisor = s.supervisor := by
  obtain ⟨r, hr, rfl⟩ := finish_next h
  exact ⟨⟨.inl rfl, rfl, rfl, rfl, rfl, rfl, (storeOf_settled hr).trans k⟩, rfl⟩

end

/-! ## The first effects of the commands and events -/

section
variable (e : Setting) (v : Run)

theorem storeOf_closeRun (x : Nat) : storeOf (closeRun e v x).records = storeOf v.records := by
  simp [closeRun]

theorem storeOf_openRun (x : Nat) : storeOf (openRun e v x).records = storeOf v.records := by
  simp [openRun]

theorem storeOf_limitNotice (c : Nat) : storeOf (limitNotice e v c).records = storeOf v.records := by
  simp [limitNotice]

theorem storeOf_limitRun (x : Nat) (lowered : Bool) : storeOf (limitRun e v x lowered).records = storeOf v.records := by
  simp [limitRun, storeOf_limitNotice]

theorem storeOf_enrolRun (c cls : Nat) (r : ClassRec) (x base size : Nat) :
    storeOf (enrolRun e v c cls r x base size).records = storeOf v.records := by
  simp [enrolRun]

theorem storeOf_retireRun (c : Nat) : storeOf (retireRun e v c).records = storeOf v.records := by
  simp [retireRun]

theorem storeOf_readyRun (g : Nat) : storeOf (readyRun e v g).records = storeOf v.records := by
  unfold readyRun
  split <;> simp

theorem storeOf_clearanceRun (x : Nat) : storeOf (clearanceRun e v x).records = storeOf v.records := by
  simp [clearanceRun]

theorem storeOf_goodFrame (l c : Nat) (q : Request) : storeOf (goodFrame e v l c q).records = storeOf v.records := by
  simp [goodFrame, Run.setReceiver]

theorem storeOf_characterRun (l : Nat) (char : Byte) (framingError : Bool) :
    storeOf (characterRun e v l char framingError).records = storeOf v.records := by
  simp only [characterRun, Run.setReceiver]
  split <;> simp

end

/-! ## The plans of the commands -/

section
variable {s : State}

theorem leaves_mapBegin : Plan.Leaves True s (.done s.beginMap []) := ⟨.inr trivial, rfl, rfl, rfl, rfl, rfl, rfl⟩

theorem leaves_mapEnd (data : List Byte) : Plan.Leaves True s (.done s.completeMap data) :=
  ⟨.inr trivial, rfl, rfl, rfl, rfl, rfl, rfl⟩

/-- A command that enters an operating state, with first effects that leave the step store and the port. -/
theorem leaves_enter (o : OpState) {v : Run} (data : List Byte) (h : storeOf v.records = storeOf s.records) :
    Plan.Leaves False s (.accept (s.enter o) v data) := ⟨.inl rfl, rfl, rfl, rfl, rfl, rfl, h⟩

theorem leaves_restart : Plan.Leaves False s
    (.done { s.enter .standby with records := s.records.restarted s.setting.map } []) :=
  ⟨.inl rfl, rfl, rfl, rfl, rfl, rfl, rfl⟩

theorem leaves_setLimit (m : MapStore) {v : Run} (h : storeOf v.records = storeOf s.records) :
    Plan.Leaves True s (.acts (s.setMap m) v) := ⟨.inr trivial, rfl, rfl, rfl, rfl, rfl, h⟩

theorem leaves_enrolPlan (c cls x base size : Nat) : Plan.Leaves False s (enrolPlan s c cls x base size) := by
  refine leaves_ite (leaves_refused _) ?_
  split
  · exact leaves_refused _
  · refine leaves_ite (leaves_ite (leaves_acts ?_) (leaves_refused _)) (leaves_refused _)
    exact storeOf_enrolRun ..

theorem leaves_clearAlerts (alerts : BitVec 10) (data : List Byte) :
    Plan.Leaves False s (.done { s with records := { s.records with alerts := alerts } } data) :=
  ⟨.inl rfl, rfl, rfl, rfl, rfl, rfl, rfl⟩

theorem leaves_readLink (p : Prop) [Decidable p] (l : Nat) (k : Link) (data : List Byte) :
    Plan.Leaves False s (.done (if p then s else s.setLink l k) data) := by
  split
  · exact leaves_done_self data
  · exact ⟨.inl rfl, rfl, rfl, rfl, rfl, rfl, rfl⟩

end

/-! ## What each kind of event may change -/

section
variable {s t : State} {W : Prop}

theorem Untouched.slots (h : Untouched W s t) : t.records.slots = s.records.slots := congrArg Prod.fst h.store

theorem Untouched.readNumber (h : Untouched W s t) : t.records.engine.readNumber = s.records.engine.readNumber :=
  congrArg (fun q => q.2.1) h.store

theorem Untouched.perst (h : Untouched W s t) : t.records.engine.perst = s.records.engine.perst :=
  congrArg (fun q => q.2.2) h.store

/-- Each of the ten records of O21 is as before or has its claim. -/
def ChangesOnlyBy (s t : State) (M T R P E N A S Q X : Prop) : Prop :=
  (t.setting.map ≠ s.setting.map → M) ∧ (t.setting.tick ≠ s.setting.tick → T) ∧
  (t.setting.ready ≠ s.setting.ready → R) ∧ (t.pins ≠ s.pins → P) ∧
  (t.supervisor.estopLevel ≠ s.supervisor.estopLevel → E) ∧ (t.supervisor.enable ≠ s.supervisor.enable → N) ∧
  (t.supervisor.response ≠ s.supervisor.response → A) ∧ (t.records.slots ≠ s.records.slots → S) ∧
  (t.records.engine.readNumber ≠ s.records.engine.readNumber → Q) ∧
  (t.records.engine.perst ≠ s.records.engine.perst → X)

variable {M T R P E N A S Q X : Prop}

theorem changesOnlyBy_of_kept (map : t.setting.map = s.setting.map ∨ M) (tick : t.setting.tick = s.setting.tick ∨ T)
    (ready : t.setting.ready = s.setting.ready ∨ R) (pins : t.pins = s.pins ∨ P)
    (estop : t.supervisor.estopLevel = s.supervisor.estopLevel ∨ E)
    (enable : t.supervisor.enable = s.supervisor.enable ∨ N)
    (response : t.supervisor.response = s.supervisor.response ∨ A) (slots : t.records.slots = s.records.slots ∨ S)
    (number : t.records.engine.readNumber = s.records.engine.readNumber ∨ Q)
    (perst : t.records.engine.perst = s.records.engine.perst ∨ X) : ChangesOnlyBy s t M T R P E N A S Q X :=
  ⟨map.resolve_left, tick.resolve_left, ready.resolve_left, pins.resolve_left, estop.resolve_left,
    enable.resolve_left, response.resolve_left, slots.resolve_left, number.resolve_left, perst.resolve_left⟩

theorem changesOnlyBy_of_untouched (h : Untouched W s t) (writes : W → M)
    (response : t.supervisor.response = s.supervisor.response ∨ A) : ChangesOnlyBy s t M T R P E N A S Q X :=
  changesOnlyBy_of_kept (h.map.imp_right writes) (.inl h.tick) (.inl h.ready) (.inl h.pins) (.inl h.estop)
    (.inl h.enable) response (.inl h.slots) (.inl h.readNumber) (.inl h.perst)

theorem changesOnlyBy_refl (s : State) : ChangesOnlyBy s s M T R P E N A S Q X :=
  changesOnlyBy_of_untouched (.refl False s) False.elim (.inl rfl)

theorem changesOnlyBy_of_mapCommand {code : Byte} {n : Nat} {plan : Plan} (h : runCommand code n s plan = .next t)
    (k : Plan.Leaves True s plan) (m : M) (a : A) : ChangesOnlyBy s t M T R P E N A S Q X :=
  changesOnlyBy_of_untouched (untouched_of_command h k) (fun _ => m) (.inr a)

theorem changesOnlyBy_of_command {code : Byte} {n : Nat} {plan : Plan} (h : runCommand code n s plan = .next t)
    (k : Plan.Leaves False s plan) (a : A) : ChangesOnlyBy s t M T R P E N A S Q X :=
  changesOnlyBy_of_untouched (untouched_of_command h k) False.elim (.inr a)

theorem changesOnlyBy_of_event {f : Setting → Run → Run} (h : runEvent s f = .next t)
    (k : ∀ e v, storeOf (f e v).records = storeOf v.records) : ChangesOnlyBy s t M T R P E N A S Q X := by
  obtain ⟨untouched, supervisor⟩ := untouched_of_event h k
  exact changesOnlyBy_of_untouched untouched False.elim (.inl (by rw [supervisor]))

theorem changesOnlyBy_of_shiftBuffer {n : Nat} (h : shiftBuffer n s = .next t) :
    ChangesOnlyBy s t M T R P E N A S Q X := by
  unfold shiftBuffer at h
  split at h
  · cases h
    exact changesOnlyBy_refl s
  · cases h
    exact changesOnlyBy_of_untouched (W := False) ⟨.inl rfl, rfl, rfl, rfl, rfl, rfl, rfl⟩ False.elim (.inl rfl)

/-! ## The events that change a record of their own -/

theorem changesOnlyBy_setAlertEnable {mask : Half} (h : execSetAlertEnable mask s = .next t) (n : N) (a : A) :
    ChangesOnlyBy s t M T R P E N A S Q X := by
  rcases runCommand_next h with ⟨-, rfl⟩ | ⟨_, _, refused, -⟩ | ⟨p, u, data, r, accepted, hr, rfl⟩
  · exact changesOnlyBy_refl t
  · cases refused
  · cases accepted
    have store := storeOf_settled hr
    exact changesOnlyBy_of_kept (.inl rfl) (.inl rfl) (.inl rfl) (.inl rfl) (.inl rfl) (.inr n) (.inr a)
      (.inl (congrArg Prod.fst store)) (.inl (congrArg (fun q => q.2.1) store))
      (.inl (congrArg (fun q => q.2.2) store))

theorem changesOnlyBy_tick (h : execTick s = .next t) (ticked : T) : ChangesOnlyBy s t M T R P E N A S Q X := by
  unfold execTick at h
  split at h
  · cases h
    exact changesOnlyBy_refl s
  · cases h
    exact changesOnlyBy_of_kept (.inl rfl) (.inr ticked) (.inl rfl) (.inl rfl) (.inl rfl) (.inl rfl) (.inl rfl)
      (.inl rfl) (.inl rfl) (.inl rfl)

/-- Relative to the part with its pin and its kept level set, a change of ESTOP_N leaves every record of O21. -/
theorem estopNLevelChange_untouched {level : Level} (h : execEstopNLevelChange level s = .next t) :
    ∃ pins kept, Untouched False { s with pins := pins, supervisor := { s.supervisor with estopLevel := kept } } t ∧
      t.supervisor.response = s.supervisor.response := by
  simp only [execEstopNLevelChange] at h
  split at h
  · cases h
    exact ⟨s.pins, s.supervisor.estopLevel, .refl _ _, rfl⟩
  · refine ⟨{ s.pins with estopN := level }, ?_⟩
    split at h
    · cases h
      exact ⟨s.supervisor.estopLevel, .refl _ _, rfl⟩
    · split at h
      · cases h
        exact ⟨.high, .refl _ _, rfl⟩
      · refine ⟨.low, ?_⟩
        split at h
        · obtain ⟨⟨map, tick, ready, pins, estop, enable, store⟩, supervisor⟩ := untouched_of_finish h rfl
          exact ⟨⟨map, tick, ready, pins, estop, enable, store⟩, by rw [supervisor]; rfl⟩
        · cases h
          exact ⟨⟨.inl rfl, rfl, rfl, rfl, rfl, rfl, rfl⟩, rfl⟩

theorem changesOnlyBy_estopNLevelChange {level : Level} (h : execEstopNLevelChange level s = .next t) (p : P) (l : E) :
    ChangesOnlyBy s t M T R P E N A S Q X := by
  obtain ⟨pins, kept, untouched, response⟩ := estopNLevelChange_untouched h
  exact changesOnlyBy_of_kept (.inl (untouched.map.resolve_right id)) (.inl untouched.tick) (.inl untouched.ready)
    (.inr p) (.inr l) (.inl untouched.enable) (.inl response) (.inl untouched.slots) (.inl untouched.readNumber)
    (.inl untouched.perst)

theorem changesOnlyBy_readyChange {gate : Fin 16} {level : Level} (h : execReadyChange gate level s = .next t)
    (change : R) : ChangesOnlyBy s t M T R P E N A S Q X := by
  simp only [execReadyChange] at h
  split at h
  · cases h
    exact changesOnlyBy_refl s
  · split at h
    · cases h
      exact changesOnlyBy_of_kept (.inl rfl) (.inl rfl) (.inr change) (.inl rfl) (.inl rfl) (.inl rfl) (.inl rfl)
        (.inl rfl) (.inl rfl) (.inl rfl)
    · obtain ⟨untouched, supervisor⟩ := untouched_of_finish h (storeOf_readyRun ..)
      exact changesOnlyBy_of_kept (.inl (untouched.map.resolve_right id)) (.inl untouched.tick) (.inr change)
        (.inl untouched.pins) (.inl untouched.estop) (.inl untouched.enable) (.inl (by rw [supervisor]))
        (.inl untouched.slots) (.inl untouched.readNumber) (.inl untouched.perst)

theorem changesOnlyBy_pePerstNAsserted (h : execPePerstNAsserted s = .next t) (x : X) :
    ChangesOnlyBy s t M T R P E N A S Q X := by
  unfold execPePerstNAsserted at h
  split at h
  · cases h
    exact changesOnlyBy_of_kept (.inl rfl) (.inl rfl) (.inl rfl) (.inl rfl) (.inl rfl) (.inl rfl) (.inl rfl) (.inl rfl)
      (.inl rfl) (.inr x)
  · obtain ⟨r, hr, rfl⟩ := finish_next h
    have store := (storeOf_settled hr).trans (storeOf_perstAsserted ..)
    exact changesOnlyBy_of_kept (.inl rfl) (.inl rfl) (.inl rfl) (.inl rfl) (.inl rfl) (.inl rfl) (.inl rfl)
      (.inl (congrArg Prod.fst store)) (.inl (congrArg (fun q => q.2.1) store)) (.inr x)

theorem changesOnlyBy_pePerstNReleased (h : execPePerstNReleased s = .next t) (x : X) :
    ChangesOnlyBy s t M T R P E N A S Q X := by
  cases h
  exact changesOnlyBy_of_kept (.inl rfl) (.inl rfl) (.inl rfl) (.inl rfl) (.inl rfl) (.inl rfl) (.inl rfl) (.inl rfl)
    (.inl rfl) (.inr x)

theorem changesOnlyBy_readCompletion {number : Byte} {status : CompletionStatus} {data : List Byte}
    (h : execReadCompletion number status data s = .next t) (c : S) : ChangesOnlyBy s t M T R P E N A S Q X := by
  rcases runEvent_next h with ⟨-, rfl⟩ | ⟨r, hr, rfl⟩
  · exact changesOnlyBy_refl t
  · have port := (portOf_of_storeOf (storeOf_settled hr)).trans (portOf_completionArrives ..)
    exact changesOnlyBy_of_kept (.inl rfl) (.inl rfl) (.inl rfl) (.inl rfl) (.inl rfl) (.inl rfl) (.inl rfl) (.inr c)
      (.inl (congrArg Prod.fst port)) (.inl (congrArg Prod.snd port))

theorem changesOnlyBy_serveFetch (h : execServeFetch s = .next t) (q : Q) : ChangesOnlyBy s t M T R P E N A S Q X := by
  rcases runEvent_next h with ⟨-, rfl⟩ | ⟨r, hr, rfl⟩
  · exact changesOnlyBy_refl t
  · have store := storeOf_settled hr
    obtain ⟨slots, perst⟩ := serveFetch_keeps s.run
    exact changesOnlyBy_of_kept (.inl rfl) (.inl rfl) (.inl rfl) (.inl rfl) (.inl rfl) (.inl rfl) (.inl rfl)
      (.inl ((congrArg Prod.fst store).trans slots)) (.inr q)
      (.inl ((congrArg (fun q => q.2.2) store).trans perst))

/-- Hard reset keeps the levels of READY and PE_PERST_N (log entry 6). -/
theorem changesOnlyBy_hardReset (pins : Pins) (m : M) (ticked : T) (p : P) (l : E) (n : N) (a : A) (c : S) (q : Q) :
    ChangesOnlyBy s { s.hardReset with pins := pins } M T R P E N A S Q X :=
  changesOnlyBy_of_kept (.inr m) (.inr ticked) (.inl rfl) (.inr p) (.inr l) (.inr n) (.inr a) (.inr c) (.inr q)
    (.inl rfl)

theorem changesOnlyBy_unknownCommand {frame : List Byte} (h : execUnknownCommand frame s = .next t) (a : A) :
    ChangesOnlyBy s t M T R P E N A S Q X := by
  unfold execUnknownCommand at h
  split at h
  · exact changesOnlyBy_of_shiftBuffer h
  · split at h
    · exact changesOnlyBy_of_shiftBuffer h
    · exact changesOnlyBy_of_command h (leaves_refused _) a

end

/-- Settles O21: each command and event by what its plan or its first effects leave, the events with a record of their
own by their own lemmas. -/
theorem eachRecordHasItsEvents : Obligations.EachRecordHasItsEvents := by
  unfold Obligations.EachRecordHasItsEvents
  intro i s t h
  cases i with
  | mapBegin =>
    refine changesOnlyBy_of_mapCommand h ?_ (.inl rfl) (.inl rfl)
    split
    · exact leaves_mapBegin
    · exact leaves_mapBegin
    · exact leaves_ite (leaves_refused _) leaves_mapBegin
    · exact leaves_refused _
    · exact leaves_refused _
  | mapCell =>
    exact changesOnlyBy_of_mapCommand h (leaves_mapRecord ..)
      (.inr (.inl ⟨_, _, _, _, _, _, _, _, _, _, _, _, _, rfl⟩)) (.inl rfl)
  | mapCorridor =>
    exact changesOnlyBy_of_mapCommand h (leaves_mapRecord ..) (.inr (.inr (.inl ⟨_, _, rfl⟩))) (.inl rfl)
  | mapGate =>
    exact changesOnlyBy_of_mapCommand h (leaves_mapRecord ..)
      (.inr (.inr (.inr (.inl ⟨_, _, _, _, _, _, rfl⟩)))) (.inl rfl)
  | mapClass =>
    exact changesOnlyBy_of_mapCommand h (leaves_mapRecord ..)
      (.inr (.inr (.inr (.inr (.inl ⟨_, _, _, _, _, _, _, _, _, rfl⟩))))) (.inl rfl)
  | mapEnd =>
    refine changesOnlyBy_of_mapCommand h (leaves_ite ?_ (leaves_refused _))
      (.inr (.inr (.inr (.inr (.inr (.inl rfl)))))) (.inl rfl)
    split
    · trivial
    · exact leaves_mapEnd _
  | setLimit =>
    refine changesOnlyBy_of_mapCommand h (leaves_cellEdit (leaves_ite (leaves_refused _) (leaves_setLimit _ ?_)))
      (.inr (.inr (.inr (.inr (.inr (.inr (.inl ⟨_, _, rfl⟩))))))) (.inl rfl)
    exact storeOf_limitRun ..
  | activate => exact changesOnlyBy_of_command h (leaves_ite (leaves_enter _ _ rfl) (leaves_refused _)) (.inl rfl)
  | allStop =>
    refine changesOnlyBy_of_command h ?_ (.inl rfl)
    split
    · exact leaves_enter _ _ rfl
    · exact leaves_done_self _
    · exact leaves_refused _
    · exact leaves_refused _
    · exact leaves_refused _
  | resumeAll => exact changesOnlyBy_of_command h (leaves_ite (leaves_enter _ _ rfl) (leaves_refused _)) (.inl rfl)
  | restart => exact changesOnlyBy_of_command h (leaves_ite leaves_restart (leaves_refused _)) (.inl rfl)
  | closeCell => exact changesOnlyBy_of_command h (leaves_cellEdit (leaves_acts (storeOf_closeRun ..))) (.inl rfl)
  | openCell => exact changesOnlyBy_of_command h (leaves_cellEdit (leaves_acts (storeOf_openRun ..))) (.inl rfl)
  | gateReset =>
    refine changesOnlyBy_of_command h (leaves_ite ?_ (leaves_refused _)) (.inl rfl)
    split
    · exact leaves_refused _
    · exact leaves_ite (leaves_acts rfl) (leaves_refused _)
  | enrol =>
    exact changesOnlyBy_of_command h (leaves_carrierCommand (leaves_enrolPlan ..)) (.inl rfl)
  | attach =>
    exact changesOnlyBy_of_command h (leaves_carrierCommand (leaves_ite (leaves_acts rfl) (leaves_refused _))) (.inl rfl)
  | detach =>
    refine changesOnlyBy_of_command h (leaves_carrierCommand ?_) (.inl rfl)
    split
    · exact leaves_acts (storeOf_routeEnd ..)
    · exact leaves_acts (storeOf_halt ..)
    · exact leaves_refused _
    · exact leaves_refused _
    · exact leaves_refused _
    · exact leaves_refused _
  | stop =>
    refine changesOnlyBy_of_command h (leaves_carrierCommand (leaves_ite (leaves_acts ?_) (leaves_refused _))) (.inl rfl)
    exact storeOf_halt ..
  | recover =>
    refine changesOnlyBy_of_command h (leaves_carrierCommand (leaves_ite (leaves_acts ?_) (leaves_refused _))) (.inl rfl)
    exact storeOf_trim ..
  | retire =>
    refine changesOnlyBy_of_command h (leaves_carrierCommand (leaves_ite (leaves_refused _) (leaves_acts ?_))) (.inl rfl)
    exact storeOf_retireRun ..
  | clearAlerts =>
    simp only [exec, execClearAlerts] at h
    exact changesOnlyBy_of_command h (leaves_clearAlerts ..) (.inl rfl)
  | setAlertEnable => exact changesOnlyBy_setAlertEnable h (.inl ⟨_, rfl⟩) (.inl rfl)
  | readStatus =>
    simp only [exec, execReadStatus] at h
    exact changesOnlyBy_of_command h (leaves_done_self _) (.inl rfl)
  | readCell => exact changesOnlyBy_of_command h (leaves_query ..) (.inl rfl)
  | readCarrier => exact changesOnlyBy_of_command h (leaves_query ..) (.inl rfl)
  | readCorridor => exact changesOnlyBy_of_command h (leaves_query ..) (.inl rfl)
  | readGate => exact changesOnlyBy_of_command h (leaves_query ..) (.inl rfl)
  | readDeadlock => exact changesOnlyBy_of_command h (leaves_query ..) (.inl rfl)
  | readLink => exact changesOnlyBy_of_command h (leaves_ite (leaves_readLink ..) (leaves_refused _)) (.inl rfl)
  | readTransfer => exact changesOnlyBy_of_shiftBuffer h
  | unknownCommand => exact changesOnlyBy_unknownCommand h (.inl rfl)
  | estopNLevelChange => exact changesOnlyBy_estopNLevelChange h (.inl ⟨_, rfl⟩) (.inl ⟨_, rfl⟩)
  | hardReset =>
    cases h
    have reset : isReset .hardReset := .inl rfl
    exact changesOnlyBy_hardReset _ (.inr (.inr (.inr (.inr (.inr (.inr (.inr reset))))))) (.inr reset) (.inr reset)
      (.inr reset) (.inr reset) (.inr reset) (.inr reset) (.inr reset)
  | resetNRelease clrate =>
    have reset : isReset (.resetNRelease clrate) := .inr ⟨clrate, rfl⟩
    change execResetNRelease clrate s = .next t at h
    unfold execResetNRelease at h
    split at h
    · cases h
      exact changesOnlyBy_hardReset _ (.inr (.inr (.inr (.inr (.inr (.inr (.inr reset))))))) (.inr reset) (.inr reset)
        (.inr reset) (.inr reset) (.inr reset) (.inr reset) (.inr reset)
    · cases h
      exact changesOnlyBy_refl s
  | tick => exact changesOnlyBy_tick h (.inl rfl)
  | clearanceCountdownExpiry =>
    simp only [exec, execClearanceCountdownExpiry] at h
    exact changesOnlyBy_of_event h (fun e v => storeOf_clearanceRun e v _)
  | silenceLimit =>
    simp only [exec, execSilenceLimit] at h
    exact changesOnlyBy_of_event h (fun e v => storeOf_silenceReached e v _)
  | lostLimit =>
    simp only [exec, execLostLimit] at h
    exact changesOnlyBy_of_event h (fun e v => storeOf_lostReached e v _)
  | callTimerExpiry =>
    simp only [exec, execCallTimerExpiry] at h
    exact changesOnlyBy_of_event h (fun e v => by simp)
  | holdOpenExpiry =>
    simp only [exec, execHoldOpenExpiry] at h
    exact changesOnlyBy_of_event h (fun e v => by simp)
  | readTimerExpiry =>
    simp only [exec, execReadTimerExpiry] at h
    exact changesOnlyBy_of_event h storeOf_readTimerExpires
  | readyChange => exact changesOnlyBy_readyChange h ⟨_, _, rfl⟩
  | pePerstNAsserted => exact changesOnlyBy_pePerstNAsserted h (.inl rfl)
  | pePerstNReleased => exact changesOnlyBy_pePerstNReleased h (.inr rfl)
  | ask =>
    simp only [exec, execAsk] at h
    exact changesOnlyBy_of_event h (fun e v => storeOf_goodFrame ..)
  | pass =>
    simp only [exec, execPass] at h
    exact changesOnlyBy_of_event h (fun e v => storeOf_goodFrame ..)
  | done =>
    simp only [exec, execDone] at h
    exact changesOnlyBy_of_event h (fun e v => storeOf_goodFrame ..)
  | frameFailure =>
    simp only [exec, execFrameFailure] at h
    exact changesOnlyBy_of_event h (fun e v => rfl)
  | readCompletion => exact changesOnlyBy_readCompletion h (.inl ⟨_, _, _, rfl⟩)
  | serveFetch => exact changesOnlyBy_serveFetch h (.inl rfl)
  | serveWriteBack =>
    simp only [exec, execServeWriteBack] at h
    exact changesOnlyBy_of_event h (fun _ v => storeOf_serveWriteBack v)
  | transmissionStart =>
    simp only [exec, execTransmissionStart] at h
    exact changesOnlyBy_of_event h (fun _ _ => rfl)
  | transmissionComplete =>
    simp only [exec, execTransmissionComplete] at h
    exact changesOnlyBy_of_event h (fun _ _ => rfl)
  | characterReceived =>
    simp only [exec, execCharacterReceived] at h
    exact changesOnlyBy_of_event h (fun e v => storeOf_characterRun ..)

end Sys2Proof.Proofs
end

section
/-! What the tests of the rights table and the authority unit read. A run that differs from another only in wait queues, wait
records and what no test looks at (`SameRights`) has the same grantability, stop tests, next run and permitted speed; so has
one that differs in outbound messages alone (`LinksOnly`). With them SET-LIMIT is settled (O26). -/

namespace Sys2Proof.Proofs

open Sys2Proof.Machine Sys2Proof.Laws

/-! ## The same rights -/

/-- `u` has the contexts of `v` but for wait records, its cells but for wait queues, and its corridors, gates and slots. -/
structure SameRights (v u : Run) : Prop where
  ctx : ∀ c, ∃ w, u.ctx c = { v.ctx c with wait := w }
  cell : ∀ x, ∃ q, u.cell x = { v.cell x with queue := q }
  corridor : ∀ k, u.corridor k = v.corridor k
  gate : ∀ g, u.gate g = v.gate g
  slot : ∀ n, u.slot n = v.slot n

theorem SameRights.refl (v : Run) : SameRights v v :=
  ⟨fun _ => ⟨_, rfl⟩, fun _ => ⟨_, rfl⟩, fun _ => rfl, fun _ => rfl, fun _ => rfl⟩

section
variable {v u : Run} (h : SameRights v u) (e : Setting)
include h

theorem SameRights.step (c j : Nat) : u.step c j = v.step c j := by
  obtain ⟨w, hw⟩ := h.ctx c
  simp only [Run.step, hw, h.slot]
  rfl

theorem SameRights.holders (x : Nat) : (u.cell x).holders = (v.cell x).holders := by
  obtain ⟨q, hq⟩ := h.cell x
  rw [hq]

theorem SameRights.gateState (g : Nat) : u.gateState g = v.gateState g := by
  rw [Run.gateState, h.gate]
  rfl

theorem SameRights.capacityTest (c x j : Nat) : capacityTest e u c x j = capacityTest e v c x j := by
  simp only [Machine.capacityTest, h.holders, h.step]

theorem SameRights.corridorTest (c x : Nat) : corridorTest e u c x = corridorTest e v c x := by
  simp only [Machine.corridorTest, h.corridor]

theorem SameRights.gateTest (x : Nat) : gateTest e u x = gateTest e v x := by
  simp only [Machine.gateTest, h.gateState]

/-- Grantability reads rights alone (R25). -/
theorem SameRights.grantTest (c x j : Nat) : grantTest e u c x j = grantTest e v c x j := by
  obtain ⟨w, hw⟩ := h.ctx c
  obtain ⟨q, hq⟩ := h.cell x
  simp only [Machine.grantTest, hw, hq, h.capacityTest, h.corridorTest, h.gateTest]
  rfl

theorem SameRights.collectRun (c n j : Nat) : collectRun e u c n j = collectRun e v c n j := by
  induction n generalizing j with
  | zero => rfl
  | succ n ih => simp only [Machine.collectRun, h.step, ih]

theorem SameRights.nextRun (c : Nat) : nextRun e u c = nextRun e v c := by
  obtain ⟨w, hw⟩ := h.ctx c
  simp only [Machine.nextRun, hw, h.collectRun]

theorem SameRights.laneBefore (c : Nat) : laneBefore e u c = laneBefore e v c := by
  obtain ⟨w, hw⟩ := h.ctx c
  simp only [Machine.laneBefore, hw]

/-- The stop tests read rights alone (R48). -/
theorem SameRights.stopTest (c : Nat) : stopTest e u c = stopTest e v c := by
  obtain ⟨w, hw⟩ := h.ctx c
  simp only [Machine.stopTest, Machine.behindInLane, Run.isHold, hw, h.laneBefore, h.holders, h.step, h.nextRun]
  rfl

/-- The permitted speed reads rights alone (R58). -/
theorem SameRights.permittedSpeed (c : Nat) : permittedSpeed e u c = permittedSpeed e v c := by
  obtain ⟨w, hw⟩ := h.ctx c
  have caps : heldCaps u c = heldCaps v c := by
    have steps : u.step c = v.step c := funext (h.step c)
    simp only [heldCaps, hw, steps]
  simp only [Machine.permittedSpeed, caps, hw]
  rfl

/-- An AUTH notice carries rights alone (R61). -/
theorem SameRights.authNotice (c : Nat) : authNotice e u c = authNotice e v c := by
  obtain ⟨w, hw⟩ := h.ctx c
  simp only [Machine.authNotice, h.permittedSpeed, hw]
  rfl

theorem SameRights.firstFailing (c : Nat) (run : List (Nat × Nat)) :
    firstFailing e u c run = firstFailing e v c run := by
  induction run with
  | nil => rfl
  | cons p rest ih => simp only [Machine.firstFailing, h.grantTest, ih]

end

/-! ## Messages -/

/-- `u` is `v` with nothing changed but outbound messages and alerts. -/
structure LinksOnly (v u : Run) : Prop where
  records : u.records = { v.records with links := u.records.links, alerts := u.records.alerts }
  work : u.work = v.work
  deferring : u.deferring = v.deferring
  deferred : u.deferred = v.deferred
  opening : u.opening = v.opening

theorem LinksOnly.refl (v : Run) : LinksOnly v v := ⟨rfl, rfl, rfl, rfl, rfl⟩

theorem LinksOnly.trans {v u w : Run} (h : LinksOnly v u) (g : LinksOnly u w) : LinksOnly v w :=
  ⟨by rw [g.records, h.records], g.work.trans h.work, g.deferring.trans h.deferring, g.deferred.trans h.deferred,
    g.opening.trans h.opening⟩

theorem LinksOnly.ctx {v u : Run} (h : LinksOnly v u) (c : Nat) : u.ctx c = v.ctx c := by
  simp only [Run.ctx]
  rw [h.records]

theorem LinksOnly.cell {v u : Run} (h : LinksOnly v u) (x : Nat) : u.cell x = v.cell x := by
  simp only [Run.cell]
  rw [h.records]

theorem LinksOnly.sameRights {v u : Run} (h : LinksOnly v u) : SameRights v u where
  ctx c := ⟨(v.ctx c).wait, h.ctx c⟩
  cell x := ⟨(v.cell x).queue, h.cell x⟩
  corridor k := by
    simp only [Run.corridor]
    rw [h.records]
  gate g := by
    simp only [Run.gate]
    rw [h.records]
  slot n := by
    simp only [Run.slot]
    rw [h.records]

/-- Everything placing a message on a link can do (R149, R150). -/
theorem placeOn_linksOnly (v : Run) (l : Nat) (m : Message) : LinksOnly v (placeOn v l m) := by
  simp only [placeOn]
  split <;> exact ⟨rfl, rfl, rfl, rfl, rfl⟩

/-- Everything sending a message can do (R61). -/
theorem send_linksOnly (v : Run) (c : Nat) (p : Payload) : LinksOnly v (send v c p) := by
  unfold send
  split
  · exact placeOn_linksOnly ..
  · exact .refl v

/-! ## SET-LIMIT (R19) -/

section
variable {e : Setting} {s : State}

/-- The notice of a lowered limit carries the records that SET-LIMIT found, whatever was sent before it. -/
theorem limitNotice_eq {w v : Run} (h : LinksOnly w v) (c : Nat) : limitNotice e v c =
    if (w.ctx c).state = .running ∧ (w.ctx c).blockReason.isSome = true then send v c (authNotice e w c) else v := by
  simp only [limitNotice, sendNotice, h.ctx, h.sameRights.authNotice]

theorem limitNotice_linksOnly (v : Run) (c : Nat) : LinksOnly v (limitNotice e v c) := by
  unfold limitNotice
  split
  · exact send_linksOnly ..
  · exact .refl v

theorem foldl_limitNotice_linksOnly (l : List Nat) (v : Run) : LinksOnly v (l.foldl (limitNotice e) v) := by
  induction l generalizing v with
  | nil => exact .refl v
  | cons c l ih => exact (limitNotice_linksOnly v c).trans (ih _)

theorem foldl_limitNotice_eq {w : Run} (l : List Nat) {v : Run} (h : LinksOnly w v) : l.foldl (limitNotice e) v =
    l.foldl (fun v c => if (w.ctx c).state = .running ∧ (w.ctx c).blockReason.isSome = true
      then send v c (authNotice e w c) else v) v := by
  induction l generalizing v with
  | nil => rfl
  | cons c l ih => rw [List.foldl_cons, ih (h.trans (limitNotice_linksOnly v c)), limitNotice_eq h, List.foldl_cons]

theorem limitRun_linksOnly (v : Run) (x : Nat) (lowered : Bool) : LinksOnly v (limitRun e v x lowered) := by
  unfold limitRun
  split
  · exact foldl_limitNotice_linksOnly ..
  · exact .refl v

theorem find_withLimit (m : MapStore) (x limit y : Nat) : Table.find (m.withLimit x limit).cells y =
    (Table.find m.cells y).map (fun k => if y = x then { k with limit := limit } else k) := by
  by_cases h : y = x
  · subst h
    simp [MapStore.withLimit]
  · simp [MapStore.withLimit, h]

theorem setLimit_zero (hs : s.inService) (h : s.setting.op.loaded = true) {cell : Half}
    (hc : s.cellDefined cell = true) : exec (.setLimit cell 0) s = .next (s.answered 4 0x0D .range []) := by
  change execSetLimit cell 0 s = _
  simp only [execSetLimit, cellEdit_defined h hc]
  exact runCommand_refuse hs

/-- An accepted SET-LIMIT: the new limit in the map, the notices to the holders in the records. -/
theorem setLimit_accepted (hs : s.inService) (h : s.setting.op.loaded = true) {cell : Half} {limit : Byte}
    (hc : s.cellDefined cell = true) (hl : limit ≠ 0) :
    let part := s.setMap (s.setting.map.withLimit cell.toNat limit.toNat)
    exec (.setLimit cell limit) s = .next { part.answered 4 0x0D .ok [] with
      records := (limitRun part.setting s.run cell.toNat
        (decide (limit.toNat < s.setting.map.limitOf cell.toNat))).records } := by
  change execSetLimit cell limit s = _
  simp only [execSetLimit, cellEdit_defined h hc, if_neg hl]
  exact runCommand_accept hs (settled_rest (limitRun_linksOnly ..).work)

end

/-- Settles O26: the notices of a lowered limit change outbound messages alone, and each reads the records that the command
found. -/
theorem setLimitSets : Obligations.SetLimitSets := by
  unfold Obligations.SetLimitSets
  intro cell limit s hs h
  refine ⟨fun hc hl => ⟨_, setLimit_accepted hs h hc hl, find_withLimit s.setting.map cell.toNat limit.toNat, rfl, rfl, rfl,
    rfl, (limitRun_linksOnly ..).records, ⟨fun lower => ?_, fun raised => ?_⟩, rfl, rfl⟩, fun hc hl => ?_,
    fun hc => cellEdit_undefined hs h hc⟩
  · have lowered : limit.toNat < s.setting.map.limitOf cell.toNat := lower
    simp only [limitRun, decide_eq_true lowered, if_true, foldl_limitNotice_eq _ (LinksOnly.refl s.run)]
    exact ⟨rfl, rfl⟩
  · have kept : ¬limit.toNat < s.setting.map.limitOf cell.toNat := Nat.not_lt.mpr raised
    simp only [limitRun, decide_eq_false kept]
    exact ⟨rfl, rfl⟩
  · subst hl
    exact setLimit_zero hs h hc

end Sys2Proof.Proofs
end

section
/-! How an offer comes to rest, piece by piece (R38, R39): with no work beyond its own where nobody is taken, and with one
plain run granted where its one waiter is. With them CLOSE-CELL and OPEN-CELL are settled (O25). -/

namespace Sys2Proof.Proofs

open Sys2Proof.Machine Sys2Proof.Laws

/-! ## One piece of work at a time -/

section
variable {e : Setting} {v u : Run}

/-- With only its own work left, a run without work of its own is at rest when that work is none. -/
theorem settle_later_nil (n : Nat) (h : v.work = []) : settle n e (v.later []) = some v.records :=
  settle_rest n (by simp [h])

/-- A run without work of its own does the first of the pieces given to it, whose own work goes ahead of the others. -/
theorem settle_later_cons (n : Nat) {a : Task} {rest ts : List Task} (h : runTask e a v = u.later ts)
    (hv : v.work = []) (hu : u.work = []) :
    settle (n + 1) e (v.later (a :: rest)) = settle n e (u.later (ts ++ rest)) := by
  have first : (v.later (a :: rest)).work = a :: rest := by simp [hv]
  have taken : { v.later (a :: rest) with work := [] } = v := by
    cases v
    simp only at hv
    subst hv
    rfl
  rw [settle_cons n first (taken.symm ▸ h)]
  simp [Run.later, hu]

theorem later_nil (v : Run) : v.later [] = v := by
  simp [Run.later]

end

/-! ## Cells written twice -/

theorem Table.set_set {α : Type} (t : Table α) (n : Nat) (a b : α) :
    Table.set (Table.set t n a) n b = Table.set t n b := by
  induction t with
  | nil => simp [Table.set]
  | cons p rest ih =>
    obtain ⟨k, c⟩ := p
    by_cases lt : n < k
    · simp [Table.set, lt]
    · by_cases eq : k = n
      · simp [Table.set, eq]
      · simp [Table.set, lt, eq, ih]

@[simp] theorem Run.setCell_setCell (v : Run) (x : Nat) (r q : CellRun) :
    (v.setCell x r).setCell x q = v.setCell x q := by
  simp [Run.setCell, Table.set_set]

theorem sameRights_setQueue (v : Run) (x : Nat) (r : CellRun) (q : List Waiter) :
    SameRights (v.setCell x r) (v.setCell x { r with queue := q }) where
  ctx _ := ⟨_, rfl⟩
  cell y := by
    by_cases h : y = x
    · subst h
      exact ⟨q, by simp⟩
    · exact ⟨(v.cell y).queue, by simp [h]⟩
  corridor _ := rfl
  gate _ := rfl
  slot _ := rfl

theorem sameRights_of_causesOnly {v u : Run} (h : CausesOnly v u) : SameRights v u where
  ctx c := by
    have same := h.ctx c
    refine ⟨(u.ctx c).wait, ?_⟩
    calc u.ctx c = { (u.ctx c).butEdge with wait := (u.ctx c).wait } := rfl
      _ = { v.ctx c with wait := (u.ctx c).wait } := by rw [same]; rfl
  cell x := by
    have same := h.cell x
    refine ⟨(u.cell x).queue, ?_⟩
    calc u.cell x = { (u.cell x).butCauses with queue := (u.cell x).queue } := rfl
      _ = { v.cell x with queue := (u.cell x).queue } := by rw [same]; rfl
  corridor k := by
    simp only [Run.corridor]
    rw [h.records]
  gate g := by
    simp only [Run.gate]
    rw [h.records]
  slot n := by
    simp only [Run.slot]
    rw [h.records]

/-! ## An offer that takes nobody -/

/-- A recomputation leaves the carriers of a queue, their steps and their order. -/
theorem queue_of_causesOnly {v u : Run} (h : CausesOnly v u) {x : Nat} {w : Waiter} {rest : List Waiter}
    (hq : (v.cell x).queue = w :: rest) :
    ∃ w' rest', (u.cell x).queue = w' :: rest' ∧ w'.carrier = w.carrier ∧ w'.step = w.step := by
  have same : (u.cell x).queue.map (fun w => { w with cause := BlockCause.closed }) =
      (v.cell x).queue.map (fun w => { w with cause := BlockCause.closed }) := congrArg CellRun.queue (h.cell x)
  cases hu : (u.cell x).queue with
  | nil =>
    rw [hu, hq] at same
    cases same
  | cons w' rest' =>
    rw [hu, hq, List.map_cons, List.map_cons, List.cons.injEq, Waiter.mk.injEq] at same
    obtain ⟨⟨carrier, -, step, -⟩, -⟩ := same
    exact ⟨w', rest', rfl, carrier, step⟩

theorem queue_nil_of_causesOnly {v u : Run} (h : CausesOnly v u) {x : Nat} (hq : (v.cell x).queue = []) :
    (u.cell x).queue = [] := by
  have same : (u.cell x).queue.map (fun w => { w with cause := BlockCause.closed }) =
      (v.cell x).queue.map (fun w => { w with cause := BlockCause.closed }) := congrArg CellRun.queue (h.cell x)
  rw [hq, List.map_nil, List.map_eq_nil_iff] at same
  exact same

section
variable {e : Setting} {v : Run} {x : Nat}

theorem offerNext_no_waiter (left : List Nat) (h : (v.cell x).queue = []) : offerNext e v x left = v := by
  simp [offerNext, h]

theorem offerNext_not_grantable {w : Waiter} {rest : List Waiter} {left : List Nat} (hq : (v.cell x).queue = w :: rest)
    (hl : w.carrier ∈ left) (h : grantTest e v w.carrier x w.step ≠ none) : offerNext e v x left = v := by
  have first : (v.cell x).queue.find? (fun w => left.contains w.carrier) = some w := by simp [hq, hl]
  simp only [offerNext, first]
  split
  · rfl
  next hn => exact absurd hn h

theorem offerNext_takes {w : Waiter} {left : List Nat} (hq : (v.cell x).queue = [w]) (hl : w.carrier ∈ left)
    (h : grantTest e v w.carrier x w.step = none) : offerNext e v x left =
      (v.takeFrom x w.carrier).later [.attempt w.carrier (.offered x (left.erase w.carrier))] := by
  have first : (v.cell x).queue.find? (fun w => left.contains w.carrier) = some w := by simp [hq, hl]
  simp only [offerNext, first, h]

theorem offerStart_active (h : e.op = .active) : offerStart e v x =
    { v with deferring := true }.later [.offerNext x ((v.cell x).queue.map Waiter.carrier), .openDeferred] := if_pos h

theorem openDeferred_none (h : v.deferred = []) :
    openDeferred v = { v with deferring := false, deferred := [] }.later [] := by
  simp [openDeferred, h]

/-- An offer that takes nobody leaves every record as it is (R38, R39). -/
theorem settled_offer_nobody (hw : v.work = []) (hd : v.deferred = [])
    (h : (v.cell x).queue = [] ∨ e.op ≠ .active ∨
      ∃ w rest, (v.cell x).queue = w :: rest ∧ grantTest e v w.carrier x w.step ≠ none) :
    settled e (v.later [.offer x]) = some v.records := by
  by_cases ha : e.op = .active
  · have start : runTask e (.offer x) v = { v with deferring := true }.later
        [.offerNext x ((v.cell x).queue.map Waiter.carrier), .openDeferred] := offerStart_active ha
    have idle : runTask e (.offerNext x ((v.cell x).queue.map Waiter.carrier)) { v with deferring := true } =
        { v with deferring := true }.later [] := by
      rw [later_nil]
      rcases h with h | h | ⟨w, rest, hq, hg⟩
      · exact offerNext_no_waiter _ h
      · exact absurd ha h
      · exact offerNext_not_grantable hq (by simp [hq]) hg
    have finish : runTask e .openDeferred { v with deferring := true } =
        { v with deferring := false, deferred := [] }.later [] := openDeferred_none hd
    refine settled_of_settle 3 ?_ (by decide)
    rw [settle_later_cons 2 start hw hw, List.append_nil, settle_later_cons 1 idle hw hw, List.nil_append,
      settle_later_cons 0 finish hw hw]
    exact settle_later_nil 0 hw
  · have start : runTask e (.offer x) v = v.later [] := by
      rw [later_nil]
      exact if_neg ha
    refine settled_of_settle 1 ?_ (by decide)
    rw [settle_later_cons 0 start hw hw]
    exact settle_later_nil 0 hw

end

/-! ## The closed flag (R17, R18) -/

/-- Writing the record that a cell reads as changes nothing that is read. -/
theorem causesOnly_setCell_self {v : Run} {x : Nat} {r : CellRun} (h : v.cell x = r) : CausesOnly (v.setCell x r) v := by
  refine ⟨rfl, rfl, rfl, rfl, rfl, fun _ => rfl, fun y => ?_⟩
  by_cases hy : y = x
  · subst hy
    simp [h]
  · simp [hy]

section
variable {s t : State} {x : Nat} {b : Bool} {u : Run}

/-- The run of an edit of the closed flag: the flag set and the waiters of the cell recomputed. -/
theorem recompute_flag (e : Setting) (s : State) (x : Nat) (b : Bool) :
    CausesOnly (s.run.setCell x { s.cell x with closed := b })
        (recompute e (s.run.setCell x { s.cell x with closed := b }) x) ∧
      ∀ y, y ≠ x → (recompute e (s.run.setCell x { s.cell x with closed := b }) x).cell y = s.cell y := by
  refine ⟨recompute_causesOnly .., fun y hy => ?_⟩
  rw [recompute_other_cell e _ x hy, Run.cell_setCell_other _ _ hy]
  rfl

/-- What a run leaves of the part that sets the closed flag of one cell and otherwise changes causes and edges alone. -/
theorem frame_of_flag (h : CausesOnly (s.run.setCell x { s.cell x with closed := b }) u)
    (others : ∀ y, y ≠ x → u.cell y = s.cell y) (ht : t.records = u.records) :
    (t.cell x).butCauses = { (s.cell x).butCauses with closed := b } ∧ (∀ y, y ≠ x → t.cell y = s.cell y) ∧
      (∀ c, (t.ctx c).butEdge = (s.ctx c).butEdge) ∧
      t.records.reservations = s.records.reservations ∧ t.records.seniority = s.records.seniority ∧
      t.records.corridors = s.records.corridors ∧ t.records.gates = s.records.gates ∧
      t.records.links = s.records.links ∧ t.records.engine = s.records.engine ∧ t.records.slots = s.records.slots := by
  have cell (y : Nat) : t.cell y = u.cell y := by rw [State.cell, ht]; rfl
  have ctx (c : Nat) : t.ctx c = u.ctx c := by rw [State.ctx, ht]; rfl
  refine ⟨?_, fun y hy => (cell y).trans (others y hy), fun c => (congrArg _ (ctx c)).trans (h.ctx c), ?_⟩
  · rw [cell, h.cell, Run.cell_setCell_self]
    rfl
  · rw [ht, h.records]
    exact ⟨rfl, rfl, rfl, rfl, rfl, rfl, rfl⟩

/-- The run of a CLOSE-CELL (R17). -/
theorem closeRun_flag (e : Setting) (s : State) (x : Nat) :
    CausesOnly (s.run.setCell x { s.cell x with closed := true }) (closeRun e s.run x) ∧
      (∀ y, y ≠ x → (closeRun e s.run x).cell y = s.cell y) ∧ (closeRun e s.run x).work = [] := by
  unfold closeRun
  split
  next closed =>
    have same : s.run.cell x = { s.cell x with closed := true } := by
      change s.cell x = _
      rw [← show (s.cell x).closed = true from closed]
    exact ⟨causesOnly_setCell_self same, fun _ _ => rfl, rfl⟩
  next =>
    obtain ⟨causes, others⟩ := recompute_flag e s x true
    exact ⟨causes, others, causes.work⟩

theorem closeCell_accepted (hs : s.inService) (h : s.setting.op.loaded = true) {cell : Half}
    (hc : s.cellDefined cell = true) : exec (.closeCell cell) s = .next { s.answered 3 0x0B .ok [] with
      records := (closeRun s.setting s.run cell.toNat).records } := by
  change execCloseCell cell s = _
  rw [execCloseCell, cellEdit_defined h hc]
  exact runCommand_accept hs (settled_rest (closeRun_flag s.setting s cell.toNat).2.2)

/-- An OPEN-CELL answers with what its run settles to (R18). -/
theorem openCell_accepted (hs : s.inService) (h : s.setting.op.loaded = true) {cell : Half}
    (hc : s.cellDefined cell = true) {q : Records} (hq : settled s.setting (openRun s.setting s.run cell.toNat) = some q) :
    exec (.openCell cell) s = .next { s.answered 3 0x0C .ok [] with records := q } := by
  change execOpenCell cell s = _
  rw [execOpenCell, cellEdit_defined h hc]
  exact runCommand_accept hs hq

/-- An OPEN-CELL whose offer takes nobody settles to the flag cleared and the waiters recomputed. -/
theorem openRun_offers_nobody {x : Nat} (closed : (s.cell x).closed = true)
    (h : (s.cell x).countdown ≠ 0 ∨ OffersNobody s x { s.cell x with closed := false }) :
    settled s.setting (openRun s.setting s.run x) =
      some (recompute s.setting (s.run.setCell x { s.cell x with closed := false }) x).records := by
  obtain ⟨causes, -⟩ := recompute_flag s.setting s x false
  have countdown : ((recompute s.setting (s.run.setCell x { s.cell x with closed := false }) x).cell x).countdown =
      (s.cell x).countdown := by
    have same := congrArg CellRun.countdown (causes.cell x)
    rwa [Run.cell_setCell_self] at same
  have run : openRun s.setting s.run x =
      let v := recompute s.setting (s.run.setCell x { s.cell x with closed := false }) x
      if (v.cell x).countdown = 0 then v.later [.offer x] else v := if_pos closed
  simp only [run, countdown]
  by_cases zero : (s.cell x).countdown = 0
  · rw [if_pos zero]
    refine settled_offer_nobody causes.work causes.deferred ?_
    rcases h.resolve_left (not_not_intro zero) with empty | inactive | ⟨w, rest, hq, hg⟩
    · exact .inl (queue_nil_of_causesOnly causes (by rw [Run.cell_setCell_self]; exact empty))
    · exact .inr (.inl inactive)
    · obtain ⟨w', rest', hq', carrier, step⟩ :=
        queue_of_causesOnly causes (x := x) (by rw [Run.cell_setCell_self]; exact hq)
      refine .inr (.inr ⟨w', rest', hq', ?_⟩)
      rw [carrier, step, (sameRights_of_causesOnly causes).grantTest]
      exact hg
  · rw [if_neg zero]
    exact settled_rest causes.work

/-- An OPEN-CELL on an open cell has nothing to do. -/
theorem openRun_open {x : Nat} (h : (s.cell x).closed = false) : openRun s.setting s.run x = s.run :=
  if_neg (by rw [show (s.run.cell x).closed = false from h]; decide)

end

end Sys2Proof.Proofs
end

section
/-! An offer that grants its one waiter a plain run (R27, R28, R38, R39): the run that results reads as the granted run of the
statement, message and fetch included. -/

namespace Sys2Proof.Proofs

open Sys2Proof.Machine Sys2Proof.Laws

/-! ## Runs that read the same -/

/-- `u` reads as `v` in every record but the order of seniority, whatever the tables of cells and contexts list. -/
structure ReadsAs (v u : Run) : Prop where
  records : u.records = { v.records with
    cells := u.records.cells, carriers := u.records.carriers, seniority := u.records.seniority }
  work : u.work = v.work
  deferring : u.deferring = v.deferring
  deferred : u.deferred = v.deferred
  opening : u.opening = v.opening
  ctx : ∀ c, u.ctx c = v.ctx c
  cell : ∀ x, u.cell x = v.cell x

theorem ReadsAs.refl (v : Run) : ReadsAs v v := ⟨rfl, rfl, rfl, rfl, rfl, fun _ => rfl, fun _ => rfl⟩

theorem readsAs_of_quiet {v u : Run} (h : Quiet v u) : ReadsAs v u where
  records := by rw [h.records]
  work := h.work
  deferring := h.deferring
  deferred := h.deferred
  opening := h.opening
  ctx := h.ctx
  cell x := by
    simp only [Run.cell]
    rw [h.records]

section
variable {v u w : Run}

theorem ReadsAs.trans (h : ReadsAs v u) (g : ReadsAs u w) : ReadsAs v w :=
  ⟨by rw [g.records, h.records], g.work.trans h.work, g.deferring.trans h.deferring, g.deferred.trans h.deferred,
    g.opening.trans h.opening, fun c => (g.ctx c).trans (h.ctx c), fun x => (g.cell x).trans (h.cell x)⟩

theorem ReadsAs.symm (h : ReadsAs v u) : ReadsAs u v :=
  ⟨by rw [h.records], h.work.symm, h.deferring.symm, h.deferred.symm, h.opening.symm, fun c => (h.ctx c).symm,
    fun x => (h.cell x).symm⟩

theorem ReadsAs.of_deferring {b : Bool} (h : ReadsAs { v with deferring := b } u) :
    ReadsAs v { u with deferring := v.deferring } :=
  ⟨h.records, h.work, rfl, h.deferred, h.opening, h.ctx, h.cell⟩

theorem ReadsAs.sameRights (h : ReadsAs v u) : SameRights v u where
  ctx c := ⟨(v.ctx c).wait, h.ctx c⟩
  cell x := ⟨(v.cell x).queue, h.cell x⟩
  corridor k := by
    simp only [Run.corridor]
    rw [h.records]
  gate g := by
    simp only [Run.gate]
    rw [h.records]
  slot n := by
    simp only [Run.slot]
    rw [h.records]

theorem ReadsAs.link (h : ReadsAs v u) (l : Nat) : u.link l = v.link l := by
  simp only [Run.link]
  rw [h.records]

theorem ReadsAs.modCtx (h : ReadsAs v u) (c : Nat) (f : Context → Context) :
    ReadsAs (v.modCtx c f) (u.modCtx c f) := by
  refine ⟨?_, h.work, h.deferring, h.deferred, h.opening, fun d => ?_, h.cell⟩
  · simp only [Run.modCtx]
    rw [h.records]
  · by_cases hd : d = c
    · subst hd
      simp [h.ctx]
    · simp [hd, h.ctx]

theorem readsAs_modCtx_modCtx (v : Run) (c : Nat) {f g k : Context → Context}
    (h : k (v.ctx c) = g (f (v.ctx c))) : ReadsAs (v.modCtx c k) ((v.modCtx c f).modCtx c g) := by
  refine ⟨rfl, rfl, rfl, rfl, rfl, fun d => ?_, fun _ => rfl⟩
  by_cases hd : d = c
  · subst hd
    simp [h]
  · simp [hd]

theorem ReadsAs.setLink (h : ReadsAs v u) (l : Nat) (k : Link) : ReadsAs (v.setLink l k) (u.setLink l k) := by
  refine ⟨?_, h.work, h.deferring, h.deferred, h.opening, h.ctx, h.cell⟩
  simp only [Run.setLink]
  rw [h.records]

theorem ReadsAs.raise (h : ReadsAs v u) (f : AlertFlag) : ReadsAs (v.raise f) (u.raise f) := by
  refine ⟨?_, h.work, h.deferring, h.deferred, h.opening, h.ctx, h.cell⟩
  simp only [Run.raise]
  rw [h.records]

theorem ReadsAs.setEngine (h : ReadsAs v u) (g : Engine) : ReadsAs (v.setEngine g) (u.setEngine g) := by
  refine ⟨?_, h.work, h.deferring, h.deferred, h.opening, h.ctx, h.cell⟩
  simp only [Run.setEngine]
  rw [h.records]

/-- The same message goes to the same link. -/
theorem ReadsAs.send (h : ReadsAs v u) (c : Nat) (p : Payload) : ReadsAs (send v c p) (send u c p) := by
  simp only [Machine.send, h.ctx]
  split
  · simp only [placeOn, h.link]
    split
    · exact (h.setLink ..).raise _
    · exact h.setLink ..
  · exact h

theorem ReadsAs.engine (h : ReadsAs v u) : u.records.engine = v.records.engine := by rw [h.records]

/-- The same fetch is queued. -/
theorem ReadsAs.fetchTrigger (h : ReadsAs v u) (c : Nat) : ReadsAs (fetchTrigger v c) (fetchTrigger u c) := by
  have wanted : fetchWanted u c = fetchWanted v c := by simp only [fetchWanted, h.ctx, h.engine]
  simp only [Machine.fetchTrigger, wanted, h.engine]
  by_cases hw : fetchWanted v c = true
  · rw [if_pos hw, if_pos hw]
    exact h.setEngine _
  · rw [if_neg hw, if_neg hw]
    exact h

end

/-! ## Nobody's queue place -/

theorem Table.mem_set {α : Type} (t : Table α) (n : Nat) (a : α) (p : Nat × α) (h : p ∈ Table.set t n a) :
    p = (n, a) ∨ p ∈ t := by
  induction t with
  | nil => exact .inl (List.mem_singleton.mp h)
  | cons q rest ih =>
    obtain ⟨k, b⟩ := q
    simp only [Table.set] at h
    split at h
    · exact List.mem_cons.mp h
    · split at h
      · exact (List.mem_cons.mp h).imp_right (List.mem_cons_of_mem _)
      · rcases List.mem_cons.mp h with rfl | h
        · exact .inr (List.mem_cons_self ..)
        · exact (ih h).imp_right (List.mem_cons_of_mem _)

theorem queueOf_eq_none_iff (v : Run) (c : Nat) :
    v.queueOf c = none ↔ ∀ p ∈ v.records.cells, ∀ w ∈ p.2.queue, w.carrier ≠ c := by
  simp [Run.queueOf, List.find?_eq_none]

/-- Writing a cell without waiters puts nobody in a queue. -/
theorem queueOf_setCell_none {v : Run} {c x : Nat} {r : CellRun} (h : v.queueOf c = none) (hr : r.queue = []) :
    (v.setCell x r).queueOf c = none := by
  rw [queueOf_eq_none_iff] at h ⊢
  intro p hp w hw
  rcases Table.mem_set _ _ _ _ hp with rfl | hp
  · rw [hr] at hw
    cases hw
  · exact h p hp w hw

/-- A carrier in no queue, without a wait edge, gives up its wait record alone. -/
theorem leaveWaiting_eq (e : Setting) (v : Run) (c : Nat) (hq : v.queueOf c = none) (he : v.edge c = none) :
    leaveWaiting e v c = ((v.dropSeniority c).putEdge c none).modCtx c (fun k => { k with wait := none }) := by
  have left : leaveQueue e v c = v.dropSeniority c := by simp [leaveQueue, hq]
  have edge : (v.dropSeniority c).edge c = none := he
  have target : targetFor c none = none := by simp [targetFor]
  rw [leaveWaiting, left, clearWait]
  simp only [setEdge, edge, target, reportEdge]

theorem leaveWaiting_readsAs (e : Setting) (v : Run) (c : Nat) (hq : v.queueOf c = none) (he : v.edge c = none) :
    ReadsAs (v.modCtx c (fun k => { k with wait := none })) (leaveWaiting e v c) := by
  rw [leaveWaiting_eq e v c hq he]
  refine ⟨rfl, rfl, rfl, rfl, rfl, fun d => ?_, fun _ => rfl⟩
  exact (readsAs_modCtx_modCtx (v.dropSeniority c) c (k := fun k => { k with wait := none })
    (f := fun k => { k with wait := k.wait.map (fun w => { w with edge := none }) })
    (g := fun k => { k with wait := none }) rfl).ctx d

/-! ## A plain run granted (R27, R28) -/

/-- A carrier at the tail of a cell's holder list. -/
def addHolder (c : Nat) (v : Run) (p : Nat × Nat) : Run :=
  v.setCell p.1 { v.cell p.1 with holders := (v.cell p.1).holders ++ [c] }

/-- The entries of a granted run at the end of a held list. -/
def holding (m : MapStore) (run : List (Nat × Nat)) (k : Context) : Context :=
  { k with held := k.held ++ run.map (fun p => { cell := p.1, step := some p.2, distance := m.contribution p.1 }) }

theorem grantedRun_eq (e : Setting) (v : Run) (c : Nat) (run : List (Nat × Nat)) :
    grantedRun e v c run = run.foldl (addHolder c) (v.modCtx c (fun k => grantedContext e.map k run)) := rfl

section
variable {e : Setting} {c : Nat}

theorem foldl_addHolder_modCtx (v : Run) (d : Nat) (f : Context → Context) (run : List (Nat × Nat)) :
    run.foldl (addHolder c) (v.modCtx d f) = (run.foldl (addHolder c) v).modCtx d f := by
  induction run generalizing v with
  | nil => rfl
  | cons p rest ih => exact ih (addHolder c v p)

/-- What a run does not name, adding holders leaves; of the cells it names only the holder lists change. -/
theorem addHolder_cell (v : Run) (p : Nat × Nat) (x : Nat) :
    ∃ l, (addHolder c v p).cell x = { v.cell x with holders := l } := by
  by_cases hx : x = p.1
  · subst hx
    exact ⟨_, Run.cell_setCell_self ..⟩
  · exact ⟨(v.cell x).holders, Run.cell_setCell_other _ _ hx⟩

theorem foldl_addHolder_cell (run : List (Nat × Nat)) (v : Run) (x : Nat) :
    ∃ l, (run.foldl (addHolder c) v).cell x = { v.cell x with holders := l } := by
  induction run generalizing v with
  | nil => exact ⟨(v.cell x).holders, rfl⟩
  | cons p rest ih =>
    obtain ⟨l, hl⟩ := ih (addHolder c v p)
    obtain ⟨k, hk⟩ := addHolder_cell (c := c) v p x
    exact ⟨l, by rw [List.foldl_cons, hl, hk]⟩

theorem foldl_addHolder_ctx (run : List (Nat × Nat)) (v : Run) (d : Nat) :
    (run.foldl (addHolder c) v).ctx d = v.ctx d := by
  induction run generalizing v with
  | nil => rfl
  | cons p rest ih => exact ih (addHolder c v p)

/-- Adding holders changes the table of cells alone. -/
theorem foldl_addHolder_eq (run : List (Nat × Nat)) (v : Run) :
    ∃ t, run.foldl (addHolder c) v = { v with records := { v.records with cells := t } } := by
  induction run generalizing v with
  | nil => exact ⟨v.records.cells, rfl⟩
  | cons p rest ih =>
    obtain ⟨t, ht⟩ := ih (addHolder c v p)
    exact ⟨t, ht⟩

theorem grantCell_unreserved {v : Run} {p : Nat × Nat} (h : (v.cell p.1).reservedFor = none) :
    grantCell e c v p = (addHolder c v p).modCtx c (holding e.map [p]) := by
  have mine : ((v.cell p.1).reservedFor == some c) = false := by rw [h]; rfl
  simp only [grantCell, mine, Bool.false_eq_true, if_false]
  rfl

/-- The cells of a granted run, none of them reserved, gain their holder one by one. -/
theorem foldl_grantCell_readsAs (run : List (Nat × Nat)) (v : Run)
    (h : ∀ p ∈ run, (v.cell p.1).reservedFor = none) :
    ReadsAs ((run.foldl (addHolder c) v).modCtx c (holding e.map run)) (run.foldl (grantCell e c) v) := by
  induction run generalizing v with
  | nil => exact (readsAs_of_quiet (modCtx_quiet v c _ (by simp [holding]))).symm
  | cons p rest ih =>
    have later : ∀ q ∈ rest, (((addHolder c v p).modCtx c (holding e.map [p])).cell q.1).reservedFor = none := by
      intro q hq
      obtain ⟨l, hl⟩ := addHolder_cell (c := c) v p q.1
      rw [Run.cell_modCtx, hl]
      exact h q (List.mem_cons_of_mem _ hq)
    rw [List.foldl_cons, List.foldl_cons, grantCell_unreserved (h p (List.mem_cons_self ..))]
    refine ReadsAs.trans ?_ (ih _ later)
    rw [foldl_addHolder_modCtx]
    exact readsAs_modCtx_modCtx _ c (by simp [holding])

theorem queueOf_foldl_grantCell (run : List (Nat × Nat)) {v : Run} (hq : v.queueOf c = none)
    (h : ∀ p ∈ run, (v.cell p.1).reservedFor = none ∧ (v.cell p.1).queue = []) :
    (run.foldl (grantCell e c) v).queueOf c = none := by
  induction run generalizing v with
  | nil => exact hq
  | cons p rest ih =>
    obtain ⟨free, empty⟩ := h p (List.mem_cons_self ..)
    rw [List.foldl_cons, grantCell_unreserved free]
    refine ih (queueOf_setCell_none hq empty) (fun q hq => ?_)
    obtain ⟨l, hl⟩ := addHolder_cell (c := c) v p q.1
    rw [Run.cell_modCtx, hl]
    exact h q (List.mem_cons_of_mem _ hq)

theorem foldl_recompute_of_no_waiter (l : List Nat) (v : Run) (h : ∀ x ∈ l, (v.cell x).queue = []) :
    l.foldl (recompute e) v = v := by
  induction l with
  | nil => rfl
  | cons x rest ih =>
    rw [List.foldl_cons, recompute_of_no_waiter e v x (h x (List.mem_cons_self ..))]
    exact ih (fun y hy => h y (List.mem_cons_of_mem _ hy))

theorem foldl_grantReport_plain (run : List (Nat × Nat)) (v : Run)
    (h : ∀ p ∈ run, e.map.corridorOf p.1 = none ∧ e.map.gateOf p.1 = none) : run.foldl (grantReport e c) v = v := by
  induction run with
  | nil => rfl
  | cons p rest ih =>
    obtain ⟨corridor, gate⟩ := h p (List.mem_cons_self ..)
    have none : grantReport e c v p = v := by simp only [grantReport, corridor, gate]
    rw [List.foldl_cons, none]
    exact ih (fun q hq => h q (List.mem_cons_of_mem _ hq))

/-- A plain run granted to a carrier in no queue and without a wait edge: the run that results reads as the granted run,
and the carrier is still in no queue. -/
theorem grantRun_plain {v : Run} {run : List (Nat × Nat)} (plain : PlainRun e v c run) (hq : v.queueOf c = none)
    (he : v.edge c = none) :
    ReadsAs (grantedRun e v c run) (grantRun e v c run) ∧ (grantRun e v c run).queueOf c = none := by
  obtain ⟨-, cells⟩ := plain
  have held : ReadsAs ((run.foldl (addHolder c) v).modCtx c (holding e.map run)) (run.foldl (grantCell e c) v) :=
    foldl_grantCell_readsAs run v (fun p hp => (cells p hp).2.2.2.1)
  have unqueued : (run.foldl (grantCell e c) v).queueOf c = none :=
    queueOf_foldl_grantCell run hq (fun p hp => (cells p hp).2.2.2)
  have edgeless : (run.foldl (grantCell e c) v).edge c = none := by
    rw [Run.edge, held.ctx, Run.ctx_modCtx_self, foldl_addHolder_ctx]
    exact he
  have counted : ReadsAs (grantedRun e v c run)
      ((leaveWaiting e (run.foldl (grantCell e c) v) c).modCtx c (fun k => { k with
        passOver := 0, grantMark := k.grantMark + run.length, holdLifted := false })) := by
    rw [grantedRun_eq, foldl_addHolder_modCtx]
    refine .trans ?_ (((held.modCtx c _).trans (leaveWaiting_readsAs e _ c unqueued edgeless)).modCtx c _)
    refine .trans ?_ ((readsAs_modCtx_modCtx _ c (k := fun k => { holding e.map run k with wait := none }) rfl).modCtx c _)
    exact readsAs_modCtx_modCtx _ c rfl
  have empty (x : Nat) (hx : x ∈ run.map Prod.fst) : ((grantedRun e v c run).cell x).queue = [] := by
    obtain ⟨p, hp, rfl⟩ := List.mem_map.mp hx
    obtain ⟨l, hl⟩ := foldl_addHolder_cell (c := c) run v p.1
    rw [grantedRun_eq, foldl_addHolder_modCtx, Run.cell_modCtx, hl]
    exact (cells p hp).2.2.2.2
  rw [grantRun, foldl_recompute_of_no_waiter _ _ (fun x hx => by rw [counted.cell]; exact empty x hx),
    foldl_grantReport_plain _ _ (fun p hp => ⟨(cells p hp).2.1, (cells p hp).2.2.1⟩)]
  refine ⟨counted, ?_⟩
  rw [leaveWaiting_eq e _ c unqueued edgeless]
  exact unqueued

end

/-! ## The rounds of an attempt (R45 to R54) -/

section
variable {e : Setting} {v : Run} {c : Nat} {after : After} {granted : Bool}

theorem attemptAllowed_of_runsLive (ha : e.op = .active) (hc : (v.ctx c).runsLive) : attemptAllowed e v c = true := by
  obtain ⟨running, live⟩ := hc
  simp [attemptAllowed, ha, running, live]

theorem attemptStart_offered {x : Nat} {left : List Nat} (h : attemptAllowed e v c = true) :
    attemptStart e v c (.offered x left) = v.later [.round c false (.offered x left)] := if_pos h

theorem repeatedCell_of_nodup (run : List (Nat × Nat)) (seen : List Nat) (h : (run.map Prod.fst).Nodup)
    (apart : ∀ p ∈ run, p.1 ∉ seen) : repeatedCell seen run = none := by
  induction run generalizing seen with
  | nil => rfl
  | cons p rest ih =>
    obtain ⟨x, j⟩ := p
    obtain ⟨fresh, nodup⟩ := List.nodup_cons.mp h
    have unseen : ¬seen.contains x = true := by
      simpa using apart (x, j) (List.mem_cons_self ..)
    rw [repeatedCell, if_neg unseen]
    refine ih (x :: seen) nodup (fun q hq => ?_)
    rw [List.mem_cons, not_or]
    refine ⟨fun same => fresh ?_, apart q (List.mem_cons_of_mem _ hq)⟩
    exact List.mem_map.mpr ⟨q, hq, same⟩

theorem firstFailing_of_grantable (run : List (Nat × Nat)) (h : ∀ p ∈ run, grantTest e v c p.1 p.2 = none) :
    firstFailing e v c run = none := by
  induction run with
  | nil => rfl
  | cons p rest ih =>
    rw [firstFailing, h p (List.mem_cons_self ..)]
    exact ih (fun q hq => h q (List.mem_cons_of_mem _ hq))

/-- A round that meets no stop test and asks for a grantable run grants it and goes on (R53). -/
theorem attemptRound_grants {run : List (Nat × Nat)} (h : attemptAllowed e v c = true)
    (goes : stopTest e v c = none) (next : nextRun e v c = some run) (plain : PlainRun e v c run) :
    attemptRound e v c granted after = (grantRun e v c run).later [.round c true after] := by
  obtain ⟨nodup, cells⟩ := plain
  have once : repeatedCell [] run = none := repeatedCell_of_nodup run [] nodup (fun _ _ => List.not_mem_nil)
  have grantable : firstFailing e v c run = none := firstFailing_of_grantable run (fun p hp => (cells p hp).1)
  simp only [attemptRound, h, not_true_eq_false, if_false, goes, next, Option.getD_some, once, grantable]

/-- A round that meets a stop test ends the attempt with its reason (R48). -/
theorem attemptRound_stops {reason : Reason} (h : attemptAllowed e v c = true) (stops : stopTest e v c = some reason) :
    attemptRound e v c granted after = v.later [.attemptEnd c reason granted after] := by
  simp only [attemptRound, h, not_true_eq_false, if_false, stops]

/-- A carrier with nothing to give up settles its wait state quietly, but for the order of a lane (R54). -/
theorem settleWait_quiet {reason : Reason} (h : reason ≠ .order) (hq : v.queueOf c = none)
    (hw : (v.ctx c).wait = none) : Quiet v (settleWait e v c reason) := by
  have leaves := leaveWaiting_quiet e v c hq hw
  cases reason with
  | order => exact absurd rfl h
  | cell => exact .refl v
  | none => exact leaves
  | horizon => exact leaves
  | routeEnd => exact leaves
  | hold => exact leaves
  | fetch => exact leaves
  | device => exact leaves
  | noRoute => exact leaves

/-- A context with the block reason its attempt ends with. -/
def noted (reason : Reason) (k : Context) : Context := { k with blockReason := some reason }

/-- The end of an attempt made by an offer that has granted a run: the notice, the fetch, and the rest of the offer. -/
theorem attemptEnd_offered {reason : Reason} {x : Nat} {left : List Nat} (hx : e.map.gateOf x = none) :
    attemptEnd e v c reason true (.offered x left) =
      (fetchTrigger (sendNotice e (settleWait e (v.modCtx c (noted reason)) c reason) c) c).later [.offerNext x left] := by
  simp only [attemptEnd, if_true, queueEmptied, hx, ite_self]
  rfl

end

/-! ## The offer that grants -/

section
variable {e : Setting} {v : Run} {c x : Nat} {run : List (Nat × Nat)} {reason : Reason}

/-- The granted run with the block reason its attempt ends with. -/
def grantedWith (e : Setting) (v : Run) (c : Nat) (run : List (Nat × Nat)) (reason : Reason) : Run :=
  (grantedRun e v c run).modCtx c (noted reason)

/-- The granted run with its reason, its notice sent and its fetch triggered. -/
def grantedAndTold (e : Setting) (v : Run) (c : Nat) (run : List (Nat × Nat)) (reason : Reason) : Run :=
  fetchTrigger (send (grantedWith e v c run reason) c (authNotice e (grantedWith e v c run reason) c)) c

theorem grantedRun_ctx_self : (grantedRun e v c run).ctx c = grantedContext e.map (v.ctx c) run := by
  rw [grantedRun_eq, foldl_addHolder_ctx, Run.ctx_modCtx_self]

/-- A grant changes the tables of cells and contexts alone. -/
theorem grantedWith_eq : ∃ cells carriers, grantedWith e v c run reason =
    { v with records := { v.records with cells := cells, carriers := carriers } } := by
  obtain ⟨t, ht⟩ := foldl_addHolder_eq (c := c) run (v.modCtx c (fun k => grantedContext e.map k run))
  rw [grantedWith, grantedRun_eq, ht]
  exact ⟨_, _, rfl⟩

/-- The fetch trigger sets the engine's records alone. -/
theorem fetchTrigger_eq (v : Run) (c : Nat) : ∃ g, fetchTrigger v c = v.setEngine g := by
  unfold fetchTrigger
  split
  · exact ⟨_, rfl⟩
  · exact ⟨v.records.engine, rfl⟩

theorem grantedAndTold_flow : (grantedAndTold e v c run reason).work = v.work ∧
    (grantedAndTold e v c run reason).deferred = v.deferred := by
  obtain ⟨cells, carriers, granted⟩ := grantedWith_eq (e := e) (v := v) (c := c) (run := run) (reason := reason)
  have sent := send_linksOnly (grantedWith e v c run reason) c (authNotice e (grantedWith e v c run reason) c)
  obtain ⟨g, hg⟩ := fetchTrigger_eq (send (grantedWith e v c run reason) c
    (authNotice e (grantedWith e v c run reason) c)) c
  rw [grantedAndTold, hg, Run.setEngine_work, Run.setEngine_deferred, sent.work, sent.deferred, granted]
  exact ⟨rfl, rfl⟩

/-- The attempt of a waiter taken by an offer, which gets one plain run before a stop test is met: its pieces of work end
in a run that reads as the granted run, with the offer going on after them. -/
theorem settle_attempt_grants (n : Nat) {left : List Nat} {rest : List Task} (hw : v.work = []) (ha : e.op = .active)
    (hx : e.map.gateOf x = none) (hc : (v.ctx c).runsLive) (hq : v.queueOf c = none) (he : v.edge c = none)
    (goes : stopTest e v c = none) (next : nextRun e v c = some run) (plain : PlainRun e v c run)
    (stops : stopTest e (grantedRun e v c run) c = some reason) (hr : reason ≠ .order) :
    ∃ u, ReadsAs (grantedAndTold e v c run reason) u ∧
      settle (n + 4) e (v.later (.attempt c (.offered x left) :: rest)) =
        settle n e (u.later (.offerNext x left :: rest)) := by
  obtain ⟨reads, unqueued⟩ := grantRun_plain plain hq he
  have told : ReadsAs (grantedWith e v c run reason) ((grantRun e v c run).modCtx c (noted reason)) := reads.modCtx c _
  have waitless : (((grantRun e v c run).modCtx c (noted reason)).ctx c).wait = none := by
    rw [Run.ctx_modCtx_self, reads.ctx, grantedRun_ctx_self]
    rfl
  have ended := told.trans (readsAs_of_quiet (settleWait_quiet (e := e) hr unqueued waitless))
  have sent := (ended.send c (authNotice e (grantedWith e v c run reason) c)).fetchTrigger c
  have runs : ((grantRun e v c run).ctx c).runsLive := by
    rw [reads.ctx, grantedRun_ctx_self]
    exact hc
  have allowed := attemptAllowed_of_runsLive ha hc
  have idle : (grantRun e v c run).work = [] := by
    obtain ⟨cells, carriers, granted⟩ := grantedWith_eq (e := e) (v := v) (c := c) (run := run) (reason := reason)
    exact told.work.trans ((congrArg Run.work granted).trans hw)
  have started : runTask e (.attempt c (.offered x left)) v = v.later [.round c false (.offered x left)] :=
    attemptStart_offered allowed
  have grants : runTask e (.round c false (.offered x left)) v =
      (grantRun e v c run).later [.round c true (.offered x left)] := attemptRound_grants allowed goes next plain
  have halts : runTask e (.round c true (.offered x left)) (grantRun e v c run) =
      (grantRun e v c run).later [.attemptEnd c reason true (.offered x left)] :=
    attemptRound_stops (attemptAllowed_of_runsLive ha runs) ((reads.sameRights.stopTest e c).trans stops)
  have ends : runTask e (.attemptEnd c reason true (.offered x left)) (grantRun e v c run) = _ := attemptEnd_offered hx
  rw [sendNotice, ended.sameRights.authNotice e c] at ends
  refine ⟨_, sent, ?_⟩
  rw [settle_later_cons (n + 3) started hw hw, List.singleton_append, settle_later_cons (n + 2) grants hw idle,
    List.singleton_append, settle_later_cons (n + 1) halts idle idle, List.singleton_append,
    settle_later_cons n ends idle (sent.work.trans (grantedAndTold_flow.1.trans hw)), List.singleton_append]

/-! An attempt inside an offer runs with gates' openings deferred (R126); no record of a grant depends on that. -/

theorem foldl_addHolder_deferring (b : Bool) (run : List (Nat × Nat)) (v : Run) :
    run.foldl (addHolder c) { v with deferring := b } = { run.foldl (addHolder c) v with deferring := b } := by
  induction run generalizing v with
  | nil => rfl
  | cons p rest ih => exact ih (addHolder c v p)

theorem grantedRun_deferring (b : Bool) :
    grantedRun e { v with deferring := b } c run = { grantedRun e v c run with deferring := b } := by
  rw [grantedRun_eq, grantedRun_eq, ← foldl_addHolder_deferring]
  rfl

theorem send_deferring (b : Bool) (v : Run) (c : Nat) (p : Payload) :
    send { v with deferring := b } c p = { send v c p with deferring := b } := by
  have same : ({ v with deferring := b } : Run).ctx c = v.ctx c := rfl
  simp only [send, same]
  split
  · simp only [placeOn]
    split
    next h => rw [if_pos (by exact h)]; rfl
    next h => rw [if_neg (by exact h)]; rfl
  · rfl

theorem fetchTrigger_deferring (b : Bool) (v : Run) (c : Nat) :
    fetchTrigger { v with deferring := b } c = { fetchTrigger v c with deferring := b } := by
  have same : fetchWanted { v with deferring := b } c = fetchWanted v c := rfl
  simp only [fetchTrigger, same]
  split <;> rfl

theorem grantedAndTold_deferring (b : Bool) : grantedAndTold e { v with deferring := b } c run reason =
    { grantedAndTold e v c run reason with deferring := b } := by
  have granted : grantedWith e { v with deferring := b } c run reason =
      { grantedWith e v c run reason with deferring := b } := by
    rw [grantedWith, grantedRun_deferring]
    rfl
  rw [grantedAndTold, granted, send_deferring, fetchTrigger_deferring]
  rfl

theorem offerNext_none_left (x : Nat) : offerNext e v x [] = v := by
  have nobody : (v.cell x).queue.find? (fun w => ([] : List Nat).contains w.carrier) = none :=
    List.find?_eq_none.mpr (fun _ _ => by simp)
  simp only [offerNext, nobody]

/-- An offer that finds its cell grantable to its one waiter, who gets one plain run before a stop test is met: it settles
to a run that reads as the granted run. -/
theorem settled_offer_grants {w : Waiter} (hw : v.work = []) (hd : v.deferred = []) (ha : e.op = .active)
    (hx : e.map.gateOf x = none) (queued : (v.cell x).queue = [w]) (grantable : grantTest e v w.carrier x w.step = none)
    {u : Run} (hu : v.takeFrom x w.carrier = u)
    (hc : (u.ctx w.carrier).runsLive) (hq : u.queueOf w.carrier = none) (he : u.edge w.carrier = none)
    (goes : stopTest e u w.carrier = none) (next : nextRun e u w.carrier = some run)
    (plain : PlainRun e u w.carrier run)
    (stops : stopTest e (grantedRun e u w.carrier run) w.carrier = some reason) (hr : reason ≠ .order) :
    ∃ t, ReadsAs (grantedAndTold e u w.carrier run reason) t ∧ settled e (v.later [.offer x]) = some t.records := by
  subst hu
  have stops' : stopTest e (grantedRun e { v.takeFrom x w.carrier with deferring := true } w.carrier run) w.carrier =
      some reason := by
    rw [grantedRun_deferring]
    exact stops
  obtain ⟨t, reads, attempted⟩ := settle_attempt_grants (e := e) (v := { v.takeFrom x w.carrier with deferring := true })
    2 (left := [w.carrier].erase w.carrier) (rest := [.openDeferred]) hw ha hx hc hq he goes next plain stops' hr
  rw [grantedAndTold_deferring] at reads
  obtain ⟨work, deferred⟩ :=
    grantedAndTold_flow (e := e) (v := v.takeFrom x w.carrier) (c := w.carrier) (run := run) (reason := reason)
  have idle : t.work = [] := reads.work.trans (work.trans hw)
  have start : runTask e (.offer x) v =
      { v with deferring := true }.later [.offerNext x [w.carrier], .openDeferred] := by
    have first := offerStart_active (v := v) (x := x) ha
    rwa [queued] at first
  have takes : runTask e (.offerNext x [w.carrier]) { v with deferring := true } =
      { v.takeFrom x w.carrier with deferring := true }.later
        [.attempt w.carrier (.offered x ([w.carrier].erase w.carrier))] :=
    offerNext_takes (v := { v with deferring := true }) queued (List.mem_singleton_self _) grantable
  have rest : runTask e (.offerNext x ([w.carrier].erase w.carrier)) t = t.later [] := by
    rw [List.erase_cons_head, later_nil]
    exact offerNext_none_left x
  have opens : runTask e .openDeferred t = { t with deferring := false, deferred := [] }.later [] :=
    openDeferred_none (reads.deferred.trans (deferred.trans hd))
  refine ⟨_, reads.of_deferring, ?_⟩
  refine settled_of_settle 8 ?_ (by decide)
  rw [settle_later_cons 7 start hw hw, List.append_nil, settle_later_cons 6 takes hw hw, List.singleton_append, attempted,
    settle_later_cons 1 rest idle idle, List.nil_append, settle_later_cons 0 opens idle idle]
  exact settle_later_nil 0 idle

end

/-! ## What the part holds after such an offer -/

theorem fetchTrigger_send_engine (v : Run) (c : Nat) (p : Payload) :
    (fetchTrigger (send v c p) c).records.engine = (fetchTrigger v c).records.engine := by
  have sent := send_linksOnly v c p
  have engine : (send v c p).records.engine = v.records.engine := by rw [sent.records]
  have wanted : fetchWanted (send v c p) c = fetchWanted v c := by simp only [fetchWanted, sent.ctx, engine]
  simp only [fetchTrigger, wanted]
  split
  · rw [Run.setEngine_engine, engine]
    rfl
  · exact engine

/-- A part whose records read as the granted run, of a part of which nothing but cells had changed before. -/
theorem attemptLeaves_of_reads {s t : State} {e : Setting} {v u : Run} {c : Nat} {run : List (Nat × Nat)}
    {reason : Reason} (hv : v.records = { s.records with cells := v.records.cells })
    (reads : ReadsAs (grantedAndTold e v c run reason) u) (ht : t.records = u.records) (hs : t.setting = s.setting) :
    let k := grantedWith e v c run reason
    AttemptLeaves s t k c (authNotice e k c) ∧ MonitorKept s t k c (authNotice e k c) := by
  intro k
  obtain ⟨cells, carriers, granted⟩ := grantedWith_eq (e := e) (v := v) (c := c) (run := run) (reason := reason)
  have sent := send_linksOnly k c (authNotice e k c)
  obtain ⟨g, triggered⟩ := fetchTrigger_eq (send k c (authNotice e k c)) c
  have told : grantedAndTold e v c run reason = (send k c (authNotice e k c)).setEngine g := triggered
  have engine : g = (fetchTrigger k c).records.engine := by
    rw [← fetchTrigger_send_engine k c (authNotice e k c), triggered]
    rfl
  rw [told] at reads
  have kept : k.records = { s.records with cells := cells, carriers := carriers } := by
    change (grantedWith e v c run reason).records = _
    rw [granted, hv]
  have ctx (d : Nat) : t.ctx d = k.ctx d := by
    rw [State.ctx, ht]
    exact (reads.ctx d).trans (sent.ctx d)
  have cell (x : Nat) : t.cell x = k.cell x := by
    rw [State.cell, ht]
    exact (reads.cell x).trans (sent.cell x)
  refine ⟨⟨ctx, cell, fun d => ?_, ?_, ?_, ?_, ?_, ?_, hs⟩, ?_, ?_, ?_⟩
  · rw [State.reservations, ht, reads.records, Run.reservations]
    simp only [Run.setEngine_reservations]
    rw [sent.records]
  · rw [ht, reads.records]
    simp only [Run.setEngine_corridors]
    rw [sent.records, kept]
  · rw [ht, reads.records]
    simp only [Run.setEngine_gates]
    rw [sent.records, kept]
  · rw [ht, reads.records]
    simp only [Run.setEngine_slots]
    rw [sent.records, kept]
  · rw [ht, reads.records]
    rfl
  · rw [ht, reads.records, ← engine]
    rfl
  · rw [ht, reads.records]
    simp only [Run.setEngine_deadlocks]
    rw [sent.records, kept]
  · rw [ht, reads.records]
    simp only [Run.setEngine_marks]
    rw [sent.records, kept]
  · rw [ht, reads.records]
    rfl

/-- Where the one waiter of a cell has no edge and may have the cell, there is nothing to recompute (R31). -/
theorem recompute_of_grantable {e : Setting} {v : Run} {x : Nat} {w : Waiter} (hq : (v.cell x).queue = [w])
    (waits : (v.ctx w.carrier).waitsAt x = true) (edgeless : v.edge w.carrier = none)
    (grantable : grantTest e v w.carrier x w.step = none) : recompute e v x = v := by
  have first : (v.cell x).queue.find? (fun o => o.carrier == w.carrier) = some w := by simp [hq]
  have same : changeEdge e v w.carrier none = v := by
    have target : targetFor w.carrier none = none := by simp [targetFor]
    rw [changeEdge, target, if_pos edgeless]
  have one : recomputeWaiter e x v w.carrier = v := by
    simp only [recomputeWaiter, first, waits, if_true, grantable, same]
  simpa [recompute, hq] using one

/-- A cell left at the record `r`, its waiters recomputed, and offered: where its one waiter gets one plain run, what the
statements ask of the offer (R31, R38, R39). -/
theorem settled_recompute_offer_grants {s : State} {x : Nat} {r : CellRun} {w : Waiter} {wait : WaitRec}
    {run : List (Nat × Nat)} {reason : Reason} :
    let c := w.carrier
    let e := s.setting
    let v := s.run.setCell x { r with queue := [] }
    let u := grantedWith e v c run reason
    e.op = .active → e.map.gateOf x = none → r.queue = [w] → (s.ctx c).runsLive → (s.ctx c).wait = some wait →
    wait.reason = .cell → wait.cell = x → wait.edge = none → v.queueOf c = none → grantTest e v c x w.step = none →
    stopTest e v c = none → nextRun e v c = some run → PlainRun e v c run →
    stopTest e (grantedRun e v c run) c = some reason → reason ≠ .order →
    recompute e (s.run.setCell x r) x = s.run.setCell x r ∧
    ∃ q, settled e ((s.run.setCell x r).later [.offer x]) = some q ∧
      ∀ t : State, t.records = q → t.setting = s.setting →
        AttemptLeaves s t u c (authNotice e u c) ∧ MonitorKept s t u c (authNotice e u c) := by
  intro c e v u ha hx queued runs waiting isCell here edgeless unqueued grantable goes next plain stops hr
  have inQueue : ((s.run.setCell x r).cell x).queue = [w] := by
    rw [Run.cell_setCell_self]
    exact queued
  have grantable' : grantTest e (s.run.setCell x r) c x w.step = none := by
    rw [← (sameRights_setQueue s.run x r []).grantTest]
    exact grantable
  have edge : (s.run.setCell x r).edge c = none := by
    change (s.ctx c).wait.bind WaitRec.edge = none
    rw [waiting]
    exact edgeless
  have waits : ((s.run.setCell x r).ctx c).waitsAt x = true := by
    change (s.ctx c).waitsAt x = true
    simp [Context.waitsAt, waiting, isCell, here]
  have taken : (s.run.setCell x r).takeFrom x w.carrier = v := by
    simp [Run.takeFrom, queued, v]
  obtain ⟨t, reads, settles⟩ := settled_offer_grants (v := s.run.setCell x r) rfl rfl ha hx inQueue grantable' taken runs
    unqueued edge goes next plain stops hr
  exact ⟨recompute_of_grantable inQueue waits edge grantable', t.records, settles,
    fun t' ht hs => attemptLeaves_of_reads rfl reads ht hs⟩

/-! ## CLOSE-CELL and OPEN-CELL -/

/-- Settles O25: an edit of the closed flag changes that flag, causes and edges; the offer of an opened cell takes nobody
or grants its one waiter. -/
theorem cellEditsAct : Obligations.CellEditsAct := by
  unfold Obligations.CellEditsAct
  refine ⟨fun cell s hs h => ⟨fun hc => ?_, fun hc => cellEdit_undefined hs h hc⟩, fun cell s hs h =>
    ⟨fun hc closed nobody => ?_, fun hc closed zero => ?_, fun hc opened => ?_, fun hc => cellEdit_undefined hs h hc⟩⟩
  · obtain ⟨causes, others, -⟩ := closeRun_flag s.setting s cell.toNat
    obtain ⟨flag, cells, ctx, reservations, seniority, corridors, gates, links, engine, slots⟩ :=
      frame_of_flag (t := { s.answered 3 0x0B .ok [] with records := (closeRun s.setting s.run cell.toNat).records })
        causes others rfl
    exact ⟨_, closeCell_accepted hs h hc, flag, cells, ctx, reservations, seniority, corridors, gates, links, engine, slots,
      rfl, rfl⟩
  · obtain ⟨causes, others⟩ := recompute_flag s.setting s cell.toNat false
    obtain ⟨flag, cells, ctx, reservations, -, corridors, gates, links, engine, -⟩ :=
      frame_of_flag (t := { s.answered 3 0x0C .ok [] with
        records := (recompute s.setting (s.run.setCell cell.toNat { s.cell cell.toNat with closed := false })
          cell.toNat).records }) causes others rfl
    exact ⟨_, openCell_accepted hs h hc (openRun_offers_nobody closed nobody), flag, cells, ctx, reservations, corridors,
      gates, links, engine, rfl, rfl⟩
  · intro w wait run reason c e v u ha hx queued runs waiting isCell here edgeless unqueued grantable goes next plain stops hr
    obtain ⟨same, q, settles, leaves⟩ := settled_recompute_offer_grants ha hx queued runs waiting isCell here edgeless
      unqueued grantable goes next plain stops hr
    have offers : openRun s.setting s.run cell.toNat =
        (s.run.setCell cell.toNat { s.cell cell.toNat with closed := false }).later [.offer cell.toNat] := by
      have run : openRun s.setting s.run cell.toNat = _ := if_pos closed
      rw [run]
      simp only [show recompute s.setting (s.run.setCell cell.toNat { s.run.cell cell.toNat with closed := false })
        cell.toNat = _ from same, Run.cell_setCell_self]
      exact if_pos zero
    exact ⟨_, openCell_accepted hs h hc (offers ▸ settles), leaves _ rfl rfl⟩
  · have rests : settled s.setting (openRun s.setting s.run cell.toNat) = some s.records := by
      rw [openRun_open opened]
      exact settled_rest rfl
    exact openCell_accepted hs h hc rests

end Sys2Proof.Proofs
end

section
/-! MAP-END's verdict (O18): each check of the model decides one test of R13 and reports its first failure; the chain of the
checks then reports the first test that fails, and a map without failures is sound. -/

namespace Sys2Proof.Proofs

open Sys2Proof.Machine Sys2Proof.Laws

/-! ## The first record of a table, and the first number, with a report -/

section
variable {α : Type}

theorem Table.find_eq_some_iff {t : Table α} (h : Table.wf t = true) (x : Nat) (a : α) :
    Table.find t x = some a ↔ (x, a) ∈ t := by
  rw [Table.wf_iff] at h
  induction t with
  | nil => simp
  | cons p rest ih =>
    obtain ⟨k, b⟩ := p
    rw [List.map_cons, List.pairwise_cons] at h
    obtain ⟨above, sorted⟩ := h
    rw [Table.find, List.mem_cons, Prod.mk.injEq]
    split
    next same =>
      subst same
      have absent : (k, a) ∉ rest := fun hr => Nat.lt_irrefl k (above k (List.mem_map.mpr ⟨_, hr, rfl⟩))
      simp [absent, eq_comm]
    next other =>
      rw [ih sorted]
      exact ⟨.inr, fun hr => hr.resolve_left (fun eq => other eq.1.symm)⟩

/-- The first report over a table is that of its lowest record with one. -/
theorem Table.findSome?_eq_some {ρ : Type} {t : Table α} (h : Table.wf t = true) {f : Nat × α → Option ρ} {r : ρ}
    (hr : t.findSome? f = some r) :
    ∃ x a, Table.find t x = some a ∧ f (x, a) = some r ∧
      ∀ y b, y < x → Table.find t y = some b → f (y, b) = none := by
  obtain ⟨before, ⟨x, a⟩, behind, rfl, hx, first⟩ := List.findSome?_eq_some_iff.mp hr
  refine ⟨x, a, (Table.find_eq_some_iff h x a).mpr (by simp), hx, fun y b lt hy => ?_⟩
  rw [Table.find_eq_some_iff h, List.mem_append, List.mem_cons] at hy
  rw [Table.wf_iff, List.map_append, List.pairwise_append, List.map_cons, List.pairwise_cons] at h
  obtain ⟨-, ⟨above, -⟩, -⟩ := h
  rcases hy with hy | hy | hy
  · exact first _ hy
  · cases hy
    exact absurd lt (Nat.lt_irrefl _)
  · exact absurd (above y (List.mem_map.mpr ⟨_, hy, rfl⟩)) (Nat.lt_asymm lt)

theorem Table.findSome?_eq_none {ρ : Type} {t : Table α} (h : Table.wf t = true) {f : Nat × α → Option ρ} :
    t.findSome? f = none ↔ ∀ x a, Table.find t x = some a → f (x, a) = none := by
  rw [List.findSome?_eq_none_iff]
  exact ⟨fun hf x a hx => hf _ ((Table.find_eq_some_iff h x a).mp hx),
    fun hf p hp => hf p.1 p.2 ((Table.find_eq_some_iff h _ _).mpr hp)⟩

theorem findSome?_range_eq_some {ρ : Type} {n : Nat} {f : Nat → Option ρ} {r : ρ}
    (hr : (List.range n).findSome? f = some r) : ∃ i, i < n ∧ f i = some r ∧ ∀ j, j < i → f j = none := by
  obtain ⟨before, i, behind, split, hi, first⟩ := List.findSome?_eq_some_iff.mp hr
  have inside : i ∈ List.range n := by simp [split]
  have sorted := List.pairwise_lt_range (n := n)
  rw [split, List.pairwise_append, List.pairwise_cons] at sorted
  obtain ⟨-, ⟨above, -⟩, -⟩ := sorted
  refine ⟨i, List.mem_range.mp inside, hi, fun j lt => ?_⟩
  have mem : j ∈ List.range n := List.mem_range.mpr (Nat.lt_trans lt (List.mem_range.mp inside))
  rw [split, List.mem_append, List.mem_cons] at mem
  rcases mem with mem | rfl | mem
  · exact first j mem
  · exact absurd lt (Nat.lt_irrefl _)
  · exact absurd (above j mem) (Nat.lt_asymm lt)

end

/-! ## A check that decides a test -/

/-- A check's outcome is the verdict of a test: none where it fails nowhere, else the report of its first failure. -/
def Verdict (q : MapTest) (o : Option MapReport) : Prop :=
  (o = none → ∀ x p, ¬q.fails x p) ∧ ∀ r, o = some r → ∃ x p, FailsFirst q.fails x p ∧ q.report x p r

/-- A check of one record decides a test: it is quiet exactly where the test fails at no place of the record, and reports
the first place; a number without a record fails nowhere. -/
structure Decides {α : Type} (t : Table α) (f : Nat × α → Option MapReport) (q : MapTest) : Prop where
  absent : ∀ x p, Table.find t x = none → ¬q.fails x p
  quiet : ∀ x a, Table.find t x = some a → f (x, a) = none → ∀ p, ¬q.fails x p
  reports : ∀ x a r, Table.find t x = some a → f (x, a) = some r →
    ∃ p, q.fails x p ∧ (∀ p', q.fails x p' → p ≤ p') ∧ q.report x p r

theorem Decides.verdict {α : Type} {t : Table α} {f : Nat × α → Option MapReport} {q : MapTest} (d : Decides t f q)
    (h : Table.wf t = true) : Verdict q (t.findSome? f) := by
  have silent (x : Nat) (hx : ∀ a, Table.find t x = some a → f (x, a) = none) (p : Nat) : ¬q.fails x p := by
    cases found : Table.find t x with
    | none => exact d.absent x p found
    | some a => exact d.quiet x a found (hx a found) p
  refine ⟨fun no x p => silent x ((Table.findSome?_eq_none h).mp no x) p, fun r hr => ?_⟩
  obtain ⟨x, a, found, hx, before⟩ := Table.findSome?_eq_some h hr
  obtain ⟨p, fails, first, report⟩ := d.reports x a r found hx
  refine ⟨x, p, ⟨fails, fun x' p' fails' => ?_⟩, report⟩
  rcases Nat.lt_trichotomy x x' with lt | rfl | gt
  · exact .inl lt
  · exact .inr ⟨rfl, first p' fails'⟩
  · exact absurd fails' (silent x' (fun b hb => before x' b gt hb) p')

/-! ## The chain of checks -/

/-- An outcome is that of the first test of a list that fails. -/
def FirstVerdict (qs : List MapTest) (o : Option MapReport) : Prop :=
  (o = none → ∀ q ∈ qs, ∀ x p, ¬q.fails x p) ∧
  ∀ r, o = some r → ∃ (n : Nat) (q : MapTest) (x p : Nat), qs[n]? = some q ∧ FailsFirst q.fails x p ∧ q.report x p r ∧
    ∀ (n' : Nat) (q' : MapTest), n' < n → qs[n']? = some q' → ∀ x' p', ¬q'.fails x' p'

theorem firstVerdict_singleton {q : MapTest} {o : Option MapReport} (h : Verdict q o) : FirstVerdict [q] o := by
  obtain ⟨quiet, reports⟩ := h
  refine ⟨fun no q' hq => by rw [List.mem_singleton.mp hq]; exact quiet no, fun r hr => ?_⟩
  obtain ⟨x, p, first, report⟩ := reports r hr
  exact ⟨0, q, x, p, rfl, first, report, fun _ _ lt => absurd lt (Nat.not_lt_zero _)⟩

theorem firstVerdict_cons {q : MapTest} {qs : List MapTest} {o o' : Option MapReport} (h : Verdict q o)
    (hs : FirstVerdict qs o') : FirstVerdict (q :: qs) (o <|> o') := by
  obtain ⟨quiet, reports⟩ := h
  cases o with
  | some r =>
    refine ⟨fun quiets => by simp at quiets, fun r' hr => ?_⟩
    cases hr
    obtain ⟨x, p, first, report⟩ := reports r rfl
    exact ⟨0, q, x, p, rfl, first, report, fun _ _ lt => absurd lt (Nat.not_lt_zero _)⟩
  | none =>
    obtain ⟨quiets, later⟩ := hs
    refine ⟨fun no q' hq => ?_, fun r hr => ?_⟩
    · rcases List.mem_cons.mp hq with rfl | hq
      · exact quiet rfl
      · exact quiets no q' hq
    · obtain ⟨n, q', x, p, at_, first, report, before⟩ := later r hr
      refine ⟨n + 1, q', x, p, at_, first, report, fun n' q'' lt hq => ?_⟩
      cases n' with
      | zero =>
        cases hq
        exact quiet rfl
      | succ n' => exact before n' q'' (Nat.lt_of_succ_lt_succ lt) hq

theorem FirstVerdict.none_iff {qs : List MapTest} {o : Option MapReport} (h : FirstVerdict qs o) :
    o = none ↔ ∀ q ∈ qs, ∀ x p, ¬q.fails x p := by
  refine ⟨h.1, fun silent => ?_⟩
  cases o with
  | none => rfl
  | some r =>
    obtain ⟨n, q, x, p, at_, first, -⟩ := h.2 r rfl
    exact absurd first.1 (silent q (List.mem_of_getElem? at_) x p)

/-! ## The checks of ports (checks 1 and 2) -/

theorem CellStatic.port_eq_some_iff (k : CellStatic) (p y : Nat) : k.port p = some y ↔ k.ports[p]? = some (some y) :=
  Option.join_eq_some_iff

/-- The search of a cell's named neighbours finds the lowest port that names one of the kind sought. -/
theorem find?_named_eq_some {k : CellStatic} {P : Nat × Nat → Bool} {b : Nat × Nat} (h : k.named.find? P = some b) :
    k.ports[b.1]? = some (some b.2) ∧ P b = true ∧
      ∀ p y, k.ports[p]? = some (some y) → P (p, y) = true → b.1 ≤ p := by
  rw [CellStatic.named, List.find?_filterMap, Option.bind_eq_some_iff] at h
  obtain ⟨i, found, named⟩ := h
  obtain ⟨y, hy, rfl⟩ := Option.map_eq_some_iff.mp named
  obtain ⟨sought, -, first⟩ := List.find?_range_eq_some.mp found
  rw [hy] at sought
  refine ⟨(CellStatic.port_eq_some_iff k i y).mp hy, sought, fun p z hz hP => Nat.le_of_not_lt (fun lt => ?_)⟩
  have unsought := first p lt
  rw [(CellStatic.port_eq_some_iff k p z).mpr hz] at unsought
  simp [hP] at unsought

theorem find?_named_eq_none {k : CellStatic} (hk : k.ports.length = 4) {P : Nat × Nat → Bool}
    (h : k.named.find? P = none) (p y : Nat) (hy : k.ports[p]? = some (some y)) : ¬P (p, y) = true := by
  have inside : p < 4 := hk ▸ (List.getElem?_eq_some_iff.mp hy).1
  refine List.find?_eq_none.mp h (p, y) ?_
  simp only [CellStatic.named, List.mem_filterMap, List.mem_range]
  exact ⟨p, inside, by rw [(CellStatic.port_eq_some_iff k p y).mpr hy]; rfl⟩

section
variable {m : MapStore}

theorem portNames_iff {x p y : Nat} {k : CellStatic} (hk : Table.find m.cells x = some k) :
    PortNames m x p y ↔ k.ports[p]? = some (some y) := by
  simp [PortNames, hk]

theorem names_iff (m : MapStore) (y x : Nat) : m.names y x = true ↔ CellNames m y x := by
  cases h : Table.find m.cells y <;> simp [MapStore.names, CellNames, h]

/-- A check that searches a cell's named neighbours decides the test of the same search. -/
theorem decides_of_named {P : Nat → Nat × Nat → Bool} {R : Nat → Nat × Nat → MapReport} {q : MapTest}
    (ports : ∀ x k, Table.find m.cells x = some k → k.ports.length = 4)
    (fails : ∀ x p, q.fails x p ↔ ∃ y, PortNames m x p y ∧ P x (p, y) = true)
    (report : ∀ x p y, PortNames m x p y → q.report x p (R x (p, y))) :
    Decides m.cells (fun c => (c.2.named.find? (P c.1)).map (R c.1)) q where
  absent x p no := by
    rw [fails]
    rintro ⟨y, ⟨k, hk, -⟩, -⟩
    rw [no] at hk
    cases hk
  quiet x k hk no p := by
    rw [fails]
    rintro ⟨y, hy, sought⟩
    exact find?_named_eq_none (ports x k hk) (Option.map_eq_none_iff.mp no) p y ((portNames_iff hk).mp hy) sought
  reports x k r hk hr := by
    obtain ⟨⟨p, y⟩, found, rfl⟩ := Option.map_eq_some_iff.mp hr
    obtain ⟨hy, sought, first⟩ := find?_named_eq_some found
    have names := (portNames_iff hk).mpr hy
    refine ⟨p, (fails x p).mpr ⟨y, names, sought⟩, fun p' fails' => ?_, report x p y names⟩
    obtain ⟨y', names', sought'⟩ := (fails x p').mp fails'
    exact first p' y' ((portNames_iff hk).mp names') sought'

theorem checkNeighbours_decides (ports : ∀ x k, Table.find m.cells x = some k → k.ports.length = 4) :
    Decides m.cells (checkNeighbours m) ((mapTests m)[0]'(by simp [mapTests])) :=
  decides_of_named (P := fun _ q => (Table.find m.cells q.2).isNone)
    (R := fun x q => { failure := .undefinedNeighbour, object := .cell x, detail := byteField q.1 ++ cellField (some q.2) })
    ports (fun x p => by simp [mapTests]) (fun x p y names => ⟨y, names, rfl⟩)

theorem checkReturned_decides (ports : ∀ x k, Table.find m.cells x = some k → k.ports.length = 4) :
    Decides m.cells (checkReturned m) ((mapTests m)[1]'(by simp [mapTests])) :=
  decides_of_named (P := fun x q => !m.names q.2 x)
    (R := fun x q => { failure := .oneWay, object := .cell x, detail := byteField q.1 ++ cellField (some q.2) })
    ports (fun x p => by simp [mapTests, ← names_iff]) (fun x p y names => ⟨y, names, rfl⟩)

/-! ## The checks of whole records (checks 3, 4 and 6) -/

/-- A check of whole records decides a test that fails at place 0 or not at all. -/
theorem decides_of_whole {α : Type} {t : Table α} {f : Nat × α → Option MapReport} {q : MapTest} {F : Nat → α → Prop}
    (fails : ∀ x p, q.fails x p ↔ p = 0 ∧ ∃ a, Table.find t x = some a ∧ F x a)
    (quiet : ∀ x a, Table.find t x = some a → f (x, a) = none → ¬F x a)
    (reports : ∀ x a r, Table.find t x = some a → f (x, a) = some r → F x a ∧ q.report x 0 r) : Decides t f q where
  absent x p no := by
    rw [fails]
    rintro ⟨-, a, found, -⟩
    rw [no] at found
    cases found
  quiet x a found no p := by
    rw [fails]
    rintro ⟨-, b, found', fault⟩
    rw [found] at found'
    cases found'
    exact quiet x a found no fault
  reports x a r found hr := by
    obtain ⟨fault, report⟩ := reports x a r found hr
    exact ⟨0, (fails x 0).mpr ⟨rfl, a, found, fault⟩, fun _ _ => Nat.zero_le _, report⟩

/-- What is wrong with the ports of a LANE's record (R14). -/
def LaneRecordFault (k : CellStatic) (d : Nat) : Prop :=
  k.kind = .lane ∧ ((d = 0 ∧ k.entryPort.bind k.port = none) ∨
    (d = 1 ∧ k.entryPort.bind k.port ≠ none ∧ k.exitPort.bind k.port = none) ∨
    (d = 2 ∧ k.entryPort.bind k.port ≠ none ∧ k.exitPort.bind k.port ≠ none ∧ k.entryPort = k.exitPort))

theorem laneFault_iff (m : MapStore) (x d : Nat) :
    LaneFault m x d ↔ ∃ k, Table.find m.cells x = some k ∧ LaneRecordFault k d := Iff.rfl

theorem checkLane_none {x : Nat} {k : CellStatic} (h : checkLane (x, k) = none) (d : Nat) : ¬LaneRecordFault k d := by
  rintro ⟨lane, fault⟩
  simp only [checkLane, lane, if_true, Option.isNone_iff_eq_none] at h
  split_ifs at h with noEntry noExit same
  rcases fault with ⟨-, no⟩ | ⟨-, -, no⟩ | ⟨-, -, -, eq⟩
  · exact noEntry no
  · exact noExit no
  · exact same eq

theorem checkLane_some {x : Nat} {k : CellStatic} {r : MapReport} (h : checkLane (x, k) = some r) :
    ∃ d, LaneRecordFault k d ∧ r = { failure := .lanePorts, object := .cell x, detail := byteField d } := by
  simp only [checkLane, Option.isNone_iff_eq_none] at h
  split_ifs at h with lane noEntry noExit same
  · exact ⟨0, ⟨lane, .inl ⟨rfl, noEntry⟩⟩, (Option.some.inj h).symm⟩
  · exact ⟨1, ⟨lane, .inr (.inl ⟨rfl, noEntry, noExit⟩)⟩, (Option.some.inj h).symm⟩
  · exact ⟨2, ⟨lane, .inr (.inr ⟨rfl, noEntry, noExit, same⟩)⟩, (Option.some.inj h).symm⟩

theorem checkLane_decides : Decides m.cells checkLane ((mapTests m)[2]'(by simp [mapTests])) :=
  decides_of_whole (F := fun _ k => ∃ d, LaneRecordFault k d)
    (fun x p => by
      simp only [mapTests, List.getElem_cons_succ, List.getElem_cons_zero, laneFault_iff]
      tauto)
    (fun x k _ no ⟨d, fault⟩ => checkLane_none no d fault)
    (fun x k r found hr => by
      obtain ⟨d, fault, rfl⟩ := checkLane_some hr
      exact ⟨⟨d, fault⟩, d, ⟨k, found, fault⟩, rfl⟩)

theorem portalOf_eq_some_iff (g x : Nat) :
    m.portalOf g = some x ↔ ∃ b, Table.find m.gates g = some b ∧ b.portal = x := by
  simp [MapStore.portalOf]

theorem gateOf_eq_some_iff (x g : Nat) :
    m.gateOf x = some g ↔ ∃ k, Table.find m.cells x = some k ∧ k.kind = .portal ∧ k.gate = some g := by
  cases h : Table.find m.cells x <;> simp [MapStore.gateOf, h]

theorem portalBound_iff (k : CellStatic) (x : Nat) : k.gate.bind m.portalOf = some x ↔
    ∃ g b, k.gate = some g ∧ Table.find m.gates g = some b ∧ b.portal = x := by
  simp [Option.bind_eq_some_iff, portalOf_eq_some_iff]

theorem checkPortal_decides : Decides m.cells (checkPortal m) ((mapTests m)[3]'(by simp [mapTests])) :=
  decides_of_whole (F := fun x k => k.kind = .portal ∧ ¬k.gate.bind m.portalOf = some x)
    (fun x p => by simp only [mapTests, List.getElem_cons_succ, List.getElem_cons_zero, portalBound_iff])
    (fun x k _ no fault => by
      obtain ⟨portal, unbound⟩ := fault
      simp [checkPortal, portal, unbound] at no)
    (fun x k r found hr => by
      simp only [checkPortal] at hr
      split_ifs at hr with portal bound
      exact ⟨⟨portal, bound⟩, k, found, (Option.some.inj hr).symm⟩)

theorem checkBinding_decides : Decides m.gates (checkBinding m) ((mapTests m)[4]'(by simp [mapTests])) :=
  decides_of_whole (F := fun g b => ¬m.gateOf b.portal = some g)
    (fun g p => by simp only [mapTests, List.getElem_cons_succ, List.getElem_cons_zero, gateOf_eq_some_iff])
    (fun g b _ no unbound => by simp [checkBinding, unbound] at no)
    (fun g b r found hr => by
      simp only [checkBinding] at hr
      split_ifs at hr with bound
      exact ⟨bound, b, found, (Option.some.inj hr).symm⟩)

theorem checkPartner_decides : Decides m.gates (checkPartner m) ((mapTests m)[6]'(by simp [mapTests])) :=
  decides_of_whole (F := fun g b => g % 2 = 0 ∧ b.partner = true ∧ (Table.find m.gates (g + 1)).isNone = true)
    (fun g p => by
      simp only [mapTests, List.getElem_cons_succ, List.getElem_cons_zero, Option.isNone_iff_eq_none]
      tauto)
    (fun g b _ no unpaired => by simp [checkPartner, unpaired] at no)
    (fun g b r found hr => by
      simp only [checkPartner] at hr
      split_ifs at hr with unpaired
      exact ⟨unpaired, (Option.some.inj hr).symm⟩)

end

end Sys2Proof.Proofs
end

namespace Sys2Proof.Proofs

open Sys2Proof.Machine Sys2Proof.Laws

/-! ## The checks of corridor members (check 5) -/

section
variable {m : MapStore}

theorem mem_at_iff {t : Table (List Nat)} {j y : Nat} :
    y ∈ Table.at t [] j ↔ ∃ l, Table.find t j = some l ∧ y ∈ l := by
  cases h : Table.find t j <;> simp [Table.at, h]

theorem lowerCorridor_eq_some (hw : Table.wf m.corridors = true) {k y j : Nat} (h : lowerCorridor m k y = some j) :
    j < k ∧ y ∈ Table.at m.corridors [] j := by
  obtain ⟨⟨j', l⟩, found, rfl⟩ := Option.map_eq_some_iff.mp h
  have lower := List.find?_some found
  simp only [Bool.and_eq_true, decide_eq_true_eq, List.contains_iff_mem] at lower
  exact ⟨lower.1, mem_at_iff.mpr ⟨l, (Table.find_eq_some_iff hw j' l).mpr (List.mem_of_find?_eq_some found), lower.2⟩⟩

theorem lowerCorridor_eq_none (hw : Table.wf m.corridors = true) {k y : Nat} (h : lowerCorridor m k y = none) :
    ¬∃ j < k, y ∈ Table.at m.corridors [] j := by
  rintro ⟨j, lt, hy⟩
  obtain ⟨l, hl, hy⟩ := mem_at_iff.mp hy
  have none := List.find?_eq_none.mp (Option.map_eq_none_iff.mp h) (j, l) ((Table.find_eq_some_iff hw j l).mp hl)
  simp [lt, hy] at none

theorem kindOf_track_iff (m : MapStore) (y : Nat) :
    m.kindOf y = some .track ↔ ∃ q, Table.find m.cells y = some q ∧ q.kind = .track := by
  simp [MapStore.kindOf]

/-- The member tests of a corridor whose members are `l`. -/
theorem memberTests_of_found {k i y : Nat} {l : List Nat} (found : Table.find m.corridors k = some l) :
    memberTests m k i y =
      [(.memberKind, ¬∃ q, Table.find m.cells y = some q ∧ q.kind = .track), (.memberRepeated, y ∈ l.take i),
        (.memberShared, ∃ j < k, y ∈ Table.at m.corridors [] j),
        (.memberGap, i ≠ 0 ∧ ¬CellNames m y (l.getD (i - 1) 0))] := by
  have members : Table.at m.corridors [] k = l := by rw [Table.at, found]; rfl
  simp only [memberTests, members]

variable {k i y : Nat} {l : List Nat} (hw : Table.wf m.corridors = true) (found : Table.find m.corridors k = some l)
  (member : l[i]? = some y)
include hw found member

theorem checkMember_none (h : checkMember m k l i = none) : ∀ q ∈ memberTests m k i y, ¬q.2 := by
  have here : l.getD i 0 = y := by simp [List.getD, member]
  simp only [checkMember, here] at h
  split at h
  · cases h
  next kind =>
  split at h
  · cases h
  next repeated =>
  split at h
  · cases h
  next lower =>
  split at h
  · cases h
  next gap =>
  rw [memberTests_of_found found]
  simp only [List.forall_mem_cons, List.not_mem_nil, IsEmpty.forall_iff, implies_true, and_true]
  refine ⟨not_not_intro ((kindOf_track_iff m y).mp (not_not.mp kind)), fun mem => repeated ?_,
    lowerCorridor_eq_none hw lower, fun ⟨inner, unnamed⟩ => gap ⟨inner, ?_⟩⟩
  · exact List.contains_iff_mem.mpr mem
  · rwa [← names_iff, Bool.not_eq_true] at unnamed

omit hw in
/-- The report of the first member test that fails. -/
theorem memberReport {n : Nat} {f : MapFailure} {P : Prop} {more : List Byte}
    (test : (memberTests m k i y)[n]? = some (f, P)) (fails : P) (before : ∀ q ∈ (memberTests m k i y).take n, ¬q.2)
    (other : f ≠ .memberShared → more = [])
    (shared : f = .memberShared → ∃ j < k, y ∈ Table.at m.corridors [] j ∧ more = byteField j) :
    ((mapTests m)[5]'(by simp [mapTests])).report k i
      { failure := f, object := .corridor k, detail := byteField i ++ cellField (some y) ++ more } := by
  have members : (Table.at m.corridors [] k)[i]? = some y := by rw [Table.at, found]; exact member
  refine ⟨y, n, f, members, ⟨_, test, rfl, fails⟩, fun j q lt hq => before q ?_, more, rfl, other, shared⟩
  exact List.mem_of_getElem? ((List.getElem?_take_of_lt lt).trans hq)

theorem checkMember_some {r : MapReport} (h : checkMember m k l i = some r) :
    ((mapTests m)[5]'(by simp [mapTests])).report k i r := by
  have here : l.getD i 0 = y := by simp [List.getD, member]
  have tests := memberTests_of_found (i := i) (y := y) found
  simp only [checkMember, here] at h
  split at h
  next kind =>
    cases h
    exact memberReport found member (n := 0) (congrArg (·[0]?) tests) (mt (kindOf_track_iff m y).mpr kind) (by simp)
      (fun _ => rfl) nofun
  next kind =>
  have track := (kindOf_track_iff m y).mp (not_not.mp kind)
  split at h
  next repeated =>
    cases h
    exact memberReport found member (n := 1) (congrArg (·[1]?) tests) (List.contains_iff_mem.mp repeated)
      (by simpa [tests] using track) (fun _ => rfl) nofun
  next repeated =>
  have once := mt List.contains_iff_mem.mpr repeated
  split at h
  next j lower =>
    cases h
    obtain ⟨lt, shared⟩ := lowerCorridor_eq_some hw lower
    exact memberReport found member (n := 2) (congrArg (·[2]?) tests) ⟨j, lt, shared⟩
      (by simpa [tests, once] using track) (fun other => absurd rfl other) (fun _ => ⟨j, lt, shared, rfl⟩)
  next lower =>
  have alone := lowerCorridor_eq_none hw lower
  split at h
  next gap =>
    cases h
    obtain ⟨inner, unnamed⟩ := gap
    have apart : ¬CellNames m y (l.getD (i - 1) 0) := by rwa [← names_iff, Bool.not_eq_true]
    exact memberReport found member (n := 3) (congrArg (·[3]?) tests) ⟨inner, apart⟩
      (by simpa [tests, track, once, and_assoc] using alone) (fun _ => rfl) nofun
  · cases h

end

section
variable {m : MapStore}

theorem memberFails_iff {k i : Nat} {l : List Nat} (found : Table.find m.corridors k = some l) :
    ((mapTests m)[5]'(by simp [mapTests])).fails k i ↔ ∃ y, l[i]? = some y ∧ ∃ q ∈ memberTests m k i y, q.2 := by
  have members : Table.at m.corridors [] k = l := by rw [Table.at, found]; rfl
  simp only [mapTests, List.getElem_cons_succ, List.getElem_cons_zero, members]

theorem checkCorridor_decides (hw : Table.wf m.corridors = true) :
    Decides m.corridors (checkCorridor m) ((mapTests m)[5]'(by simp [mapTests])) where
  absent k i no := by
    rintro ⟨y, hy, -⟩
    simp [Table.at, no] at hy
  quiet k l found no i := by
    rw [memberFails_iff found]
    rintro ⟨y, member, q, hq, fails⟩
    have inside : i ∈ List.range l.length := List.mem_range.mpr (List.getElem?_eq_some_iff.mp member).1
    exact checkMember_none hw found member (List.findSome?_eq_none_iff.mp no i inside) q hq fails
  reports k l r found hr := by
    obtain ⟨i, inside, hi, before⟩ := findSome?_range_eq_some hr
    have report := checkMember_some hw found (List.getElem?_eq_getElem inside) hi
    obtain ⟨y, n, f, member, ⟨q, test, -, fails⟩, -⟩ := id report
    refine ⟨i, ⟨y, member, q, List.mem_of_getElem? test, fails⟩, fun i' fails' => Nat.le_of_not_lt (fun lt => ?_), report⟩
    obtain ⟨y', member', q', hq', faulty⟩ := (memberFails_iff found).mp fails'
    exact checkMember_none hw found member' (before i' lt) q' hq' faulty

/-! ## The verdict of the chain -/

theorem mapFailure_firstVerdict (cells : Table.wf m.cells = true) (corridors : Table.wf m.corridors = true)
    (gates : Table.wf m.gates = true) (ports : ∀ x k, Table.find m.cells x = some k → k.ports.length = 4) :
    FirstVerdict (mapTests m) (mapFailure m) :=
  firstVerdict_cons ((checkNeighbours_decides ports).verdict cells) <|
  firstVerdict_cons ((checkReturned_decides ports).verdict cells) <|
  firstVerdict_cons (checkLane_decides.verdict cells) <|
  firstVerdict_cons (checkPortal_decides.verdict cells) <|
  firstVerdict_cons (checkBinding_decides.verdict gates) <|
  firstVerdict_cons ((checkCorridor_decides corridors).verdict corridors) <|
  firstVerdict_singleton (checkPartner_decides.verdict gates)

/-! ## A map without failures is sound -/

theorem idxOf_of_first {l : List Nat} {i x : Nat} (member : l[i]? = some x) (first : x ∉ l.take i) : l.idxOf x = i := by
  induction l generalizing i with
  | nil => cases member
  | cons y rest ih =>
    cases i with
    | zero =>
      cases member
      exact List.idxOf_cons_self
    | succ i =>
      rw [List.take_succ_cons, List.mem_cons, not_or] at first
      obtain ⟨other, first⟩ := first
      rw [List.idxOf_cons_ne _ (Ne.symm other), ih member first]

/-- A member that no lower corridor lists has its place in its corridor, at its first position. -/
theorem placeIn_of_first {k i x : Nat} {l : List Nat} (hw : Table.wf m.corridors = true)
    (found : Table.find m.corridors k = some l) (member : l[i]? = some x) (once : x ∉ l.take i)
    (alone : ¬∃ j < k, x ∈ Table.at m.corridors [] j) : m.placeIn x = some (k, i) := by
  have sought : m.corridors.find? (fun q => q.2.contains x) = some (k, l) := by
    have lists : l.contains x = true := List.contains_iff_mem.mpr (List.mem_of_getElem? member)
    obtain ⟨lower, upper, split⟩ := List.append_of_mem ((Table.find_eq_some_iff hw k l).mp found)
    refine List.find?_eq_some_iff_append.mpr ⟨lists, lower, upper, split, fun ⟨j, l'⟩ hj => ?_⟩
    have sorted := (Table.wf_iff _).mp hw
    rw [split, List.map_append, List.pairwise_append] at sorted
    obtain ⟨-, -, below⟩ := sorted
    have lt : j < k := below j (List.mem_map.mpr ⟨_, hj, rfl⟩) k (by simp)
    have defined := (Table.find_eq_some_iff hw j l').mpr (by rw [split]; exact List.mem_append_left _ hj)
    simpa using fun mem => alone ⟨j, lt, mem_at_iff.mpr ⟨l', defined, mem⟩⟩
  rw [MapStore.placeIn, sought, Option.map_some, idxOf_of_first member once]

/-- No test of a map fails. -/
def Faultless (m : MapStore) : Prop := ∀ q ∈ mapTests m, ∀ x p, ¬q.fails x p

theorem Faultless.test {m : MapStore} (h : Faultless m) (n : Nat) (hn : n < (mapTests m).length) (x p : Nat) :
    ¬((mapTests m)[n]).fails x p := h _ (List.getElem_mem hn) x p

theorem Faultless.returned (h : Faultless m) {x y : Nat} {k : CellStatic} (hk : Table.find m.cells x = some k)
    (hy : some y ∈ k.ports) : CellNames m y x := by
  obtain ⟨p, hp⟩ := List.mem_iff_getElem?.mp hy
  exact not_not.mp fun oneWay => h.test 1 (by simp [mapTests]) x p ⟨y, ⟨k, hk, hp⟩, oneWay⟩

theorem Faultless.member (h : Faultless m) (hw : Table.wf m.corridors = true) {k i x : Nat} {l : List Nat}
    (found : Table.find m.corridors k = some l) (member : l[i]? = some x) :
    ∃ q, Table.find m.derived.cells x = some q ∧ q.kind = .track ∧ q.corridor = some (k, i) := by
  have quiet : ∀ q ∈ memberTests m k i x, ¬q.2 := fun q hq fails =>
    h.test 5 (by simp [mapTests]) k i ((memberFails_iff found).mpr ⟨x, member, q, hq, fails⟩)
  rw [memberTests_of_found found] at quiet
  simp only [List.forall_mem_cons] at quiet
  obtain ⟨track, once, alone, -⟩ := quiet
  obtain ⟨q, hq, track⟩ := not_not.mp track
  exact ⟨{ q with corridor := m.placeIn x }, (find_derived m x).trans (by rw [hq]; rfl), track,
    placeIn_of_first hw found member once alone⟩

theorem Faultless.portal (h : Faultless m) {x : Nat} {k : CellStatic} (hk : Table.find m.cells x = some k)
    (portal : k.kind = .portal) : ∃ g b, k.gate = some g ∧ Table.find m.gates g = some b ∧ b.portal = x :=
  not_not.mp fun unbound => h.test 3 (by simp [mapTests]) x 0 ⟨rfl, k, hk, portal, unbound⟩

theorem Faultless.gate (h : Faultless m) {g : Nat} {b : GateBinding} (hb : Table.find m.gates g = some b) :
    ∃ k, Table.find m.cells b.portal = some k ∧ k.kind = .portal ∧ k.gate = some g :=
  not_not.mp fun unbound => h.test 4 (by simp [mapTests]) g 0 ⟨rfl, b, hb, unbound⟩

end

/-- Settles O18, from the verdict of the chain of checks and what a map has where no test fails. -/
theorem passedMapIsSound : Obligations.PassedMapIsSound := by
  intro m cells corridors gates ports
  have verdict := mapFailure_firstVerdict cells corridors gates ports
  refine ⟨verdict.none_iff, verdict.2, fun passed => ?_⟩
  have faultless : Faultless m := verdict.none_iff.mp passed
  exact ⟨fun _ _ _ hk hy => faultless.returned hk hy, fun _ _ _ _ found member => faultless.member corridors found member,
    fun _ _ hk portal => faultless.portal hk portal, fun _ _ hb => faultless.gate hb⟩

end Sys2Proof.Proofs

section
/-! What the first law, the second law, the carrier states and the wait queues read of the records (O6, O9): each cell's
holders, reservation and queue, each carrier's state, contact, held cells and wait, the reservation lists and the order of
seniority. The laws are stated on these claims, so that an operation which leaves the claims alone keeps every law. -/

namespace Sys2Proof.Proofs

open Sys2Proof.Machine Sys2Proof.Laws

/-! ## Claims -/

/-- What a cell's record says of rights: its holders, the carrier it is reserved for, and its queue but for route steps and
block causes. -/
structure CellClaims where
  holders : List Nat
  reservedFor : Option Nat
  queue : List Waiter

/-- What a carrier's context says of rights: its state and contact, the cells it holds, and the reason and cell of its wait
record. -/
structure CarrierClaims where
  state : CarrierState
  contact : Contact
  held : List Nat
  wait : Option (WaitReason × Nat)

/-- The claims of every cell and carrier. `sorted` says whether the table of cells is in canonical form, where the queue that
a carrier is found in by number is the one it stands in. -/
structure Claims where
  sorted : Bool
  cell : Nat → CellClaims
  carrier : Nat → CarrierClaims
  reservations : Nat → List (Nat × Nat)
  seniority : List Nat

/-- A queue entry but for its route step and its block cause. -/
def placeOf (w : Waiter) : Waiter := { w with step := 0, cause := .closed }

/-- The claims of a cell's record. -/
def cellClaims (r : CellRun) : CellClaims :=
  { holders := r.holders, reservedFor := r.reservedFor, queue := r.queue.map placeOf }

/-- The claims of a carrier's context. -/
def carrierClaims (k : Context) : CarrierClaims :=
  { state := k.state, contact := k.contact, held := k.held.map Held.cell, wait := k.wait.map (fun w => (w.reason, w.cell)) }

/-- The claims that a set of records holds. -/
def claimsOf (r : Records) : Claims :=
  { sorted := Table.wf r.cells
    cell := fun x => cellClaims (Table.at r.cells CellRun.free x)
    carrier := fun c => carrierClaims (Table.at r.carriers Context.vacant c)
    reservations := Table.at r.reservations []
    seniority := r.seniority }

/-- `k` with the claims of one cell set. -/
def Claims.setCell (k : Claims) (x : Nat) (r : CellClaims) : Claims := { k with cell := Function.update k.cell x r }

/-- `k` with the claims of one carrier set. -/
def Claims.setCarrier (k : Claims) (c : Nat) (q : CarrierClaims) : Claims :=
  { k with carrier := Function.update k.carrier c q }

/-- `k` with one reservation list set. -/
def Claims.setReservations (k : Claims) (c : Nat) (l : List (Nat × Nat)) : Claims :=
  { k with reservations := Function.update k.reservations c l }

/-- A carrier that is RUNNING with contact LIVE. -/
def CarrierClaims.runsLive (q : CarrierClaims) : Prop := q.state = .running ∧ q.contact = .live

/-- A carrier that stands in no queue. -/
def Claims.unqueued (k : Claims) (c : Nat) : Prop := ∀ x, ∀ w ∈ (k.cell x).queue, w.carrier ≠ c

/-! ## The laws on claims -/

/-- Every carrier's state is one the operating state allows (Section 10.2), but for the RUNNING carriers that ALL-STOP has
still to halt (R156); no carrier beyond 255 is enrolled. -/
structure StatesLaw (o : OpState) (owed : List Task) (k : Claims) : Prop where
  allowed : ∀ c, o.allows (k.carrier c).state = true ∨ (o = .allStop ∧ ∃ cause, .halt c cause ∈ owed)
  beyond : ∀ c, Config.carriers ≤ c → (k.carrier c).state = .vacant

/-- First law (R22) with what keeps it, on claims. -/
structure HoldingsLaw (e : Setting) (k : Claims) : Prop where
  room : ∀ x, (k.cell x).holders.length ≤ e.map.capacity x
  once : ∀ x, (k.cell x).holders.Nodup
  apart : ∀ x, (k.cell x).reservedFor.isSome → (k.cell x).holders = []
  agree : ∀ x c, c ∈ (k.cell x).holders ↔ x ∈ (k.carrier c).held
  heldOnce : ∀ c, (k.carrier c).held.Nodup
  vacant : ∀ c, (k.carrier c).state = .vacant → (k.carrier c).held = []
  lanes : e.op.loaded = true → ∀ x, e.map.isLane x = true → (k.cell x).reservedFor = none

/-- Second law (R33) on claims: a carrier that is no longer RUNNING with contact LIVE may keep its reservations until the
clearing that is owed is made (R34). -/
structure ReservationsLaw (owed : List Task) (k : Claims) : Prop where
  agree : ∀ x c, (k.cell x).reservedFor = some c ↔ x ∈ (k.reservations c).map Prod.fst
  once : ∀ c, ((k.reservations c).map Prod.fst).Nodup
  live : ∀ c, k.reservations c ≠ [] → (k.carrier c).runsLive ∨ .clearReservations c ∈ owed

/-- The wait queues (R23, R24) on claims. -/
structure WaitsLaw (k : Claims) : Prop where
  sorted : k.sorted = true
  seniorOnce : k.seniority.Nodup
  once : ∀ x, ((k.cell x).queue.map Waiter.carrier).Nodup
  ordered : ∀ x, (k.cell x).queue.Pairwise (fun a b => aheadOf k.seniority a b = true)
  senior : ∀ x, ∀ w ∈ (k.cell x).queue, w.carrier ∈ k.seniority
  live : ∀ x, ∀ w ∈ (k.cell x).queue, (k.carrier w.carrier).runsLive
  waits : ∀ x, ∀ w ∈ (k.cell x).queue, (k.carrier w.carrier).wait = some (.cell, x)

/-- The laws that hold of the claims `k` hold of the claims `k'`, with the work `owed` still to be done. -/
structure Keeps (e : Setting) (owed : List Task) (k k' : Claims) : Prop where
  states : StatesLaw e.op owed k → StatesLaw e.op owed k'
  holdings : HoldingsLaw e k → HoldingsLaw e k'
  reservations : ReservationsLaw owed k → ReservationsLaw owed k'
  waits : WaitsLaw k → WaitsLaw k'

/-- The laws that hold of the records of the run `v` hold of those of the run `u`. -/
abbrev KeepsLaws (e : Setting) (owed : List Task) (v u : Run) : Prop :=
  Keeps e owed (claimsOf v.records) (claimsOf u.records)

section
variable {e : Setting} {owed : List Task} {k k' k'' : Claims}

theorem Keeps.refl (e : Setting) (owed : List Task) (k : Claims) : Keeps e owed k k := ⟨id, id, id, id⟩

theorem Keeps.trans (h : Keeps e owed k k') (g : Keeps e owed k' k'') : Keeps e owed k k'' :=
  ⟨g.states ∘ h.states, g.holdings ∘ h.holdings, g.reservations ∘ h.reservations, g.waits ∘ h.waits⟩

theorem Keeps.of_eq (h : k' = k) : Keeps e owed k k' := h ▸ Keeps.refl e owed k

/-- More work owed excuses no less. -/
theorem StatesLaw.mono {o : OpState} {owed' : List Task} (h : StatesLaw o owed k) (sub : owed ⊆ owed') :
    StatesLaw o owed' k :=
  ⟨fun c => (h.allowed c).imp_right fun ⟨stop, cause, mem⟩ => ⟨stop, cause, sub mem⟩, h.beyond⟩

theorem ReservationsLaw.mono {owed' : List Task} (h : ReservationsLaw owed k) (sub : owed ⊆ owed') :
    ReservationsLaw owed' k :=
  ⟨h.agree, h.once, fun c some => (h.live c some).imp_right fun mem => sub mem⟩

/-- A carrier that does not run LIVE stands in no queue. -/
theorem WaitsLaw.unqueued_of_not_runsLive (h : WaitsLaw k) {c : Nat} (hc : ¬(k.carrier c).runsLive) : k.unqueued c :=
  fun x w hw same => hc (same ▸ h.live x w hw)

/-- A carrier that has no seniority stands in no queue. -/
theorem WaitsLaw.unqueued_of_not_senior (h : WaitsLaw k) {c : Nat} (hc : c ∉ k.seniority) : k.unqueued c :=
  fun x w hw same => hc (same ▸ h.senior x w hw)

end

/-! ## The laws of the part -/

section
variable {s : State}

theorem statesAllowed_iff : s.statesAllowed ↔ StatesLaw s.setting.op [] (claimsOf s.records) :=
  ⟨fun ⟨allowed, beyond⟩ => ⟨fun c => .inl (allowed c), beyond⟩,
    fun h => ⟨fun c => (h.allowed c).resolve_right fun ⟨_, _, owed⟩ => List.not_mem_nil owed, h.beyond⟩⟩

theorem holds_iff (k : Context) (x : Nat) : k.holds x = true ↔ x ∈ (carrierClaims k).held := by
  simp [Context.holds, carrierClaims]

theorem firstLaw_iff : s.firstLaw ↔ ∀ x, (s.cell x).holders.length ≤ s.setting.map.capacity x ∧
    (s.cell x).holders.Nodup ∧ ((s.cell x).reservedFor.isSome → (s.cell x).holders = []) := by
  refine forall_congr' fun x => ?_
  cases found : Table.find s.records.cells x with
  | none => simp [State.cell, Table.at, found, CellRun.free]
  | some r => simp [State.cell, Table.at, found]

theorem holdingsSound_iff :
    s.holdingsSound ↔ HoldingsLaw s.setting (claimsOf s.records) ∧ s.statesAllowed := by
  constructor
  · rintro ⟨first, agree, heldOnce, vacant, states, lanes⟩
    have cells := firstLaw_iff.mp first
    exact ⟨⟨fun x => (cells x).1, fun x => (cells x).2.1, fun x => (cells x).2.2,
      fun x c => (agree x c).trans (holds_iff _ x), heldOnce, fun c hc => List.map_eq_nil_iff.mpr (vacant c hc), lanes⟩,
      states⟩
  · rintro ⟨h, states⟩
    exact ⟨firstLaw_iff.mpr fun x => ⟨h.room x, h.once x, h.apart x⟩,
      fun x c => (h.agree x c).trans (holds_iff _ x).symm, h.heldOnce,
      fun c hc => List.map_eq_nil_iff.mp (h.vacant c hc), states, h.lanes⟩

theorem secondLaw_iff : s.secondLaw ↔ ReservationsLaw [] (claimsOf s.records) :=
  ⟨fun ⟨agree, once, live⟩ => ⟨agree, once, fun c some => .inl (live c some)⟩,
    fun h => ⟨h.agree, h.once, fun c some => (h.live c some).resolve_right List.not_mem_nil⟩⟩

theorem waitsAt_iff (k : Context) (x : Nat) : k.waitsAt x = true ↔ (carrierClaims k).wait = some (.cell, x) := by
  cases h : k.wait with
  | none => simp [Context.waitsAt, carrierClaims, h]
  | some w => simp [Context.waitsAt, carrierClaims, h]

theorem waitsSound_iff (sorted : Table.wf s.records.cells = true) : s.waitsSound ↔ WaitsLaw (claimsOf s.records) := by
  have places (x : Nat) : ((claimsOf s.records).cell x).queue = (s.cell x).queue.map placeOf := rfl
  have ordered (x : Nat) : (((claimsOf s.records).cell x).queue.Pairwise
      fun a b => aheadOf s.records.seniority a b = true) ↔
      (s.cell x).queue.Pairwise fun a b => aheadOf s.records.seniority a b = true := by
    rw [places, List.pairwise_map]
    rfl
  have once (x : Nat) : ((claimsOf s.records).cell x).queue.map Waiter.carrier = (s.cell x).queue.map Waiter.carrier := by
    rw [places, List.map_map]
    rfl
  constructor
  · rintro ⟨seniorOnce, queues⟩
    refine ⟨sorted, seniorOnce, fun x => once x ▸ (queues x).1, fun x => (ordered x).mpr (queues x).2.1, fun x => ?_,
      fun x => ?_, fun x => ?_⟩
    all_goals
      rw [places, List.forall_mem_map]
      intro w hw
      obtain ⟨senior, live, waits⟩ := (queues x).2.2 w hw
    · exact senior
    · exact live
    · exact (waitsAt_iff _ x).mp waits
  · intro h
    refine ⟨h.seniorOnce, fun x => ⟨once x ▸ h.once x, (ordered x).mp (h.ordered x), fun w hw => ?_⟩⟩
    have member : placeOf w ∈ ((claimsOf s.records).cell x).queue := List.mem_map_of_mem hw
    exact ⟨h.senior x (placeOf w) member, h.live x (placeOf w) member, (waitsAt_iff _ x).mpr (h.waits x (placeOf w) member)⟩

end

end Sys2Proof.Proofs
end

section
/-! The changes of claims that the part is made of, and that each keeps the laws: a carrier turns to another state or wait,
leaves a queue, is taken out of one, joins one, is granted a cell, releases a cell, has a cell reserved or cleared. -/

namespace Sys2Proof.Proofs

open Sys2Proof.Machine Sys2Proof.Laws

/-! ## Claims read after they are written -/

section
variable (k : Claims)

@[simp] theorem Claims.cell_setCell_self (x : Nat) (r : CellClaims) : (k.setCell x r).cell x = r :=
  Function.update_self ..
@[simp] theorem Claims.cell_setCell_other {x y : Nat} (r : CellClaims) (h : y ≠ x) :
    (k.setCell x r).cell y = k.cell y := Function.update_of_ne h ..
@[simp] theorem Claims.carrier_setCell (x : Nat) (r : CellClaims) (c : Nat) :
    (k.setCell x r).carrier c = k.carrier c := rfl
@[simp] theorem Claims.reservations_setCell (x : Nat) (r : CellClaims) (c : Nat) :
    (k.setCell x r).reservations c = k.reservations c := rfl
@[simp] theorem Claims.seniority_setCell (x : Nat) (r : CellClaims) : (k.setCell x r).seniority = k.seniority := rfl
@[simp] theorem Claims.sorted_setCell (x : Nat) (r : CellClaims) : (k.setCell x r).sorted = k.sorted := rfl
@[simp] theorem Claims.carrier_setCarrier_self (c : Nat) (q : CarrierClaims) : (k.setCarrier c q).carrier c = q :=
  Function.update_self ..
@[simp] theorem Claims.carrier_setCarrier_other {c d : Nat} (q : CarrierClaims) (h : d ≠ c) :
    (k.setCarrier c q).carrier d = k.carrier d := Function.update_of_ne h ..
@[simp] theorem Claims.cell_setCarrier (c : Nat) (q : CarrierClaims) (x : Nat) :
    (k.setCarrier c q).cell x = k.cell x := rfl
@[simp] theorem Claims.reservations_setCarrier (c : Nat) (q : CarrierClaims) (d : Nat) :
    (k.setCarrier c q).reservations d = k.reservations d := rfl
@[simp] theorem Claims.seniority_setCarrier (c : Nat) (q : CarrierClaims) :
    (k.setCarrier c q).seniority = k.seniority := rfl
@[simp] theorem Claims.sorted_setCarrier (c : Nat) (q : CarrierClaims) : (k.setCarrier c q).sorted = k.sorted := rfl
@[simp] theorem Claims.reservations_setReservations_self (c : Nat) (l : List (Nat × Nat)) :
    (k.setReservations c l).reservations c = l := Function.update_self ..
@[simp] theorem Claims.reservations_setReservations_other {c d : Nat} (l : List (Nat × Nat)) (h : d ≠ c) :
    (k.setReservations c l).reservations d = k.reservations d := Function.update_of_ne h ..
@[simp] theorem Claims.cell_setReservations (c : Nat) (l : List (Nat × Nat)) (x : Nat) :
    (k.setReservations c l).cell x = k.cell x := rfl
@[simp] theorem Claims.carrier_setReservations (c : Nat) (l : List (Nat × Nat)) (d : Nat) :
    (k.setReservations c l).carrier d = k.carrier d := rfl
@[simp] theorem Claims.seniority_setReservations (c : Nat) (l : List (Nat × Nat)) :
    (k.setReservations c l).seniority = k.seniority := rfl
@[simp] theorem Claims.sorted_setReservations (c : Nat) (l : List (Nat × Nat)) :
    (k.setReservations c l).sorted = k.sorted := rfl

@[simp] theorem Claims.setCell_self (x : Nat) : k.setCell x (k.cell x) = k := by
  rw [Claims.setCell, Function.update_eq_self]
@[simp] theorem Claims.setCarrier_self (c : Nat) : k.setCarrier c (k.carrier c) = k := by
  rw [Claims.setCarrier, Function.update_eq_self]
@[simp] theorem Claims.setReservations_self (c : Nat) : k.setReservations c (k.reservations c) = k := by
  rw [Claims.setReservations, Function.update_eq_self]
@[simp] theorem Claims.setCarrier_setCarrier (c : Nat) (q q' : CarrierClaims) :
    (k.setCarrier c q).setCarrier c q' = k.setCarrier c q' := by
  simp [Claims.setCarrier]

end

/-! ## Laws of unchanged claims -/

section
variable {e : Setting} {owed : List Task} {k k' : Claims}

theorem StatesLaw.of_same {o : OpState} (h : StatesLaw o owed k)
    (same : ∀ c, (k'.carrier c).state = (k.carrier c).state) : StatesLaw o owed k' :=
  ⟨fun c => by rw [same]; exact h.allowed c, fun c hc => by rw [same]; exact h.beyond c hc⟩

theorem HoldingsLaw.of_same (h : HoldingsLaw e k) (holders : ∀ x, (k'.cell x).holders = (k.cell x).holders)
    (reserved : ∀ x, (k'.cell x).reservedFor = (k.cell x).reservedFor)
    (held : ∀ c, (k'.carrier c).held = (k.carrier c).held)
    (vacant : ∀ c, (k'.carrier c).state = .vacant → (k.carrier c).state = .vacant ∨ (k.carrier c).held = []) :
    HoldingsLaw e k' where
  room x := by rw [holders]; exact h.room x
  once x := by rw [holders]; exact h.once x
  apart x := by rw [holders, reserved]; exact h.apart x
  agree x c := by rw [holders, held]; exact h.agree x c
  heldOnce c := by rw [held]; exact h.heldOnce c
  vacant c hc := by rw [held]; exact (vacant c hc).elim (h.vacant c) id
  lanes hl x hx := by rw [reserved]; exact h.lanes hl x hx

theorem ReservationsLaw.of_same (h : ReservationsLaw owed k)
    (reserved : ∀ x, (k'.cell x).reservedFor = (k.cell x).reservedFor)
    (lists : ∀ c, k'.reservations c = k.reservations c)
    (live : ∀ c, (k.carrier c).runsLive → k.reservations c ≠ [] →
      (k'.carrier c).runsLive ∨ .clearReservations c ∈ owed) : ReservationsLaw owed k' where
  agree x c := by rw [reserved, lists]; exact h.agree x c
  once c := by rw [lists]; exact h.once c
  live c := by
    rw [lists]
    intro some
    rcases h.live c some with runs | clearing
    · exact live c runs some
    · exact .inr clearing

/-- Queues that lose entries, under an order of seniority that keeps the order of those that are left. -/
theorem WaitsLaw.of_fewer (h : WaitsLaw k) (sorted : k'.sorted = k.sorted) (seniorOnce : k'.seniority.Nodup)
    (queues : ∀ x, ((k'.cell x).queue).Sublist (k.cell x).queue)
    (order : ∀ x, ∀ a ∈ (k'.cell x).queue, ∀ b ∈ (k'.cell x).queue,
      aheadOf k'.seniority a b = aheadOf k.seniority a b)
    (senior : ∀ x, ∀ w ∈ (k'.cell x).queue, w.carrier ∈ k'.seniority)
    (live : ∀ x, ∀ w ∈ (k'.cell x).queue, (k.carrier w.carrier).runsLive → (k'.carrier w.carrier).runsLive)
    (waits : ∀ x, ∀ w ∈ (k'.cell x).queue, (k'.carrier w.carrier).wait = (k.carrier w.carrier).wait) :
    WaitsLaw k' where
  sorted := sorted.trans h.sorted
  seniorOnce := seniorOnce
  once x := (h.once x).sublist ((queues x).map _)
  ordered x := by
    refine ((h.ordered x).sublist (queues x)).imp_of_mem fun ha hb ahead => ?_
    rw [order x _ ha _ hb]
    exact ahead
  senior := senior
  live x w hw := live x w hw (h.live x w ((queues x).subset hw))
  waits x w hw := (waits x w hw).trans (h.waits x w ((queues x).subset hw))

end

/-! ## A carrier turns to another state or wait -/

/-- A carrier's claims may become `q`: it holds the same cells; VACANT stays VACANT and is entered with nothing held; its
state is as before or allowed where the old one was; one that no longer runs LIVE has its reservations cleared later or has
none; and one in a queue still runs LIVE and waits for the same. -/
structure Turns (e : Setting) (owed : List Task) (k : Claims) (c : Nat) (q : CarrierClaims) : Prop where
  held : q.held = (k.carrier c).held
  stays : (k.carrier c).state = .vacant → q.state = .vacant
  enters : q.state = .vacant → (k.carrier c).state = .vacant ∨ (k.carrier c).held = []
  state : q.state = (k.carrier c).state ∨ (e.op.allows (k.carrier c).state = true → e.op.allows q.state = true)
  claims : (k.carrier c).runsLive → k.reservations c ≠ [] → q.runsLive ∨ .clearReservations c ∈ owed
  queued : WaitsLaw k → k.unqueued c ∨ q.runsLive ∧ q.wait = (k.carrier c).wait

section
variable {e : Setting} {owed : List Task} {k : Claims} {c : Nat} {q : CarrierClaims}

theorem keeps_turns (h : Turns e owed k c q) : Keeps e owed k (k.setCarrier c q) where
  states law := by
    refine ⟨fun d => ?_, fun d hd => ?_⟩
    · by_cases hdc : d = c
      · subst hdc
        rw [Claims.carrier_setCarrier_self]
        rcases h.state with same | allowed
        · rw [same]
          exact law.allowed d
        · exact (law.allowed d).imp_left allowed
      · rw [Claims.carrier_setCarrier_other _ _ hdc]
        exact law.allowed d
    · by_cases hdc : d = c
      · subst hdc
        rw [Claims.carrier_setCarrier_self]
        exact h.stays (law.beyond d hd)
      · rw [Claims.carrier_setCarrier_other _ _ hdc]
        exact law.beyond d hd
  holdings law := by
    refine law.of_same (fun _ => rfl) (fun _ => rfl) (fun d => ?_) (fun d => ?_)
    · by_cases hdc : d = c
      · subst hdc
        rw [Claims.carrier_setCarrier_self, h.held]
      · rw [Claims.carrier_setCarrier_other _ _ hdc]
    · by_cases hdc : d = c
      · subst hdc
        rw [Claims.carrier_setCarrier_self]
        exact h.enters
      · rw [Claims.carrier_setCarrier_other _ _ hdc]
        exact .inl
  reservations law := by
    refine law.of_same (fun _ => rfl) (fun _ => rfl) fun d => ?_
    by_cases hdc : d = c
    · subst hdc
      rw [Claims.carrier_setCarrier_self]
      exact h.claims
    · rw [Claims.carrier_setCarrier_other _ _ hdc]
      exact fun runs _ => .inl runs
  waits law := by
    have others (x : Nat) (w : Waiter) (hw : w ∈ (k.cell x).queue) : w.carrier ≠ c ∨
        (q.runsLive ∧ q.wait = (k.carrier c).wait) := (h.queued law).imp_left fun free => free x w hw
    have same (x : Nat) (w : Waiter) (hw : w ∈ (k.cell x).queue) :
        ((k.carrier w.carrier).runsLive → ((k.setCarrier c q).carrier w.carrier).runsLive) ∧
          ((k.setCarrier c q).carrier w.carrier).wait = (k.carrier w.carrier).wait := by
      by_cases hdc : w.carrier = c
      · obtain ⟨runs, wait⟩ := (others x w hw).resolve_left (fun ne => ne hdc)
        rw [hdc, Claims.carrier_setCarrier_self]
        exact ⟨fun _ => runs, wait⟩
      · rw [Claims.carrier_setCarrier_other _ _ hdc]
        exact ⟨id, rfl⟩
    exact law.of_fewer rfl law.seniorOnce (fun _ => .refl _) (fun _ _ _ _ _ => rfl) law.senior
      (fun x w hw => (same x w hw).1) (fun x w hw => (same x w hw).2)

end

/-! ## Leaving a queue -/

/-- The cell whose queue a carrier stands in, or none where it stands in no queue. -/
def Claims.standsIn (k : Claims) (c : Nat) : Option Nat → Prop
  | some x => ∃ w ∈ (k.cell x).queue, w.carrier = c
  | none => k.unqueued c

/-- `k` with a carrier taken out of the queue of one cell. -/
def Claims.take (k : Claims) (x c : Nat) : Claims :=
  k.setCell x { k.cell x with queue := (k.cell x).queue.filter (fun w => w.carrier != c) }

/-- `k` with a carrier out of the queue it was found in and out of the order of seniority. -/
def Claims.leave (k : Claims) (o : Option Nat) (c : Nat) : Claims :=
  { (match o with
    | some x => k.take x c
    | none => k) with seniority := k.seniority.filter (· != c) }

theorem idxOf_filter_lt_iff (c : Nat) {a b : Nat} (ha : a ≠ c) (hb : b ≠ c) (l : List Nat) :
    (l.filter (· != c)).idxOf a < (l.filter (· != c)).idxOf b ↔ l.idxOf a < l.idxOf b := by
  induction l with
  | nil => simp
  | cons d l ih =>
    by_cases hd : d = c
    · subst hd
      rw [List.filter_cons_of_neg (by simp), List.idxOf_cons_ne _ (Ne.symm ha), List.idxOf_cons_ne _ (Ne.symm hb), ih]
      omega
    · rw [List.filter_cons_of_pos (by simpa using hd)]
      by_cases hda : d = a
      · subst hda
        by_cases hdb : d = b
        · simp [hdb]
        · simp [List.idxOf_cons_ne _ hdb]
      · by_cases hdb : d = b
        · subst hdb
          simp
        · simpa [List.idxOf_cons_ne _ hda, List.idxOf_cons_ne _ hdb] using ih

/-- Seniority without a carrier orders the others as before. -/
theorem aheadOf_filter (c : Nat) {a b : Waiter} (ha : a.carrier ≠ c) (hb : b.carrier ≠ c) (l : List Nat) :
    aheadOf (l.filter (· != c)) a b = aheadOf l a b := by
  simp only [aheadOf, idxOf_filter_lt_iff c ha hb l]

section
variable {e : Setting} {owed : List Task} {k : Claims} {c x : Nat}

theorem cell_take (y : Nat) : ∃ q, q.Sublist (k.cell y).queue ∧ (k.take x c).cell y = { k.cell y with queue := q } := by
  by_cases hy : y = x
  · subst hy
    exact ⟨_, List.filter_sublist, Claims.cell_setCell_self ..⟩
  · exact ⟨_, .refl _, Claims.cell_setCell_other _ _ hy⟩

theorem holders_take (y : Nat) : ((k.take x c).cell y).holders = (k.cell y).holders := by
  obtain ⟨q, -, hq⟩ := cell_take (k := k) (c := c) (x := x) y
  rw [hq]

theorem reservedFor_take (y : Nat) : ((k.take x c).cell y).reservedFor = (k.cell y).reservedFor := by
  obtain ⟨q, -, hq⟩ := cell_take (k := k) (c := c) (x := x) y
  rw [hq]

theorem queue_take (y : Nat) : ((k.take x c).cell y).queue.Sublist (k.cell y).queue := by
  obtain ⟨q, sub, hq⟩ := cell_take (k := k) (c := c) (x := x) y
  rw [hq]
  exact sub

/-- An offer takes a waiter out of a queue (R39). -/
theorem keeps_take (x c : Nat) : Keeps e owed k (k.take x c) where
  states law := law.of_same fun _ => rfl
  holdings law := law.of_same holders_take reservedFor_take (fun _ => rfl) fun _ => .inl
  reservations law := law.of_same reservedFor_take (fun _ => rfl) fun _ runs _ => .inl runs
  waits law := law.of_fewer rfl law.seniorOnce queue_take (fun _ _ _ _ _ => rfl)
    (fun y w hw => law.senior y w ((queue_take y).subset hw)) (fun _ _ _ => id) (fun _ _ _ => rfl)

theorem carrier_leave (o : Option Nat) (d : Nat) : (k.leave o c).carrier d = k.carrier d := by
  cases o <;> rfl

theorem reservations_leave (o : Option Nat) (d : Nat) : (k.leave o c).reservations d = k.reservations d := by
  cases o <;> rfl

theorem holders_leave (o : Option Nat) (y : Nat) : ((k.leave o c).cell y).holders = (k.cell y).holders := by
  cases o with
  | none => rfl
  | some x => exact holders_take y

theorem reservedFor_leave (o : Option Nat) (y : Nat) : ((k.leave o c).cell y).reservedFor = (k.cell y).reservedFor := by
  cases o with
  | none => rfl
  | some x => exact reservedFor_take y

theorem queue_leave (o : Option Nat) (y : Nat) : ((k.leave o c).cell y).queue.Sublist (k.cell y).queue := by
  cases o with
  | none => exact .refl _
  | some x => exact queue_take y

theorem setCarrier_leave (o : Option Nat) (d : Nat) (q : CarrierClaims) :
    (k.setCarrier d q).leave o c = (k.leave o c).setCarrier d q := by
  cases o <;> rfl

/-- Under the law of the queues, a carrier that leaves the queue it was found in stands in none. -/
theorem unqueued_leave {o : Option Nat} (law : WaitsLaw k) (found : k.standsIn c o) : (k.leave o c).unqueued c := by
  cases o with
  | none => exact found
  | some x =>
    obtain ⟨w, hw, rfl⟩ := found
    intro y w' hw' same
    by_cases hy : y = x
    · subst hy
      have inside : w' ∈ (k.cell y).queue.filter (fun o => o.carrier != w.carrier) := by
        simpa [Claims.leave, Claims.take] using hw'
      simp [same] at inside
    · have here := law.waits x w hw
      have there := law.waits y w' ((queue_leave (some x) y).subset hw')
      rw [same, here] at there
      cases there
      exact hy rfl

/-- A carrier leaves its queue for good (R23, R24). -/
theorem keeps_leave {o : Option Nat} (found : k.sorted = true → k.standsIn c o) : Keeps e owed k (k.leave o c) where
  states law := law.of_same fun d => by rw [carrier_leave]
  holdings law := law.of_same (holders_leave o) (reservedFor_leave o) (fun d => by rw [carrier_leave])
    fun d hd => .inl (by rwa [carrier_leave] at hd)
  reservations law := law.of_same (reservedFor_leave o) (reservations_leave o) fun d runs _ =>
    .inl (by rwa [carrier_leave])
  waits law := by
    have free := unqueued_leave law (found law.sorted)
    have seniority : (k.leave o c).seniority = k.seniority.filter (· != c) := by cases o <;> rfl
    refine law.of_fewer (by cases o <;> rfl) ?_ (queue_leave o) (fun y a ha b hb => ?_) (fun y w hw => ?_)
      (fun y w _ runs => ?_) (fun y w _ => ?_)
    · rw [seniority]
      exact law.seniorOnce.filter _
    · rw [seniority]
      exact aheadOf_filter c (free y a ha) (free y b hb) _
    · rw [seniority, List.mem_filter]
      exact ⟨law.senior y w ((queue_leave o y).subset hw), by simpa using free y w hw⟩
    · rwa [carrier_leave]
    · rw [carrier_leave]

/-- A carrier that has left its queue for good may turn to whatever a carrier in no queue may. -/
theorem unqueued_of_left {o : Option Nat} (law : WaitsLaw (k.leave o c)) : (k.leave o c).unqueued c := by
  refine law.unqueued_of_not_senior ?_
  cases o <;> simp [Claims.leave]

end

/-! ## Joining a queue -/

theorem insertWaiter_perm (s : List Nat) (w : Waiter) (l : List Waiter) : (insertWaiter s w l).Perm (w :: l) := by
  induction l with
  | nil => exact .refl _
  | cons x l ih =>
    unfold insertWaiter
    split
    · exact .refl _
    · exact (ih.cons x).trans (.swap ..)

theorem aheadOf_trans {s : List Nat} {a b d : Waiter} (hab : aheadOf s a b = true) (hbd : aheadOf s b d = true) :
    aheadOf s a d = true := by
  simp only [aheadOf, Bool.or_eq_true, Bool.and_eq_true, decide_eq_true_eq, beq_iff_eq] at *
  omega

/-- Of two carriers with seniority one stands ahead of the other. -/
theorem aheadOf_total {s : List Nat} {a b : Waiter} (ha : a.carrier ∈ s) (hne : a.carrier ≠ b.carrier)
    (h : aheadOf s a b = false) : aheadOf s b a = true := by
  have apart : s.idxOf a.carrier ≠ s.idxOf b.carrier := fun same => hne ((List.idxOf_inj ha).mp same)
  simp only [aheadOf, Bool.or_eq_false_iff, Bool.and_eq_false_iff, Bool.or_eq_true, Bool.and_eq_true,
    decide_eq_true_eq, decide_eq_false_iff_not, beq_iff_eq, beq_eq_false_iff_ne] at *
  omega

theorem insertWaiter_ordered {s : List Nat} {w : Waiter} {l : List Waiter} (hw : w.carrier ∈ s)
    (fresh : ∀ x ∈ l, x.carrier ≠ w.carrier) (h : l.Pairwise fun a b => aheadOf s a b = true) :
    (insertWaiter s w l).Pairwise fun a b => aheadOf s a b = true := by
  induction l with
  | nil => exact List.pairwise_singleton ..
  | cons x l ih =>
    obtain ⟨first, rest⟩ := List.pairwise_cons.mp h
    unfold insertWaiter
    split
    next ahead =>
      refine List.pairwise_cons.mpr ⟨fun y hy => ?_, h⟩
      rcases List.mem_cons.mp hy with rfl | hy
      · exact ahead
      · exact aheadOf_trans ahead (first y hy)
    next behind =>
      have others : ∀ y ∈ l, y.carrier ≠ w.carrier := fun y hy => fresh y (List.mem_cons_of_mem _ hy)
      refine List.pairwise_cons.mpr ⟨fun y hy => ?_, ih others rest⟩
      rcases List.mem_cons.mp ((insertWaiter_perm s w l).subset hy) with rfl | hy
      · exact aheadOf_total hw (Ne.symm (fresh x (List.mem_cons_self ..))) (Bool.not_eq_true _ ▸ behind)
      · exact first y hy

/-- Where a carrier may stand in the order of seniority when it joins a queue: at its kept place, or junior to all. -/
def JoinsSeniority (s s' : List Nat) (c : Nat) : Prop := (s' = s ∧ c ∈ s) ∨ s' = s.filter (· != c) ++ [c]

section
variable {s s' : List Nat} {c : Nat}

theorem JoinsSeniority.mem (h : JoinsSeniority s s' c) : c ∈ s' := by
  rcases h with ⟨rfl, mem⟩ | rfl
  · exact mem
  · simp

theorem JoinsSeniority.mem_of_mem (h : JoinsSeniority s s' c) {d : Nat} (hd : d ∈ s) : d ∈ s' := by
  rcases h with ⟨rfl, -⟩ | rfl
  · exact hd
  · by_cases hc : d = c <;> simp [hd, hc]

theorem JoinsSeniority.nodup (h : JoinsSeniority s s' c) (once : s.Nodup) : s'.Nodup := by
  rcases h with ⟨rfl, -⟩ | rfl
  · exact once
  · refine List.nodup_append.mpr ⟨once.filter _, List.nodup_singleton c, ?_⟩
    simp

theorem JoinsSeniority.aheadOf (h : JoinsSeniority s s' c) {a b : Waiter} (ha : a.carrier ≠ c) (hb : b.carrier ≠ c)
    (sa : a.carrier ∈ s) (sb : b.carrier ∈ s) : aheadOf s' a b = aheadOf s a b := by
  rcases h with ⟨rfl, -⟩ | rfl
  · rfl
  · rw [← aheadOf_filter c ha hb s]
    have left {d : Nat} (hd : d ∈ s) (ne : d ≠ c) :
        (s.filter (· != c) ++ [c]).idxOf d = (s.filter (· != c)).idxOf d :=
      List.idxOf_append_of_mem (by simp [hd, ne])
    simp only [Machine.aheadOf, left sa ha, left sb hb]

end

/-- `k` with a carrier at its place in the queue of cell `y`, under the order of seniority `s`, its wait record naming the
cell. -/
def Claims.join (k : Claims) (s : List Nat) (w : Waiter) (y : Nat) : Claims :=
  { k.setCell y { k.cell y with queue := insertWaiter s w (k.cell y).queue } with
    seniority := s
    carrier := Function.update k.carrier w.carrier { k.carrier w.carrier with wait := some (.cell, y) } }

section
variable {e : Setting} {owed : List Task} {k : Claims} {s : List Nat} {w : Waiter} {y : Nat}

theorem holders_join (x : Nat) : ((k.join s w y).cell x).holders = (k.cell x).holders := by
  by_cases hx : x = y
  · subst hx
    simp [Claims.join, Claims.setCell]
  · exact congrArg CellClaims.holders (Claims.cell_setCell_other _ _ hx)

theorem reservedFor_join (x : Nat) : ((k.join s w y).cell x).reservedFor = (k.cell x).reservedFor := by
  by_cases hx : x = y
  · subst hx
    simp [Claims.join, Claims.setCell]
  · exact congrArg CellClaims.reservedFor (Claims.cell_setCell_other _ _ hx)

theorem queue_join_self : ((k.join s w y).cell y).queue = insertWaiter s w (k.cell y).queue :=
  congrArg CellClaims.queue (Claims.cell_setCell_self ..)

theorem queue_join_other {x : Nat} (hx : x ≠ y) : ((k.join s w y).cell x).queue = (k.cell x).queue :=
  congrArg CellClaims.queue (Claims.cell_setCell_other _ _ hx)

theorem carrier_join_self : (k.join s w y).carrier w.carrier = { k.carrier w.carrier with wait := some (.cell, y) } :=
  Function.update_self ..

theorem carrier_join_other {d : Nat} (hd : d ≠ w.carrier) : (k.join s w y).carrier d = k.carrier d :=
  Function.update_of_ne hd ..

/-- Joining a queue leaves of every carrier all but its wait record. -/
theorem carrier_join (d : Nat) : ∃ wait, (k.join s w y).carrier d = { k.carrier d with wait := wait } := by
  by_cases hd : d = w.carrier
  · subst hd
    exact ⟨_, carrier_join_self⟩
  · exact ⟨_, carrier_join_other hd⟩

theorem mem_queue_join {x : Nat} {o : Waiter} (h : o ∈ ((k.join s w y).cell x).queue) :
    (x = y ∧ o = w) ∨ o ∈ (k.cell x).queue := by
  by_cases hx : x = y
  · subst hx
    rw [queue_join_self] at h
    exact (List.mem_cons.mp ((insertWaiter_perm s w _).subset h)).imp_left fun same => ⟨rfl, same⟩
  · rw [queue_join_other hx] at h
    exact .inr h

/-- A carrier that runs LIVE and stands in no queue joins one (R23, R29). -/
theorem keeps_join (runs : (k.carrier w.carrier).runsLive) (free : WaitsLaw k → k.unqueued w.carrier)
    (joins : JoinsSeniority k.seniority s w.carrier) : Keeps e owed k (k.join s w y) where
  states law := law.of_same fun d => by
    obtain ⟨wait, hd⟩ := carrier_join (k := k) (s := s) (w := w) (y := y) d
    rw [hd]
  holdings law := by
    refine law.of_same holders_join reservedFor_join (fun d => ?_) (fun d => ?_)
    all_goals
      obtain ⟨wait, hd⟩ := carrier_join (k := k) (s := s) (w := w) (y := y) d
      rw [hd]
    exact .inl
  reservations law := law.of_same reservedFor_join (fun _ => rfl) fun d runs _ => by
    obtain ⟨wait, hd⟩ := carrier_join (k := k) (s := s) (w := w) (y := y) d
    rw [hd]
    exact .inl runs
  waits law := by
    have free := free law
    have ordered (x : Nat) : (k.cell x).queue.Pairwise fun a b => aheadOf s a b = true := by
      refine (law.ordered x).imp_of_mem fun ha hb ahead => ?_
      rw [joins.aheadOf (free x _ ha) (free x _ hb) (law.senior x _ ha) (law.senior x _ hb)]
      exact ahead
    refine ⟨law.sorted, joins.nodup law.seniorOnce, fun x => ?_, fun x => ?_, fun x o ho => ?_, fun x o ho => ?_,
      fun x o ho => ?_⟩
    · by_cases hx : x = y
      · subst hx
        rw [queue_join_self]
        refine (((insertWaiter_perm s w _).map _).nodup_iff).mpr (List.nodup_cons.mpr ⟨?_, law.once x⟩)
        rw [List.mem_map]
        rintro ⟨o, ho, same⟩
        exact free x o ho same
      · rw [queue_join_other hx]
        exact law.once x
    · by_cases hx : x = y
      · subst hx
        rw [queue_join_self]
        exact insertWaiter_ordered joins.mem (free x) (ordered x)
      · rw [queue_join_other hx]
        exact ordered x
    · rcases mem_queue_join ho with ⟨-, rfl⟩ | ho
      · exact joins.mem
      · exact joins.mem_of_mem (law.senior x o ho)
    · obtain ⟨wait, hd⟩ := carrier_join (k := k) (s := s) (w := w) (y := y) o.carrier
      rw [hd]
      rcases mem_queue_join ho with ⟨-, rfl⟩ | ho
      · exact runs
      · exact law.live x o ho
    · rcases mem_queue_join ho with ⟨rfl, rfl⟩ | ho
      · rw [carrier_join_self]
      · rw [carrier_join_other (free x o ho)]
        exact law.waits x o ho

end

/-! ## Holding cells -/

/-- A cell has room for a carrier that does not hold it yet (conditions 4 and 5 of R25). -/
def Roomy (e : Setting) (k : Claims) (c x : Nat) : Prop :=
  ((k.cell x).holders.filter (· != c)).length < e.map.capacity x ∧ x ∉ (k.carrier c).held

/-- `k` with a carrier at the tail of a cell's holder list, its reservation of the cell removed (R27). -/
def Claims.grant (k : Claims) (c x : Nat) : Claims :=
  { k with
    cell := Function.update k.cell x { k.cell x with
      holders := (k.cell x).holders ++ [c]
      reservedFor := if (k.cell x).reservedFor = some c then none else (k.cell x).reservedFor }
    carrier := Function.update k.carrier c { k.carrier c with held := (k.carrier c).held ++ [x] }
    reservations := if (k.cell x).reservedFor = some c
      then Function.update k.reservations c ((k.reservations c).filter (fun q => q.1 != x)) else k.reservations }

/-- `k` with a carrier out of a cell's holder list, and its held list at `held` (R35). -/
def Claims.release (k : Claims) (c x : Nat) (held : List Nat) : Claims :=
  { k with
    cell := Function.update k.cell x { k.cell x with holders := (k.cell x).holders.filter (· != c) }
    carrier := Function.update k.carrier c { k.carrier c with held := held } }

section
variable {e : Setting} {owed : List Task} {k : Claims} {c x : Nat}

theorem HoldingsLaw.not_holder (law : HoldingsLaw e k) (roomy : Roomy e k c x) : c ∉ (k.cell x).holders :=
  fun holds => roomy.2 ((law.agree x c).mp holds)

theorem HoldingsLaw.length_lt (law : HoldingsLaw e k) (roomy : Roomy e k c x) :
    (k.cell x).holders.length < e.map.capacity x := by
  have all : (k.cell x).holders.filter (· != c) = (k.cell x).holders := by
    refine List.filter_eq_self.mpr fun d hd => ?_
    have other : d ≠ c := fun same => law.not_holder roomy (same ▸ hd)
    simpa using other
  have room := roomy.1
  rwa [all] at room

theorem carrier_grant (d : Nat) : ∃ l, (k.grant c x).carrier d = { k.carrier d with held := l } := by
  by_cases hd : d = c
  · subst hd
    exact ⟨_, Function.update_self ..⟩
  · exact ⟨_, Function.update_of_ne hd ..⟩

theorem queue_grant (y : Nat) : ((k.grant c x).cell y).queue = (k.cell y).queue := by
  by_cases hy : y = x
  · subst hy
    simp [Claims.grant]
  · exact congrArg CellClaims.queue (Function.update_of_ne hy ..)

theorem cell_grant_self : (k.grant c x).cell x = { k.cell x with
    holders := (k.cell x).holders ++ [c]
    reservedFor := if (k.cell x).reservedFor = some c then none else (k.cell x).reservedFor } := Function.update_self ..

theorem cell_grant_other {y : Nat} (hy : y ≠ x) : (k.grant c x).cell y = k.cell y := Function.update_of_ne hy ..

theorem held_grant_self : ((k.grant c x).carrier c).held = (k.carrier c).held ++ [x] := by
  simp [Claims.grant]

theorem held_grant_other {d : Nat} (hd : d ≠ c) : ((k.grant c x).carrier d).held = (k.carrier d).held :=
  congrArg CarrierClaims.held (Function.update_of_ne hd ..)

theorem HoldingsLaw.grant (law : HoldingsLaw e k) (enrolled : (k.carrier c).state ≠ .vacant) (roomy : Roomy e k c x)
    (free : (k.cell x).reservedFor = none ∨ (k.cell x).reservedFor = some c) : HoldingsLaw e (k.grant c x) := by
  have unreserved : ((k.grant c x).cell x).reservedFor = none := by
    rw [cell_grant_self]
    rcases free with none | mine
    · simp [none]
    · simp [mine]
  have fresh := law.not_holder roomy
  refine ⟨fun y => ?_, fun y => ?_, fun y => ?_, fun y d => ?_, fun d => ?_, fun d hd => ?_, fun hl y hy => ?_⟩
  · by_cases hyx : y = x
    · subst hyx
      rw [cell_grant_self, List.length_append]
      exact law.length_lt roomy
    · rw [cell_grant_other hyx]
      exact law.room y
  · by_cases hyx : y = x
    · subst hyx
      rw [cell_grant_self]
      refine List.nodup_append.mpr ⟨law.once y, List.nodup_singleton c, ?_⟩
      intro a ha b hb same
      rw [List.mem_singleton] at hb
      exact fresh (hb ▸ same ▸ ha)
    · rw [cell_grant_other hyx]
      exact law.once y
  · by_cases hyx : y = x
    · subst hyx
      rw [unreserved]
      exact fun some => absurd some (by simp)
    · rw [cell_grant_other hyx]
      exact law.apart y
  · by_cases hyx : y = x
    · subst hyx
      by_cases hdc : d = c
      · subst hdc
        rw [cell_grant_self, held_grant_self]
        simp
      · rw [cell_grant_self, held_grant_other hdc, ← law.agree y d]
        simp [hdc]
    · rw [cell_grant_other hyx, law.agree y d]
      by_cases hdc : d = c
      · subst hdc
        rw [held_grant_self]
        simp [hyx]
      · rw [held_grant_other hdc]
  · by_cases hdc : d = c
    · subst hdc
      rw [held_grant_self]
      refine List.nodup_append.mpr ⟨law.heldOnce d, List.nodup_singleton x, ?_⟩
      intro a ha b hb same
      rw [List.mem_singleton] at hb
      exact roomy.2 (hb ▸ same ▸ ha)
    · rw [held_grant_other hdc]
      exact law.heldOnce d
  · obtain ⟨l, hl⟩ := carrier_grant (k := k) (c := c) (x := x) d
    have vacant : (k.carrier d).state = .vacant := by rwa [hl] at hd
    have other : d ≠ c := fun same => enrolled (same ▸ vacant)
    rw [held_grant_other other]
    exact law.vacant d vacant
  · by_cases hyx : y = x
    · subst hyx
      exact unreserved
    · rw [cell_grant_other hyx]
      exact law.lanes hl y hy

/-- The reservation a carrier has of a cell it is granted is removed (R27). -/
theorem ReservationsLaw.grant (law : ReservationsLaw owed k) : ReservationsLaw owed (k.grant c x) := by
  have live (d : Nat) (runs : (k.carrier d).runsLive) : ((k.grant c x).carrier d).runsLive := by
    obtain ⟨l, hl⟩ := carrier_grant (k := k) (c := c) (x := x) d
    rw [hl]
    exact runs
  by_cases mine : (k.cell x).reservedFor = some c
  · have lists : (k.grant c x).reservations =
        Function.update k.reservations c ((k.reservations c).filter (fun q => q.1 != x)) := if_pos mine
    have self : (k.grant c x).reservations c = (k.reservations c).filter (fun q => q.1 != x) := by
      rw [lists, Function.update_self]
    have other {d : Nat} (hd : d ≠ c) : (k.grant c x).reservations d = k.reservations d := by
      rw [lists, Function.update_of_ne hd]
    refine ⟨fun y d => ?_, fun d => ?_, fun d some => ?_⟩
    · by_cases hyx : y = x
      · subst hyx
        rw [cell_grant_self]
        refine iff_of_false (by simp [mine]) fun listed => ?_
        by_cases hdc : d = c
        · subst hdc
          rw [self] at listed
          simp at listed
        · rw [other hdc, ← law.agree y d, mine] at listed
          cases listed
          exact hdc rfl
      · rw [cell_grant_other hyx, law.agree y d]
        by_cases hdc : d = c
        · subst hdc
          rw [self]
          simp [hyx]
        · rw [other hdc]
    · by_cases hdc : d = c
      · subst hdc
        rw [self]
        exact (law.once d).sublist (List.filter_sublist.map _)
      · rw [other hdc]
        exact law.once d
    · refine (law.live d fun none => some ?_).imp_left (live d)
      by_cases hdc : d = c
      · subst hdc
        rw [self, none, List.filter_nil]
      · rw [other hdc, none]
  · have lists : (k.grant c x).reservations = k.reservations := if_neg mine
    refine law.of_same (fun y => ?_) (fun d => by rw [lists]) fun d runs _ => .inl (live d runs)
    by_cases hyx : y = x
    · subst hyx
      rw [cell_grant_self]
      exact if_neg mine
    · rw [cell_grant_other hyx]

/-- An enrolled carrier is granted a cell that has room and is reserved for nobody else (R27). -/
theorem keeps_grant (enrolled : (k.carrier c).state ≠ .vacant) (roomy : Roomy e k c x)
    (free : (k.cell x).reservedFor = none ∨ (k.cell x).reservedFor = some c) : Keeps e owed k (k.grant c x) where
  states law := law.of_same fun d => by
    obtain ⟨l, hl⟩ := carrier_grant (k := k) (c := c) (x := x) d
    rw [hl]
  holdings law := law.grant enrolled roomy free
  reservations law := law.grant
  waits law := by
    refine law.of_fewer rfl law.seniorOnce (fun y => by rw [queue_grant]) (fun _ _ _ _ _ => rfl)
      (fun y w hw => law.senior y w (by rwa [queue_grant] at hw)) (fun y w _ runs => ?_) (fun y w _ => ?_)
    all_goals
      obtain ⟨l, hl⟩ := carrier_grant (k := k) (c := c) (x := x) w.carrier
      rw [hl]
    exact runs

theorem cell_release_self {held : List Nat} : (k.release c x held).cell x =
    { k.cell x with holders := (k.cell x).holders.filter (· != c) } := Function.update_self ..

theorem cell_release_other {held : List Nat} {y : Nat} (hy : y ≠ x) : (k.release c x held).cell y = k.cell y :=
  Function.update_of_ne hy ..

theorem held_release_self {held : List Nat} : ((k.release c x held).carrier c).held = held := by
  simp [Claims.release]

theorem carrier_release_other {held : List Nat} {d : Nat} (hd : d ≠ c) :
    (k.release c x held).carrier d = k.carrier d := Function.update_of_ne hd ..

theorem carrier_release {held : List Nat} (d : Nat) :
    ∃ l, (k.release c x held).carrier d = { k.carrier d with held := l } := by
  by_cases hd : d = c
  · subst hd
    exact ⟨held, Function.update_self ..⟩
  · exact ⟨_, carrier_release_other hd⟩

theorem HoldingsLaw.release {held : List Nat} (law : HoldingsLaw e k)
    (hheld : (k.carrier c).held.Nodup → held = (k.carrier c).held.erase x) : HoldingsLaw e (k.release c x held) := by
  have erased : held = (k.carrier c).held.erase x := hheld (law.heldOnce c)
  refine ⟨fun y => ?_, fun y => ?_, fun y => ?_, fun y d => ?_, fun d => ?_, fun d hd => ?_, fun hl y hy => ?_⟩
  · by_cases hyx : y = x
    · subst hyx
      rw [cell_release_self]
      exact (List.length_filter_le ..).trans (law.room y)
    · rw [cell_release_other hyx]
      exact law.room y
  · by_cases hyx : y = x
    · subst hyx
      rw [cell_release_self]
      exact (law.once y).filter _
    · rw [cell_release_other hyx]
      exact law.once y
  · by_cases hyx : y = x
    · subst hyx
      rw [cell_release_self]
      intro some
      simp [law.apart y some]
    · rw [cell_release_other hyx]
      exact law.apart y
  · by_cases hdc : d = c
    · subst hdc
      rw [held_release_self, erased, (law.heldOnce d).mem_erase_iff, ← law.agree y d]
      by_cases hyx : y = x
      · subst hyx
        rw [cell_release_self]
        simp
      · rw [cell_release_other hyx]
        simp [hyx]
    · rw [carrier_release_other hdc, ← law.agree y d]
      by_cases hyx : y = x
      · subst hyx
        rw [cell_release_self]
        simp [hdc]
      · rw [cell_release_other hyx]
  · by_cases hdc : d = c
    · subst hdc
      rw [held_release_self, erased]
      exact (law.heldOnce d).erase x
    · rw [carrier_release_other hdc]
      exact law.heldOnce d
  · obtain ⟨l, hl⟩ := carrier_release (k := k) (c := c) (x := x) (held := held) d
    have vacant : (k.carrier d).state = .vacant := by rwa [hl] at hd
    have nothing := law.vacant d vacant
    by_cases hdc : d = c
    · subst hdc
      rw [held_release_self, erased, nothing, List.erase_nil]
    · rw [carrier_release_other hdc, nothing]
  · by_cases hyx : y = x
    · subst hyx
      rw [cell_release_self]
      exact law.lanes hl y hy
    · rw [cell_release_other hyx]
      exact law.lanes hl y hy

/-- A carrier releases a cell, with its entry in the held list (R35). -/
theorem keeps_release {held : List Nat} (hheld : (k.carrier c).held.Nodup → held = (k.carrier c).held.erase x) :
    Keeps e owed k (k.release c x held) where
  states law := law.of_same fun d => by
    obtain ⟨l, hl⟩ := carrier_release (k := k) (c := c) (x := x) (held := held) d
    rw [hl]
  holdings law := law.release hheld
  reservations law := by
    refine law.of_same (fun y => ?_) (fun _ => rfl) fun d runs _ => ?_
    · by_cases hyx : y = x
      · subst hyx
        rw [cell_release_self]
      · rw [cell_release_other hyx]
    · obtain ⟨l, hl⟩ := carrier_release (k := k) (c := c) (x := x) (held := held) d
      rw [hl]
      exact .inl runs
  waits law := by
    have queues (y : Nat) : ((k.release c x held).cell y).queue = (k.cell y).queue := by
      by_cases hyx : y = x
      · subst hyx
        rw [cell_release_self]
      · rw [cell_release_other hyx]
    refine law.of_fewer rfl law.seniorOnce (fun y => by rw [queues]) (fun _ _ _ _ _ => rfl)
      (fun y w hw => law.senior y w (by rwa [queues] at hw)) (fun y w _ runs => ?_) (fun y w _ => ?_)
    all_goals
      obtain ⟨l, hl⟩ := carrier_release (k := k) (c := c) (x := x) (held := held) w.carrier
      rw [hl]
    exact runs

end

/-! ## Reservations -/

/-- `k` with what a cell is reserved for and one carrier's reservation list set. -/
def Claims.reserving (k : Claims) (x : Nat) (o : Option Nat) (c : Nat) (l : List (Nat × Nat)) : Claims :=
  (k.setCell x { k.cell x with reservedFor := o }).setReservations c l

section
variable {e : Setting} {owed : List Task} {k : Claims} {c : Nat} {p : Nat × Nat} {o : Option Nat} {l : List (Nat × Nat)}

theorem cell_reserving (x y : Nat) : ((k.reserving x o c l).cell y).holders = (k.cell y).holders ∧
    ((k.reserving x o c l).cell y).queue = (k.cell y).queue ∧
    ((k.reserving x o c l).cell y).reservedFor = if y = x then o else (k.cell y).reservedFor := by
  by_cases hy : y = x
  · subst hy
    simp [Claims.reserving]
  · simp [Claims.reserving, hy]

theorem holders_reserving (x y : Nat) : ((k.reserving x o c l).cell y).holders = (k.cell y).holders :=
  (cell_reserving x y).1

theorem queue_reserving (x y : Nat) : ((k.reserving x o c l).cell y).queue = (k.cell y).queue :=
  (cell_reserving x y).2.1

theorem reservedFor_reserving (x y : Nat) :
    ((k.reserving x o c l).cell y).reservedFor = if y = x then o else (k.cell y).reservedFor :=
  (cell_reserving x y).2.2

theorem reservations_reserving (x d : Nat) :
    (k.reserving x o c l).reservations d = if d = c then l else k.reservations d := by
  by_cases hd : d = c
  · subst hd
    simp [Claims.reserving]
  · simp [Claims.reserving, hd]

/-- No queue and no carrier changes with a reservation. -/
theorem waits_reserving (x : Nat) (law : WaitsLaw k) : WaitsLaw (k.reserving x o c l) :=
  law.of_fewer rfl law.seniorOnce (fun y => by rw [queue_reserving]) (fun _ _ _ _ _ => rfl)
    (fun y w hw => law.senior y w (by rwa [queue_reserving] at hw)) (fun _ _ _ => id) (fun _ _ _ => rfl)

/-- A free cell of capacity 1 that is no LANE is reserved for a carrier that runs LIVE (R33). -/
theorem keeps_reserve (runs : (k.carrier c).runsLive) (roomy : Roomy e k c p.1) (single : e.map.capacity p.1 = 1)
    (track : ¬e.map.isLane p.1 = true) (free : (k.cell p.1).reservedFor = none) :
    Keeps e owed k (k.reserving p.1 (some c) c (k.reservations c ++ [p])) where
  states law := law.of_same fun _ => rfl
  holdings law := by
    have empty : (k.cell p.1).holders = [] := by
      have short := law.length_lt roomy
      rw [single] at short
      exact List.length_eq_zero_iff.mp (Nat.lt_one_iff.mp short)
    refine ⟨fun y => ?_, fun y => ?_, fun y => ?_, fun y d => ?_, law.heldOnce, law.vacant, fun hl y hy => ?_⟩
    · rw [holders_reserving]
      exact law.room y
    · rw [holders_reserving]
      exact law.once y
    · rw [holders_reserving, reservedFor_reserving]
      split
      next same =>
        rw [same]
        exact fun _ => empty
      next => exact law.apart y
    · rw [holders_reserving]
      exact law.agree y d
    · rw [reservedFor_reserving, if_neg (show ¬y = p.1 from fun same => track (same ▸ hy))]
      exact law.lanes hl y hy
  reservations law := by
    have unlisted (d : Nat) : p.1 ∉ (k.reservations d).map Prod.fst := fun listed => by
      rw [← law.agree, free] at listed
      cases listed
    refine ⟨fun y d => ?_, fun d => ?_, fun d some => ?_⟩
    · rw [reservedFor_reserving, reservations_reserving]
      by_cases hy : y = p.1
      · subst hy
        by_cases hd : d = c
        · simp [hd]
        · simpa [hd, Ne.symm hd] using unlisted d
      · by_cases hd : d = c
        · subst hd
          simp [hy, law.agree]
        · simp [hy, hd, law.agree]
    · rw [reservations_reserving]
      split
      next =>
        rw [List.map_append]
        refine List.nodup_append.mpr ⟨law.once c, List.nodup_singleton _, ?_⟩
        intro a ha b hb same
        rw [List.map_singleton, List.mem_singleton] at hb
        exact unlisted c (hb ▸ same ▸ ha)
      next => exact law.once d
    · by_cases hd : d = c
      · exact .inl (hd ▸ runs)
      · rw [reservations_reserving, if_neg hd] at some
        exact law.live d some
  waits := waits_reserving p.1

/-- Clearing a reservation that is on the carrier's list keeps the second law. -/
theorem ReservationsLaw.clear (law : ReservationsLaw owed k) (listed : p ∈ k.reservations c) :
    ReservationsLaw owed (k.reserving p.1 none c ((k.reservations c).filter (· != p))) := by
  have mine : (k.cell p.1).reservedFor = some c := (law.agree _ _).mpr (List.mem_map_of_mem listed)
  have alone : ∀ q ∈ k.reservations c, q.1 = p.1 → q = p := fun q hq same =>
    List.inj_on_of_nodup_map (law.once c) hq listed same
  refine ⟨fun y d => ?_, fun d => ?_, fun d some => ?_⟩
  · rw [reservedFor_reserving, reservations_reserving]
    by_cases hy : y = p.1
    · subst hy
      rw [if_pos rfl]
      refine iff_of_false (by simp) fun kept => ?_
      by_cases hd : d = c
      · subst hd
        rw [if_pos rfl, List.mem_map] at kept
        obtain ⟨q, hq, same⟩ := kept
        obtain ⟨hq, ne⟩ := List.mem_filter.mp hq
        simp [alone q hq same] at ne
      · rw [if_neg hd, ← law.agree, mine] at kept
        cases kept
        exact hd rfl
    · rw [if_neg hy, law.agree]
      by_cases hd : d = c
      · subst hd
        rw [if_pos rfl, List.mem_map, List.mem_map]
        refine exists_congr fun q => and_congr_left fun same => ?_
        rw [List.mem_filter]
        refine (and_iff_left ?_).symm
        have ne : q ≠ p := fun h => hy (h ▸ same.symm)
        simpa using ne
      · rw [if_neg hd]
  · rw [reservations_reserving]
    split
    next => exact (law.once c).sublist (List.filter_sublist.map _)
    next => exact law.once d
  · refine law.live d fun none => some ?_
    rw [reservations_reserving]
    split
    next same => rw [same] at none; rw [none, List.filter_nil]
    next => exact none

/-- Clearing what is reserved for nobody changes nothing under the second law. -/
theorem ReservationsLaw.clear_free (law : ReservationsLaw owed k) (free : (k.cell p.1).reservedFor = none) :
    k.reserving p.1 none c ((k.reservations c).filter (· != p)) = k := by
  have kept : (k.reservations c).filter (· != p) = k.reservations c := by
    refine List.filter_eq_self.mpr fun q hq => ?_
    have reserved := (law.agree q.1 c).mpr (List.mem_map_of_mem hq)
    have other : q ≠ p := fun same => by simp [same, free] at reserved
    simpa using other
  rw [kept, Claims.reserving, ← free, Claims.setCell_self, Claims.setReservations_self]

/-- A reservation is cleared that is on the carrier's list, or has been cleared already (R34). -/
theorem keeps_clear (listed : p ∈ k.reservations c ∨ (k.cell p.1).reservedFor = none) :
    Keeps e owed k (k.reserving p.1 none c ((k.reservations c).filter (· != p))) where
  states law := law.of_same fun _ => rfl
  holdings law := by
    refine ⟨fun y => ?_, fun y => ?_, fun y => ?_, fun y d => ?_, law.heldOnce, law.vacant, fun hl y hy => ?_⟩
    · rw [holders_reserving]
      exact law.room y
    · rw [holders_reserving]
      exact law.once y
    · rw [holders_reserving, reservedFor_reserving]
      split
      next => exact fun some => absurd some (by simp)
      next => exact law.apart y
    · rw [holders_reserving]
      exact law.agree y d
    · rw [reservedFor_reserving]
      split
      next => rfl
      next => exact law.lanes hl y hy
  reservations law := by
    rcases listed with listed | free
    · exact law.clear listed
    · rw [law.clear_free free]
      exact law
  waits := waits_reserving p.1

end

end Sys2Proof.Proofs
end

section
/-! Which operations leave the claims of every cell and carrier as they are: the gate unit, the corridor unit, wait edges and
recomputations, the links and the engine, in the order of the model's files. -/

namespace Sys2Proof.Proofs

open Sys2Proof.Machine Sys2Proof.Laws

/-! ## Updates of one record -/

/-- Setting a record leaves a table in canonical form exactly where it was. -/
theorem Table.wf_set_eq {α : Type} (t : Table α) (n : Nat) (a : α) : Table.wf (Table.set t n a) = Table.wf t := by
  have keys : (t.map Prod.fst).Sublist ((Table.set t n a).map Prod.fst) := by
    induction t with
    | nil => exact List.nil_sublist _
    | cons p rest ih =>
      obtain ⟨m, b⟩ := p
      simp only [Table.set]
      split
      · exact List.sublist_cons_self ..
      · split
        next same => exact same ▸ .refl _
        next => exact ih.cons_cons _
  rw [Bool.eq_iff_iff]
  refine ⟨fun h => ?_, Table.wf_set t n a⟩
  rw [Table.wf_iff] at h ⊢
  exact h.sublist keys

section
variable (e : Setting) (v : Run)

theorem claims_setCell (x : Nat) (r : CellRun) :
    claimsOf (v.setCell x r).records = (claimsOf v.records).setCell x (cellClaims r) := by
  have cells : (fun y => cellClaims (Table.at (v.setCell x r).records.cells CellRun.free y)) =
      Function.update (fun y => cellClaims (v.cell y)) x (cellClaims r) := by
    funext y
    by_cases hy : y = x
    · subst hy
      simp
    · simp [hy, Run.cell]
  rw [claimsOf, cells, Run.setCell_cells, Table.wf_set_eq]
  rfl

theorem claims_modCtx (c : Nat) (f : Context → Context) :
    claimsOf (v.modCtx c f).records = (claimsOf v.records).setCarrier c (carrierClaims (f (v.ctx c))) := by
  have carriers : (fun d => carrierClaims (Table.at (v.modCtx c f).records.carriers Context.vacant d)) =
      Function.update (fun d => carrierClaims (v.ctx d)) c (carrierClaims (f (v.ctx c))) := by
    funext d
    by_cases hd : d = c
    · subst hd
      simp
    · simp [hd, Run.ctx]
  rw [claimsOf, carriers]
  rfl

theorem claims_setReservations (c : Nat) (l : List (Nat × Nat)) :
    claimsOf (v.setReservations c l).records = (claimsOf v.records).setReservations c l := by
  have lists : Table.at (v.setReservations c l).records.reservations [] = Function.update v.reservations c l := by
    funext d
    by_cases hd : d = c
    · subst hd
      simp
    · simp [hd, Run.reservations]
  rw [claimsOf, lists]
  rfl

theorem claims_setSeniority (l : List Nat) :
    claimsOf (v.setSeniority l).records = { claimsOf v.records with seniority := l } := rfl

/-- A cell's record may change in what no law reads. -/
theorem claims_setCell_same {x : Nat} {r : CellRun} (h : cellClaims r = cellClaims (v.cell x)) :
    claimsOf (v.setCell x r).records = claimsOf v.records := by
  rw [claims_setCell, h]
  exact Claims.setCell_self ..

/-- A carrier's context may change in what no law reads. -/
@[simp] theorem claims_modCtx_same {c : Nat} {f : Context → Context}
    (h : carrierClaims (f (v.ctx c)) = carrierClaims (v.ctx c)) : claimsOf (v.modCtx c f).records = claimsOf v.records := by
  rw [claims_modCtx, h]
  exact Claims.setCarrier_self ..

@[simp] theorem claims_setCorridor (k : Nat) (r : CorridorRun) :
    claimsOf (v.setCorridor k r).records = claimsOf v.records := rfl
@[simp] theorem claims_modGate (g : Nat) (f : GateRun → GateRun) :
    claimsOf (v.modGate g f).records = claimsOf v.records := rfl
@[simp] theorem claims_setSlot (n : Nat) (x : Slot) : claimsOf (v.setSlot n x).records = claimsOf v.records := rfl
@[simp] theorem claims_setEngine (g : Engine) : claimsOf (v.setEngine g).records = claimsOf v.records := rfl
@[simp] theorem claims_setLink (l : Nat) (k : Link) : claimsOf (v.setLink l k).records = claimsOf v.records := rfl
@[simp] theorem claims_raise (f : AlertFlag) : claimsOf (v.raise f).records = claimsOf v.records := rfl
@[simp] theorem claims_later (ts : List Task) : claimsOf (v.later ts).records = claimsOf v.records := rfl

@[simp] theorem claims_ite (p : Prop) [Decidable p] (a b : Run) :
    claimsOf (if p then a else b).records = if p then claimsOf a.records else claimsOf b.records :=
  apply_ite (fun w : Run => claimsOf w.records) p a b

@[simp] theorem claims_foldl {α : Type} (f : Run → α → Run) (hf : ∀ v a, claimsOf (f v a).records = claimsOf v.records)
    (l : List α) : claimsOf (l.foldl f v).records = claimsOf v.records := by
  induction l generalizing v with
  | nil => rfl
  | cons a l ih => exact (ih (f v a)).trans (hf v a)

/-! ## Wait edges and recomputations (Chapter 8, R31) -/

theorem cellClaims_of_butCauses {r q : CellRun} (h : q.butCauses = r.butCauses) : cellClaims q = cellClaims r := by
  have claims (r : CellRun) : cellClaims r = cellClaims r.butCauses := by
    simp only [cellClaims, CellRun.butCauses, List.map_map]
    rfl
  rw [claims q, h, ← claims r]

theorem carrierClaims_of_butEdge {k q : Context} (h : q.butEdge = k.butEdge) : carrierClaims q = carrierClaims k := by
  have claims (k : Context) : carrierClaims k = carrierClaims k.butEdge := by
    simp only [carrierClaims, Context.butEdge, Option.map_map]
    rfl
  rw [claims q, h, ← claims k]

theorem claims_of_edgesOnly {v u : Run} (h : EdgesOnly v u) : claimsOf u.records = claimsOf v.records := by
  have carriers : (fun c => carrierClaims (u.ctx c)) = fun c => carrierClaims (v.ctx c) :=
    funext fun c => carrierClaims_of_butEdge (h.ctx c)
  calc claimsOf u.records = { claimsOf u.records with carrier := fun c => carrierClaims (u.ctx c) } := rfl
    _ = claimsOf v.records := by rw [carriers, h.records]; rfl

@[simp] theorem claims_retireMark (c : Nat) : claimsOf (v.retireMark c).records = claimsOf v.records :=
  claims_of_edgesOnly (retireMark_edgesOnly v c)
@[simp] theorem claims_setEdge (c : Nat) (t : Option Nat) : claimsOf (setEdge e v c t).records = claimsOf v.records :=
  claims_of_edgesOnly (setEdge_edgesOnly e v c t)
@[simp] theorem claims_changeEdge (c : Nat) (t : Option Nat) :
    claimsOf (changeEdge e v c t).records = claimsOf v.records := claims_of_edgesOnly (changeEdge_edgesOnly e v c t)

@[simp] theorem claims_recomputeWaiter (x c : Nat) : claimsOf (recomputeWaiter e x v c).records = claimsOf v.records := by
  unfold recomputeWaiter
  split
  · rfl
  · split
    · split
      · exact claims_changeEdge ..
      · rw [claims_changeEdge]
        refine claims_setCell_same v (cellClaims_of_butCauses ?_)
        simp only [CellRun.butCauses, recordCause_butCauses]
    · rfl

@[simp] theorem claims_recompute (x : Nat) : claimsOf (recompute e v x).records = claimsOf v.records :=
  claims_foldl v _ (fun v c => claims_recomputeWaiter e v x c) _

@[simp] theorem claims_recomputeEnds (k : Nat) : claimsOf (recomputeEnds e v k).records = claimsOf v.records :=
  claims_foldl v _ (fun v x => claims_recompute e v x) _

/-! ## The gate unit (Chapter 7) -/

@[simp] theorem claims_openDeferred : claimsOf (openDeferred v).records = claimsOf v.records := rfl

@[simp] theorem claims_gateBusy (g : Nat) : claimsOf (gateBusy v g).records = claimsOf v.records := by
  simp [gateBusy, Run.stopTimer]

@[simp] theorem claims_gateIdleCheck (g : Nat) : claimsOf (gateIdleCheck e v g).records = claimsOf v.records := by
  simp only [gateIdleCheck, startHold]
  repeat' split
  all_goals rfl

@[simp] theorem claims_queueFilled (x : Nat) : claimsOf (queueFilled e v x).records = claimsOf v.records := by
  unfold queueFilled
  split <;> simp

@[simp] theorem claims_queueEmptied (x : Nat) : claimsOf (queueEmptied e v x).records = claimsOf v.records := by
  unfold queueEmptied
  split <;> simp

@[simp] theorem claims_gateReleased (g : Nat) : claimsOf (gateReleased e v g).records = claimsOf v.records := by
  simp [gateReleased]

@[simp] theorem claims_gateOpens (g : Nat) : claimsOf (gateOpens v g).records = claimsOf v.records := by
  simp [gateOpens]

@[simp] theorem claims_gateCalls (g : Nat) : claimsOf (gateCalls e v g).records = claimsOf v.records := by
  simp [gateCalls]

@[simp] theorem claims_gateCall (g : Nat) : claimsOf (gateCall e v g).records = claimsOf v.records := by
  unfold gateCall
  repeat' split
  all_goals simp [Run.owe]

@[simp] theorem claims_gateOpened (g : Nat) : claimsOf (gateOpened e v g).records = claimsOf v.records := by
  unfold gateOpened
  repeat' split
  all_goals rfl

@[simp] theorem claims_gateAfterOffer (g : Nat) : claimsOf (gateAfterOffer e v g).records = claimsOf v.records := by
  simp [gateAfterOffer]

@[simp] theorem claims_gateDrain (g : Nat) : claimsOf (gateDrain e v g).records = claimsOf v.records := by
  simp [gateDrain]

@[simp] theorem claims_gateShut (g : Nat) : claimsOf (gateShut v g).records = claimsOf v.records := by
  simp [gateShut]

@[simp] theorem claims_gateOwedPartner (g : Nat) : claimsOf (gateOwedPartner e v g).records = claimsOf v.records := by
  unfold gateOwedPartner
  split <;> simp

@[simp] theorem claims_gateOwedSelf (g : Nat) : claimsOf (gateOwedSelf e v g).records = claimsOf v.records := by
  simp [gateOwedSelf]

@[simp] theorem claims_gateFaults (g : Nat) : claimsOf (gateFaults e v g).records = claimsOf v.records := by
  simp [gateFaults]

/-! ## Windows and links (R108, R110, Chapter 9) -/

@[simp] theorem claims_fetchTrigger (c : Nat) : claimsOf (fetchTrigger v c).records = claimsOf v.records := by
  simp [fetchTrigger]

@[simp] theorem claims_freeWindow (c : Nat) : claimsOf (freeWindow v c).records = claimsOf v.records := by
  refine claims_modCtx_same v ?_
  split <;> rfl

@[simp] theorem claims_send (c : Nat) (p : Payload) : claimsOf (send v c p).records = claimsOf v.records := by
  rw [(send_linksOnly v c p).records]
  rfl

@[simp] theorem claims_sendNotice (c : Nat) : claimsOf (sendNotice e v c).records = claimsOf v.records :=
  claims_send ..

@[simp] theorem claims_sendWait (c : Nat) (r : Reason) : claimsOf (sendWait v c r).records = claimsOf v.records :=
  claims_send ..

@[simp] theorem claims_sendStop (c : Nat) : claimsOf (sendStop v c).records = claimsOf v.records := by
  unfold sendStop
  split <;> simp

@[simp] theorem claims_setHome (c l : Nat) : claimsOf (setHome v c l).records = claimsOf v.records := by
  simp only [setHome]
  rw [claims_modCtx_same _ (by rfl)]
  split <;> simp

@[simp] theorem claims_removeMessages (c : Nat) : claimsOf (removeMessages v c).records = claimsOf v.records :=
  claims_foldl v _ (fun v l => claims_setLink v l _) _

@[simp] theorem claims_countFailure (l : Nat) (f : FrameFailure) :
    claimsOf (countFailure v l f).records = claimsOf v.records := rfl

/-! ## The corridor unit and the consequences of a release (Chapter 4, R35) -/

@[simp] theorem claims_appointTurn (k : Nat) : claimsOf (appointTurn e v k).records = claimsOf v.records := by
  simp only [appointTurn]
  repeat' split
  all_goals rfl

@[simp] theorem claims_corridorEnter (k position c : Nat) :
    claimsOf (corridorEnter e v k position c).records = claimsOf v.records := by
  simp [corridorEnter]

@[simp] theorem claims_corridorFailed (k c : Nat) : claimsOf (corridorFailed e v k c).records = claimsOf v.records := by
  simp [corridorFailed]

@[simp] theorem claims_corridorLeave (k c : Nat) : claimsOf (corridorLeave e v k c).records = claimsOf v.records := by
  simp only [corridorLeave]
  repeat' split
  all_goals simp

@[simp] theorem claims_cancelTurn (k : Nat) : claimsOf (cancelTurn e v k).records = claimsOf v.records := by
  simp [cancelTurn]

@[simp] theorem claims_cancelTurns (c : Nat) : claimsOf (cancelTurns e v c).records = claimsOf v.records := by
  simp [cancelTurns]

@[simp] theorem claims_retargetLane (x : Nat) (ahead : Option Nat) (l : List Nat) :
    claimsOf (retargetLane e x v ahead l).records = claimsOf v.records := by
  induction l generalizing v ahead with
  | nil => rfl
  | cons h rest ih =>
    rw [retargetLane, ih]
    split
    · exact claims_changeEdge e v h ahead
    · rfl

@[simp] theorem claims_laneClosesUp (x : Nat) (wasOldest : Bool) (behind : Option Nat) :
    claimsOf (laneClosesUp e v x wasOldest behind).records = claimsOf v.records := by
  unfold laneClosesUp
  repeat' split
  all_goals simp

@[simp] theorem claims_leaveCorridorOf (c x : Nat) : claimsOf (leaveCorridorOf e v c x).records = claimsOf v.records := by
  unfold leaveCorridorOf
  split <;> simp

@[simp] theorem claims_freed (c x : Nat) (emptied wasOldest : Bool) (behind : Option Nat) :
    claimsOf (freed e v c x emptied wasOldest behind).records = claimsOf v.records := by
  simp only [freed]
  split <;> simp

@[simp] theorem claims_freedSettle (x : Nat) (offers : Bool) :
    claimsOf (freedSettle e v x offers).records = claimsOf v.records := by
  simp [freedSettle]

/-! ## The authority unit and the carrier table (Chapters 3 and 5) -/

@[simp] theorem claims_grantReport (c : Nat) (p : Nat × Nat) :
    claimsOf (grantReport e c v p).records = claimsOf v.records := by
  unfold grantReport
  repeat' split
  all_goals simp

@[simp] theorem claims_attemptStart (c : Nat) (after : After) :
    claimsOf (attemptStart e v c after).records = claimsOf v.records := by
  unfold attemptStart
  repeat' split
  all_goals rfl

@[simp] theorem claims_offerStart (x : Nat) : claimsOf (offerStart e v x).records = claimsOf v.records := by
  simp [offerStart]

@[simp] theorem claims_queueWriteBack (c : Nat) (result : RouteResult) :
    claimsOf (queueWriteBack v c result).records = claimsOf v.records := by
  simp only [queueWriteBack]
  split <;> rfl

@[simp] theorem claims_recordSpeed (c speed : Nat) : claimsOf (v.recordSpeed c speed).records = claimsOf v.records :=
  claims_modCtx_same v rfl

@[simp] theorem claims_recordRequest (c requested : Nat) :
    claimsOf (recordRequest e v c requested).records = claimsOf v.records := claims_modCtx_same v rfl

@[simp] theorem claims_replyAfterRestore (c : Nat) (wasSilent : Bool) :
    claimsOf (replyAfterRestore e v c wasSilent).records = claimsOf v.records := by
  simp [replyAfterRestore]

@[simp] theorem claims_charge (c : Nat) (wasSilent : Bool) : claimsOf (charge e v c wasSilent).records = claimsOf v.records := by
  simp only [charge, claims_ite, claims_later, claims_replyAfterRestore, ite_self]
  exact claims_modCtx_same v rfl

@[simp] theorem claims_haltingDone (c speed : Nat) : claimsOf (haltingDone v c speed).records = claimsOf v.records :=
  claims_recordSpeed ..

/-! ## The route fetch engine (Chapter 6) -/

@[simp] theorem claims_serveFetch : claimsOf (serveFetch v).records = claimsOf v.records := by
  simp only [serveFetch, issueRead]
  repeat' split
  all_goals rfl

@[simp] theorem claims_serveWriteBack : claimsOf (serveWriteBack v).records = claimsOf v.records := by
  simp only [serveWriteBack]
  repeat' split
  all_goals rfl

@[simp] theorem claims_appendStep (c : Nat) (s : Slot) (w : Validation) :
    claimsOf (appendStep v c s w).records = claimsOf v.records := claims_modCtx_same (v.setSlot _ s) rfl

@[simp] theorem claims_appendSteps (c n : Nat) (records : List Slot) :
    claimsOf (appendSteps e c n v records).1.records = claimsOf v.records := by
  induction records generalizing v with
  | nil => rfl
  | cons s rest ih =>
    simp only [appendSteps]
    split
    · rfl
    · split
      · rw [ih, claims_appendStep]
      · rfl

@[simp] theorem claims_cutRoute (c f : Nat) (result : RouteResult) :
    claimsOf (cutRoute e v c f result).1.records = claimsOf v.records := by
  unfold cutRoute
  split
  · exact claims_modCtx_same v rfl
  · rfl

/-! ## First effects of commands and events -/

@[simp] theorem claims_closeRun (x : Nat) : claimsOf (closeRun e v x).records = claimsOf v.records := by
  unfold closeRun
  split
  · rfl
  · rw [claims_recompute]
    exact claims_setCell_same v rfl

@[simp] theorem claims_openRun (x : Nat) : claimsOf (openRun e v x).records = claimsOf v.records := by
  simp only [openRun]
  split
  · rw [claims_ite, claims_later, ite_self, claims_recompute]
    exact claims_setCell_same v rfl
  · rfl

@[simp] theorem claims_clearanceRun (x : Nat) : claimsOf (clearanceRun e v x).records = claimsOf v.records := by
  simp only [clearanceRun]
  split
  · rw [claims_ite, claims_later, ite_self, claims_recompute]
    exact claims_setCell_same v rfl
  · rfl

@[simp] theorem claims_limitRun (x : Nat) (lowered : Bool) :
    claimsOf (limitRun e v x lowered).records = claimsOf v.records := by
  rw [(limitRun_linksOnly v x lowered).records]
  rfl

@[simp] theorem claims_readyRun (g : Nat) : claimsOf (readyRun e v g).records = claimsOf v.records := by
  unfold readyRun
  split <;> simp

end

end Sys2Proof.Proofs
end

section
/-! The operations that change claims keep the laws, in the order of the model's files. First a carrier's own context,
queues and waits, and reservations (R23, R24, R33, R34). -/

namespace Sys2Proof.Proofs

open Sys2Proof.Machine Sys2Proof.Laws

variable {e : Setting} {owed : List Task} {v u w : Run} {c x : Nat}

theorem keepsLaws_of_same (h : claimsOf u.records = claimsOf v.records) : KeepsLaws e owed v u := .of_eq h

/-- After operations that leave the claims alone, what keeps the laws keeps them. -/
theorem KeepsLaws.after (h : KeepsLaws e owed v u) (same : claimsOf v.records = claimsOf w.records) :
    KeepsLaws e owed w u := (keepsLaws_of_same same).trans h

/-- Operations that leave the claims alone may follow. -/
theorem KeepsLaws.then (h : KeepsLaws e owed v u) (same : claimsOf w.records = claimsOf u.records) :
    KeepsLaws e owed v w := h.trans (keepsLaws_of_same same)

/-! ## A carrier's own context -/

/-- A change of a context that turns the carrier to claims it may turn to. -/
theorem keepsLaws_modCtx {f : Context → Context} (h : Turns e owed (claimsOf v.records) c (carrierClaims (f (v.ctx c)))) :
    KeepsLaws e owed v (v.modCtx c f) := by
  rw [KeepsLaws, claims_modCtx]
  exact keeps_turns h

/-- A carrier that does not run LIVE may turn to any state the part allows it, with the cells it holds. -/
theorem turns_of_idle {k : Claims} {q : CarrierClaims} (idle : ¬(k.carrier c).runsLive)
    (held : q.held = (k.carrier c).held) (enrolled : (k.carrier c).state ≠ .vacant) (stays : q.state ≠ .vacant)
    (state : e.op.allows (k.carrier c).state = true → e.op.allows q.state = true) : Turns e owed k c q where
  held := held
  stays vacant := absurd vacant enrolled
  enters vacant := absurd vacant stays
  state := .inr state
  claims runs := absurd runs idle
  queued law := .inl (law.unqueued_of_not_runsLive idle)

/-- A carrier that stands in no queue may have any wait record. -/
theorem turns_wait {k : Claims} (wait : Option (WaitReason × Nat)) (free : WaitsLaw k → k.unqueued c) :
    Turns e owed k c { k.carrier c with wait := wait } where
  held := rfl
  stays := id
  enters := .inl
  state := .inl rfl
  claims runs _ := .inl runs
  queued law := .inl (free law)

/-! ## Queues and waits (R23, R24) -/

/-- The queue that a carrier is found in by number is the one it stands in. -/
theorem standsIn_queueOf (v : Run) (c : Nat) (sorted : (claimsOf v.records).sorted = true) :
    (claimsOf v.records).standsIn c (v.queueOf c) := by
  have sorted : Table.wf v.records.cells = true := sorted
  cases found : v.queueOf c with
  | none =>
    rw [queueOf_eq_none_iff] at found
    intro x w hw
    obtain ⟨o, ho, rfl⟩ := List.mem_map.mp hw
    change o ∈ (v.cell x).queue at ho
    cases hx : Table.find v.records.cells x with
    | none => simp [Run.cell, Table.at, hx, CellRun.free] at ho
    | some r =>
      have here : v.cell x = r := by simp [Run.cell, Table.at, hx]
      exact found (x, r) ((Table.find_eq_some_iff sorted x r).mp hx) o (here ▸ ho)
  | some x =>
    obtain ⟨⟨y, r⟩, first, rfl⟩ := Option.map_eq_some_iff.mp found
    have stands := List.find?_some first
    rw [List.any_eq_true] at stands
    obtain ⟨o, ho, same⟩ := stands
    have here : v.cell y = r := by
      simp [Run.cell, Table.at, (Table.find_eq_some_iff sorted y r).mpr (List.mem_of_find?_eq_some first)]
    exact ⟨placeOf o, List.mem_map_of_mem (here ▸ ho), beq_iff_eq.mp same⟩

theorem claims_takeFrom (v : Run) (x c : Nat) : claimsOf (v.takeFrom x c).records = (claimsOf v.records).take x c := by
  have queue : ((v.cell x).queue.filter (fun w => w.carrier != c)).map placeOf =
      ((v.cell x).queue.map placeOf).filter (fun w => w.carrier != c) := by
    rw [List.filter_map]
    rfl
  rw [Run.takeFrom, claims_setCell, cellClaims, queue]
  rfl

theorem claims_leaveQueue (e : Setting) (v : Run) (c : Nat) :
    claimsOf (leaveQueue e v c).records = (claimsOf v.records).leave (v.queueOf c) c := by
  unfold leaveQueue
  split
  next none =>
    rw [none]
    rfl
  next x some =>
    rw [some]
    rw [claims_ite, claims_queueEmptied, ite_self, Run.dropSeniority, claims_setSeniority, claims_takeFrom]
    rfl

theorem claims_clearWait (e : Setting) (v : Run) (c : Nat) : claimsOf (clearWait e v c).records =
    (claimsOf v.records).setCarrier c { (claimsOf v.records).carrier c with wait := none } := by
  rw [clearWait, claims_modCtx, claims_setEdge]
  congr 1
  have same : carrierClaims ((setEdge e v c none).ctx c) = carrierClaims (v.ctx c) :=
    carrierClaims_of_butEdge ((setEdge_edgesOnly e v c none).ctx c)
  change _ = { carrierClaims (v.ctx c) with wait := none }
  rw [← same]
  rfl

theorem claims_leaveWaiting (e : Setting) (v : Run) (c : Nat) : claimsOf (leaveWaiting e v c).records =
    ((claimsOf v.records).leave (v.queueOf c) c).setCarrier c { (claimsOf v.records).carrier c with wait := none } := by
  rw [leaveWaiting, claims_clearWait, claims_leaveQueue, carrier_leave]

theorem keepsLaws_leaveQueue (e : Setting) (v : Run) (c : Nat) : KeepsLaws e owed v (leaveQueue e v c) := by
  rw [KeepsLaws, claims_leaveQueue]
  exact keeps_leave (standsIn_queueOf v c)

/-- A carrier that has left its queue for good, its claims at `q`. -/
theorem keeps_leave_turns {q : CarrierClaims}
    (h : Turns e owed ((claimsOf v.records).leave (v.queueOf c) c) c q) :
    Keeps e owed (claimsOf v.records) (((claimsOf v.records).leave (v.queueOf c) c).setCarrier c q) :=
  (keeps_leave (standsIn_queueOf v c)).trans (keeps_turns h)

theorem keepsLaws_leaveWaiting (e : Setting) (v : Run) (c : Nat) : KeepsLaws e owed v (leaveWaiting e v c) := by
  rw [KeepsLaws, claims_leaveWaiting, ← carrier_leave (c := c) (v.queueOf c)]
  exact keeps_leave_turns (turns_wait none unqueued_of_left)

/-- What a RUNNING carrier does that stops to run LIVE: its context has changed to `k`, and it gives up its claims. -/
theorem keepsLaws_quits {k : CarrierClaims} (h : claimsOf u.records =
      ((claimsOf v.records).leave (v.queueOf c) c).setCarrier c k)
    (held : k.held = (carrierClaims (v.ctx c)).held) (enrolled : (v.ctx c).state ≠ .vacant) (stays : k.state ≠ .vacant)
    (state : e.op.allows (v.ctx c).state = true → e.op.allows k.state = true)
    (clears : .clearReservations c ∈ owed) : KeepsLaws e owed v u := by
  rw [KeepsLaws, h]
  refine keeps_leave_turns ⟨?_, fun vacant => ?_, fun vacant => absurd vacant stays, .inr ?_, fun _ _ => .inr clears,
    fun law => .inl (unqueued_of_left law)⟩
  · rw [carrier_leave]
    exact held
  · rw [carrier_leave] at vacant
    exact absurd vacant enrolled
  · rw [carrier_leave]
    exact state

/-! ## Reservations (R33, R34) -/

theorem claims_reserving (v : Run) (x : Nat) (o : Option Nat) (c : Nat) (l : List (Nat × Nat)) :
    claimsOf ((v.setCell x { v.cell x with reservedFor := o }).setReservations c l).records =
      (claimsOf v.records).reserving x o c l := by
  rw [claims_setReservations, claims_setCell]
  rfl

/-- The claims a cell and a carrier have that a reservation leaves: the room for the carrier, and its state. -/
theorem claims_reserve (e : Setting) (c : Nat) (v : Run) (p : Nat × Nat) :
    claimsOf (reserve e c v p).records = if e.map.capacity p.1 = 1 ∧ ¬e.map.isLane p.1 ∧ (v.cell p.1).reservedFor = none
      then (claimsOf v.records).reserving p.1 (some c) c (v.reservations c ++ [p]) else claimsOf v.records := by
  rw [reserve, claims_ite, claims_recompute, claims_reserving]

theorem keepsLaws_reserve (e : Setting) (v : Run) (p : Nat × Nat) (runs : (v.ctx c).runsLive)
    (roomy : Roomy e (claimsOf v.records) c p.1) : KeepsLaws e owed v (reserve e c v p) := by
  rw [KeepsLaws, claims_reserve]
  split
  next h =>
    obtain ⟨single, track, free⟩ := h
    exact keeps_reserve runs roomy single track free
  next => exact .refl ..

theorem roomy_reserve {p : Nat × Nat} {d y : Nat} (h : Roomy e (claimsOf v.records) d y) :
    Roomy e (claimsOf (reserve e c v p).records) d y := by
  rw [claims_reserve]
  split
  next =>
    rw [Roomy, holders_reserving]
    exact h
  next => exact h

theorem carrierClaims_reserve (p : Nat × Nat) (d : Nat) :
    carrierClaims ((reserve e c v p).ctx d) = carrierClaims (v.ctx d) := by
  have same := congrArg (fun k => Claims.carrier k d) (claims_reserve e c v p)
  refine same.trans ?_
  split <;> rfl

theorem keepsLaws_foldl_reserve (e : Setting) (l : List (Nat × Nat)) (v : Run) (runs : (v.ctx c).runsLive)
    (roomy : ∀ p ∈ l, Roomy e (claimsOf v.records) c p.1) : KeepsLaws e owed v (l.foldl (reserve e c) v) := by
  induction l generalizing v with
  | nil => exact .refl ..
  | cons p l ih =>
    refine (keepsLaws_reserve e v p runs (roomy p (List.mem_cons_self ..))).trans (ih _ ?_ fun q hq => ?_)
    · have same := carrierClaims_reserve (e := e) (c := c) (v := v) p c
      exact (congrArg CarrierClaims.runsLive same).mpr runs
    · exact roomy_reserve (roomy q (List.mem_cons_of_mem _ hq))

theorem claims_clearReservation (e : Setting) (c : Nat) (v : Run) (p : Nat × Nat) :
    claimsOf (clearReservation e c v p).records =
      (claimsOf v.records).reserving p.1 none c ((v.reservations c).filter (· != p)) := by
  rw [clearReservation, claims_recompute, claims_reserving]

theorem keepsLaws_foldl_clearReservation (e : Setting) (l : List (Nat × Nat)) (v : Run)
    (listed : ∀ p ∈ l, p ∈ v.reservations c ∨ (v.cell p.1).reservedFor = none) :
    KeepsLaws e owed v (l.foldl (clearReservation e c) v) := by
  induction l generalizing v with
  | nil => exact .refl ..
  | cons p l ih =>
    have cleared := claims_clearReservation e c v p
    refine .trans ?_ (ih _ fun q hq => ?_)
    · rw [cleared]
      exact keeps_clear (listed p (List.mem_cons_self ..))
    · have list : (clearReservation e c v p).reservations c = (v.reservations c).filter (· != p) := by
        refine (congrArg (fun k => Claims.reservations k c) cleared).trans ?_
        simp [reservations_reserving]
      have reserved : ((clearReservation e c v p).cell q.1).reservedFor =
          if q.1 = p.1 then none else (v.cell q.1).reservedFor := by
        refine (congrArg (fun k => CellClaims.reservedFor (Claims.cell k q.1)) cleared).trans ?_
        rw [reservedFor_reserving]
        rfl
      rw [list, reserved]
      by_cases same : q.1 = p.1
      · exact .inr (if_pos same)
      · rw [if_neg same, List.mem_filter]
        have other : q ≠ p := fun h => same (congrArg Prod.fst h)
        exact (listed q (List.mem_cons_of_mem _ hq)).imp_left fun mem => ⟨mem, by simpa using other⟩

theorem keepsLaws_clearReservations (e : Setting) (v : Run) {ps : List (Nat × Nat)} (listed : ps ⊆ v.reservations c) :
    KeepsLaws e owed v (clearReservations e v c ps) :=
  keepsLaws_foldl_clearReservation e ps v fun _ hp => .inl (listed hp)

end Sys2Proof.Proofs
end

section
/-! Reservations cleared, releases, grants and pass-overs keep the laws (R26 to R28, R32 to R37). -/

namespace Sys2Proof.Proofs

open Sys2Proof.Machine Sys2Proof.Laws

variable {e : Setting} {owed : List Task} {v u w : Run} {c x : Nat}

/-! ## Reservations cleared (R34) -/

theorem reservations_foldl_clearReservation (e : Setting) (l : List (Nat × Nat)) (v : Run) :
    (l.foldl (clearReservation e c) v).reservations c = (v.reservations c).filter (fun q => !l.contains q) := by
  induction l generalizing v with
  | nil => simp
  | cons p l ih =>
    have list : (clearReservation e c v p).reservations c = (v.reservations c).filter (· != p) := by
      refine (congrArg (fun k => Claims.reservations k c) (claims_clearReservation e c v p)).trans ?_
      simp [reservations_reserving]
    rw [List.foldl_cons, ih, list, List.filter_filter]
    refine List.filter_congr fun q _ => ?_
    rw [List.contains_cons, Bool.not_or, Bool.and_comm]
    rfl

/-- A carrier whose reservations are cleared has none left. -/
theorem reservations_clearReservations (e : Setting) (v : Run) (c : Nat) :
    (clearReservations e v c (v.reservations c)).reservations c = [] := by
  rw [clearReservations, Run.reservations_later, reservations_foldl_clearReservation, List.filter_eq_nil_iff]
  intro q hq
  simpa using hq

/-! ## Releases (R35) -/

theorem claims_releaseEntry (e : Setting) (c : Nat) (v : Run) (h : Held) : claimsOf (releaseEntry e c v h).records =
    (claimsOf v.records).release c h.cell (((v.ctx c).held.erase h).map Held.cell) := by
  simp only [releaseEntry, claims_later, claims_modCtx, claims_setCell]
  split <;> rfl

/-- In a list that names no cell twice, the entry of a cell is the only one with it. -/
theorem map_cell_erase {h : Held} {l : List Held} (once : (l.map Held.cell).Nodup) (member : h ∈ l) :
    (l.erase h).map Held.cell = (l.map Held.cell).erase h.cell := by
  induction l with
  | nil => rfl
  | cons a l ih =>
    obtain ⟨fresh, once⟩ := List.nodup_cons.mp once
    by_cases same : a = h
    · subst same
      rw [List.erase_cons_head, List.map_cons, List.erase_cons_head]
    · have inside : h ∈ l := (List.mem_cons.mp member).resolve_left (Ne.symm same)
      have other : a.cell ≠ h.cell := fun eq => fresh (eq ▸ List.mem_map_of_mem inside)
      rw [List.erase_cons_tail (by simpa using same), List.map_cons, List.map_cons,
        List.erase_cons_tail (by simpa using other), ih once inside]

theorem keepsLaws_releaseEntry (e : Setting) (v : Run) {h : Held} (member : h ∈ (v.ctx c).held) :
    KeepsLaws e owed v (releaseEntry e c v h) := by
  rw [KeepsLaws, claims_releaseEntry]
  refine keeps_release fun (once : ((v.ctx c).held.map Held.cell).Nodup) => ?_
  exact map_cell_erase once member

theorem held_releaseEntry (e : Setting) (v : Run) (h : Held) :
    ((releaseEntry e c v h).ctx c).held = (v.ctx c).held.erase h := by
  simp [releaseEntry]

theorem keepsLaws_release (e : Setting) (v : Run) {entries : List Held} (sub : entries.Sublist (v.ctx c).held) :
    KeepsLaws e owed v (release e v c entries) := by
  have each (l : List Held) (v : Run) (sub : l.Sublist (v.ctx c).held) :
      KeepsLaws e owed v (l.foldl (releaseEntry e c) v) := by
    induction l generalizing v with
    | nil => exact .refl ..
    | cons h l ih =>
      refine (keepsLaws_releaseEntry e v (sub.subset (List.mem_cons_self ..))).trans (ih _ ?_)
      rw [held_releaseEntry]
      have rest := sub.erase h
      rwa [List.erase_cons_head] at rest
  unfold release
  split
  · exact .refl ..
  · exact (each entries v sub).then (claims_freeWindow ..)

/-! ## Grants (R26 to R28) -/

/-- A cell grantable to a carrier has room for it and is reserved for nobody else (R25). -/
theorem roomy_of_grantTest {j : Nat} (h : grantTest e v c x j = none) : Roomy e (claimsOf v.records) c x ∧
    ((v.cell x).reservedFor = none ∨ (v.cell x).reservedFor = some c) := by
  simp only [grantTest] at h
  split at h
  · cases h
  · split at h
    · cases h
    · split at h
      · cases h
      next free =>
        have mine : (v.cell x).reservedFor = none ∨ (v.cell x).reservedFor = some c := by
          cases hr : (v.cell x).reservedFor with
          | none => exact .inl rfl
          | some d => simpa [reservedForOther, hr] using free
        split at h
        · cases h
        next room =>
          split at h
          · cases h
          next fresh =>
            refine ⟨⟨?_, fun holds => fresh ((holds_iff _ x).mpr holds)⟩, mine⟩
            simp only [capacityTest] at room
            split at room
            next lt => exact lt
            next => split at room <;> cases room

theorem claims_grantCell (e : Setting) (c : Nat) (v : Run) (p : Nat × Nat) :
    claimsOf (grantCell e c v p).records = (claimsOf v.records).grant c p.1 := by
  have gains (k : Context) : carrierClaims { k with
      held := k.held ++ [{ cell := p.1, step := some p.2, distance := e.map.contribution p.1 }] } =
      { carrierClaims k with held := (carrierClaims k).held ++ [p.1] } := by
    simp [carrierClaims]
  by_cases mine : (v.cell p.1).reservedFor = some c
  · have mine' : ((claimsOf v.records).cell p.1).reservedFor = some c := mine
    simp only [grantCell, mine, beq_self_eq_true, if_true, claims_modCtx, claims_setReservations, claims_setCell, gains]
    rw [Claims.grant, if_pos mine', if_pos mine']
    rfl
  · have other : ¬((claimsOf v.records).cell p.1).reservedFor = some c := mine
    simp only [grantCell, beq_eq_false_iff_ne.mpr mine, Bool.false_eq_true, if_false, claims_modCtx, claims_setCell, gains]
    rw [Claims.grant, if_neg other, if_neg other]
    rfl

theorem reservedFor_grantCell {p : Nat × Nat} {y : Nat} (hy : y ≠ p.1) :
    ((grantCell e c v p).cell y).reservedFor = (v.cell y).reservedFor := by
  refine (congrArg (fun k => CellClaims.reservedFor (Claims.cell k y)) (claims_grantCell e c v p)).trans ?_
  exact congrArg CellClaims.reservedFor (cell_grant_other hy)

theorem roomy_grantCell {p : Nat × Nat} {y : Nat} (hy : y ≠ p.1) (h : Roomy e (claimsOf v.records) c y) :
    Roomy e (claimsOf (grantCell e c v p).records) c y := by
  rw [claims_grantCell, Roomy, cell_grant_other hy, held_grant_self]
  obtain ⟨room, fresh⟩ := h
  refine ⟨room, fun held => ?_⟩
  rcases List.mem_append.mp held with held | same
  · exact fresh held
  · exact hy (List.mem_singleton.mp same)

theorem state_grantCell (p : Nat × Nat) (d : Nat) : ((grantCell e c v p).ctx d).state = (v.ctx d).state := by
  refine (congrArg (fun k => CarrierClaims.state (Claims.carrier k d)) (claims_grantCell e c v p)).trans ?_
  obtain ⟨l, hl⟩ := carrier_grant (k := claimsOf v.records) (c := c) (x := p.1) d
  exact congrArg CarrierClaims.state hl

theorem keepsLaws_foldl_grantCell (e : Setting) (run : List (Nat × Nat)) (v : Run)
    (enrolled : (v.ctx c).state ≠ .vacant) (once : (run.map Prod.fst).Nodup)
    (free : ∀ p ∈ run, Roomy e (claimsOf v.records) c p.1 ∧
      ((v.cell p.1).reservedFor = none ∨ (v.cell p.1).reservedFor = some c)) :
    KeepsLaws e owed v (run.foldl (grantCell e c) v) := by
  induction run generalizing v with
  | nil => exact .refl ..
  | cons p rest ih =>
    obtain ⟨fresh, once⟩ := List.nodup_cons.mp once
    obtain ⟨roomy, unreserved⟩ := free p (List.mem_cons_self ..)
    refine .trans ?_ (ih _ ?_ once fun q hq => ?_)
    · rw [claims_grantCell]
      exact keeps_grant enrolled roomy unreserved
    · rw [state_grantCell]
      exact enrolled
    · have other : q.1 ≠ p.1 := fun same => fresh (same ▸ List.mem_map_of_mem hq)
      rw [reservedFor_grantCell other]
      exact (free q (List.mem_cons_of_mem _ hq)).imp_left (roomy_grantCell other)

/-- A run whose cells are grantable and distinct is granted to an enrolled carrier (R27). -/
theorem keepsLaws_grantRun (e : Setting) (v : Run) {run : List (Nat × Nat)} (enrolled : (v.ctx c).state ≠ .vacant)
    (once : (run.map Prod.fst).Nodup) (free : ∀ p ∈ run, grantTest e v c p.1 p.2 = none) :
    KeepsLaws e owed v (grantRun e v c run) := by
  have granted : KeepsLaws e owed v (leaveWaiting e (run.foldl (grantCell e c) v) c) :=
    (keepsLaws_foldl_grantCell e run v enrolled once fun p hp => roomy_of_grantTest (free p hp)).trans
      (keepsLaws_leaveWaiting ..)
  refine granted.then ?_
  simp only [grantRun]
  rw [claims_foldl _ _ (fun v p => claims_grantReport e v c p), claims_foldl _ _ (fun v x => claims_recompute e v x)]
  exact claims_modCtx_same _ rfl

/-! ## Run failures (R29 to R33) -/

theorem keepsLaws_passOver (e : Setting) (v : Run) (y : Nat) (run : List (Nat × Nat)) (runs : (v.ctx c).runsLive) :
    KeepsLaws e owed v (passOver e v c y run) := by
  simp only [passOver]
  split
  · exact .refl ..
  · have counted (n : Nat) : claimsOf (v.modCtx c (fun k => { k with passOver := n })).records = claimsOf v.records :=
      claims_modCtx_same v rfl
    split
    · refine KeepsLaws.after (v := v.modCtx c (fun k => { k with
        passOver := min Config.passOverMax ((v.ctx c).passOver + 1) })) ?_ (counted _)
      refine keepsLaws_foldl_reserve e _ _ ?_ fun p hp => ?_
      · simpa [Context.runsLive] using runs
      · rw [counted]
        obtain ⟨-, test⟩ := List.mem_filter.mp hp
        rw [Bool.and_eq_true, Option.isNone_iff_eq_none] at test
        exact (roomy_of_grantTest test.2).1
    · exact keepsLaws_of_same (counted _)


end Sys2Proof.Proofs
end

section
/-! Run failures, attempts and offers keep the laws (R29 to R33, R38, R39, R45 to R54). -/

namespace Sys2Proof.Proofs

open Sys2Proof.Machine Sys2Proof.Laws

variable {e : Setting} {owed : List Task} {v u w : Run} {c x : Nat}

/-- The wait record of R29's third step leaves a carrier's state, contact and held cells. -/
theorem claims_recordWait (e : Setting) (v : Run) (c y : Nat) (kept : Bool) :
    claimsOf (recordWait e v c y kept).records =
      (claimsOf v.records).setCarrier c { (claimsOf v.records).carrier c with wait := some (.cell, y) } := by
  rw [recordWait, claims_modCtx]
  rfl

theorem claims_insert (v : Run) (s : List Nat) (w : Waiter) (y : Nat) :
    claimsOf (v.setCell y { v.cell y with queue := insertWaiter s w (v.cell y).queue }).records =
      (claimsOf v.records).setCell y { (claimsOf v.records).cell y with
        queue := insertWaiter s (placeOf w) ((claimsOf v.records).cell y).queue } := by
  have places (l : List Waiter) : (insertWaiter s w l).map placeOf = insertWaiter s (placeOf w) (l.map placeOf) := by
    induction l with
    | nil => rfl
    | cons x l ih =>
      have same : aheadOf s (placeOf w) (placeOf x) = aheadOf s w x := rfl
      simp only [insertWaiter, List.map_cons, same]
      split
      · rfl
      · rw [List.map_cons, ih]
  rw [claims_setCell, cellClaims, places]
  rfl

/-- A carrier that keeps its place in a queue takes a new step and cause alone. -/
theorem claims_placeWaiter_here {y j : Nat} {cause : BlockCause} {taken : Option Nat} (h : v.queueOf c = some y) :
    claimsOf (placeWaiter e v c y j cause taken).records = claimsOf v.records := by
  simp only [placeWaiter, if_pos h]
  refine claims_setCell_same v ?_
  rw [cellClaims, cellClaims, List.map_map]
  congr 1
  refine List.map_congr_left fun o _ => ?_
  simp only [Function.comp]
  split
  next same => rw [placeOf, placeOf, same]
  next => rfl

/-- The run in which a carrier has left the queue it stood in, before it joins another (R29). -/
def beforeJoin (e : Setting) (v : Run) (c : Nat) : Run := if (v.queueOf c).isSome then leaveQueue e v c else v

theorem keepsLaws_beforeJoin (e : Setting) (v : Run) (c : Nat) : KeepsLaws e owed v (beforeJoin e v c) := by
  unfold beforeJoin
  split
  · exact keepsLaws_leaveQueue e v c
  · exact .refl ..

theorem carrier_beforeJoin (d : Nat) :
    (claimsOf (beforeJoin e v c).records).carrier d = (claimsOf v.records).carrier d := by
  unfold beforeJoin
  split
  · rw [claims_leaveQueue, carrier_leave]
  · rfl

/-- Under the law of the queues, a carrier that is about to join a queue stands in none. -/
theorem unqueued_beforeJoin (law : WaitsLaw (claimsOf (beforeJoin e v c).records)) :
    (claimsOf (beforeJoin e v c).records).unqueued c := by
  unfold beforeJoin at law ⊢
  split
  next stands =>
    rw [if_pos stands, claims_leaveQueue] at law
    rw [claims_leaveQueue]
    exact unqueued_of_left law
  next stands =>
    rw [if_neg stands] at law
    have nowhere := standsIn_queueOf v c law.sorted
    rw [Option.not_isSome_iff_eq_none.mp stands] at nowhere
    exact nowhere

/-- A carrier that joins the queue of a cell takes its place there by its kept seniority, or junior to all, and its wait
record names the cell (R23, R29). -/
theorem claims_placeWaiter_elsewhere {y j : Nat} {cause : BlockCause} {taken : Option Nat} {kept : Bool}
    (h : v.queueOf c ≠ some y) : ∃ s o, o.carrier = c ∧
      JoinsSeniority (claimsOf (beforeJoin e v c).records).seniority s c ∧
      claimsOf (recordWait e (placeWaiter e v c y j cause taken) c y kept).records =
        (claimsOf (beforeJoin e v c).records).join s o y := by
  let o : Waiter := { carrier := c, priority := (e.map.classOf (v.ctx c)).priority, step := j, cause := cause }
  let v₁ := beforeJoin e v c
  let v₂ := if taken = some y ∧ v₁.records.seniority.contains c then v₁ else v₁.joinSeniority c
  have placed : claimsOf (placeWaiter e v c y j cause taken).records = claimsOf (v₂.setCell y
      { v₂.cell y with queue := insertWaiter v₂.records.seniority o (v₂.cell y).queue }).records := by
    unfold placeWaiter
    rw [if_neg h]
    dsimp only
    rw [claims_ite, claims_queueFilled, ite_self]
    rfl
  obtain ⟨s, joins, seniors⟩ : ∃ s, JoinsSeniority v₁.records.seniority s c ∧ v₂ = v₁.setSeniority s := by
    by_cases keeps : taken = some y ∧ v₁.records.seniority.contains c = true
    · exact ⟨_, .inl ⟨rfl, List.contains_iff_mem.mp keeps.2⟩, if_pos keeps⟩
    · exact ⟨_, .inr rfl, if_neg keeps⟩
  refine ⟨s, placeOf o, rfl, joins, ?_⟩
  rw [claims_recordWait, placed, seniors, claims_insert, claims_setSeniority]
  change _ = (claimsOf v₁.records).join s (placeOf o) y
  rfl

/-- Steps 1 to 3 of R29: a carrier that runs LIVE keeps its place in the queue of cell `y` or joins it, and waits for the
cell. -/
theorem keepsLaws_placed (e : Setting) (v : Run) (y j : Nat) (cause : BlockCause) (taken : Option Nat) (kept : Bool)
    (runs : (v.ctx c).runsLive) : KeepsLaws e owed v (recordWait e (placeWaiter e v c y j cause taken) c y kept) := by
  by_cases here : v.queueOf c = some y
  · rw [KeepsLaws, claims_recordWait, claims_placeWaiter_here here]
    refine keeps_turns ⟨rfl, id, .inl, .inl rfl, fun runs _ => .inl runs, fun law => .inr ⟨runs, ?_⟩⟩
    have stands := standsIn_queueOf v c law.sorted
    rw [here] at stands
    obtain ⟨o, ho, rfl⟩ := stands
    exact (law.waits y o ho).symm
  · obtain ⟨s, o, rfl, joins, claims⟩ := claims_placeWaiter_elsewhere (e := e) (j := j) (cause := cause) (taken := taken)
      (kept := kept) here
    refine (keepsLaws_beforeJoin e v o.carrier).trans ?_
    rw [claims]
    refine keeps_join ?_ unqueued_beforeJoin joins
    rw [carrier_beforeJoin]
    exact runs

theorem runsLive_placed {y j : Nat} {cause : BlockCause} {taken : Option Nat} {kept : Bool} (runs : (v.ctx c).runsLive) :
    ((recordWait e (placeWaiter e v c y j cause taken) c y kept).ctx c).runsLive := by
  change ((claimsOf (recordWait e (placeWaiter e v c y j cause taken) c y kept).records).carrier c).runsLive
  by_cases here : v.queueOf c = some y
  · rw [claims_recordWait, claims_placeWaiter_here here, Claims.carrier_setCarrier_self]
    exact runs
  · obtain ⟨s, o, rfl, -, claims⟩ := claims_placeWaiter_elsewhere (e := e) (j := j) (cause := cause) (taken := taken)
      (kept := kept) here
    rw [claims, carrier_join_self, carrier_beforeJoin]
    exact runs

theorem keepsLaws_runFails (e : Setting) (v : Run) (run : List (Nat × Nat)) (y j : Nat) (cause : BlockCause)
    (target taken : Option Nat) (runs : (v.ctx c).runsLive) :
    KeepsLaws e owed v (runFails e v c run y j cause target taken) := by
  have failed (kept : Bool) : KeepsLaws e owed v
      (passOver e (setEdge e (recordWait e (placeWaiter e v c y j cause taken) c y kept) c target) c y run) := by
    have still : ((setEdge e (recordWait e (placeWaiter e v c y j cause taken) c y kept) c target).ctx c).runsLive := by
      have same := congrArg (fun k => Claims.carrier k c)
        (claims_setEdge e (recordWait e (placeWaiter e v c y j cause taken) c y kept) c target)
      exact (congrArg CarrierClaims.runsLive same).mpr (runsLive_placed runs)
    exact ((keepsLaws_placed e v y j cause taken kept runs).then (claims_setEdge ..)).trans
      (keepsLaws_passOver e _ y run still)
  refine (failed (decide (v.queueOf c = some y) || decide (taken = some y))).then ?_
  simp only [runFails]
  repeat' split
  all_goals simp

/-! ## Attempts and offers (R38, R39, R45 to R54) -/

theorem runsLive_of_allowed (h : attemptAllowed e v c = true) : (v.ctx c).runsLive := by
  simp only [attemptAllowed, Bool.and_eq_true, beq_iff_eq] at h
  obtain ⟨⟨-, running⟩, live⟩ := h
  exact ⟨running, live⟩

/-- A run that repeats no cell of `seen` and none of its own names no cell twice. -/
theorem nodup_of_repeatedCell {seen : List Nat} {run : List (Nat × Nat)} (h : repeatedCell seen run = none) :
    (run.map Prod.fst).Nodup ∧ ∀ p ∈ run, p.1 ∉ seen := by
  induction run generalizing seen with
  | nil => simp
  | cons p rest ih =>
    simp only [repeatedCell] at h
    split at h
    · cases h
    next fresh =>
      obtain ⟨once, unseen⟩ := ih h
      have unseenHere : p.1 ∉ seen := by simpa using fresh
      refine ⟨List.nodup_cons.mpr ⟨fun again => ?_, once⟩, fun q hq => ?_⟩
      · obtain ⟨q, hq, same⟩ := List.mem_map.mp again
        exact unseen q hq (same ▸ List.mem_cons_self ..)
      · rcases List.mem_cons.mp hq with rfl | hq
        · exact unseenHere
        · exact fun mem => unseen q hq (List.mem_cons_of_mem _ mem)

theorem grantable_of_firstFailing {run : List (Nat × Nat)} (h : firstFailing e v c run = none) :
    ∀ p ∈ run, grantTest e v c p.1 p.2 = none := by
  induction run with
  | nil => simp
  | cons p rest ih =>
    simp only [firstFailing] at h
    split at h
    · cases h
    next test =>
      intro q hq
      rcases List.mem_cons.mp hq with rfl | hq
      · exact test
      · exact ih h q hq

theorem keepsLaws_attemptRound (e : Setting) (v : Run) (c : Nat) (granted : Bool) (after : After) :
    KeepsLaws e owed v (attemptRound e v c granted after) := by
  unfold attemptRound
  split
  · exact .refl ..
  next allowed =>
    have runs : (v.ctx c).runsLive := runsLive_of_allowed (not_not.mp allowed)
    split
    · exact .refl ..
    · dsimp only
      split
      · exact keepsLaws_runFails e v _ _ _ _ _ _ runs
      next once =>
        split
        · exact keepsLaws_runFails e v _ _ _ _ _ _ runs
        next free =>
          refine keepsLaws_grantRun e v ?_ (nodup_of_repeatedCell once).1 (grantable_of_firstFailing free)
          simp [runs.1]

theorem keepsLaws_waitInLane (e : Setting) (v : Run) (c x : Nat) : KeepsLaws e owed v (waitInLane e v c x) := by
  refine (keepsLaws_leaveQueue e v c).trans ?_
  refine KeepsLaws.then (u := (leaveQueue e v c).modCtx c _) ?_ (claims_setEdge ..)
  refine keepsLaws_modCtx (turns_wait (some (.order, x)) fun law => ?_)
  rw [claims_leaveQueue] at law ⊢
  exact unqueued_of_left law

theorem keepsLaws_settleWait (e : Setting) (v : Run) (c : Nat) (reason : Reason) :
    KeepsLaws e owed v (settleWait e v c reason) := by
  cases reason with
  | cell => exact .refl ..
  | order =>
    simp only [settleWait]
    split
    · exact keepsLaws_waitInLane ..
    · exact .refl ..
  | none | horizon | routeEnd | hold | fetch | device | noRoute => exact keepsLaws_leaveWaiting ..

theorem keepsLaws_attemptEnd (e : Setting) (v : Run) (c : Nat) (reason : Reason) (granted : Bool) (after : After) :
    KeepsLaws e owed v (attemptEnd e v c reason granted after) := by
  have recorded : claimsOf (v.modCtx c (fun k => { k with blockReason := some reason })).records = claimsOf v.records :=
    claims_modCtx_same v rfl
  refine ((keepsLaws_settleWait e _ c reason).after recorded).then ?_
  simp only [attemptEnd]
  cases after with
  | reply | noticeAndReply | noticeAlways | noticeIfGranted | offered => simp

theorem keepsLaws_offerNext (e : Setting) (v : Run) (x : Nat) (left : List Nat) :
    KeepsLaws e owed v (offerNext e v x left) := by
  unfold offerNext
  split
  · exact .refl ..
  · split
    · exact .refl ..
    · rw [KeepsLaws, claims_later, claims_takeFrom]
      exact keeps_take ..

end Sys2Proof.Proofs
end

section
/-! The carrier table keeps the laws: halting, trims, the ends and starts of routes, contact, requests and retirement
(Chapter 5). -/

namespace Sys2Proof.Proofs

open Sys2Proof.Machine Sys2Proof.Laws

variable {e : Setting} {owed : List Task} {v u w : Run} {c x : Nat}

/-! ## What the operating states allow (Section 10.2) -/

/-- An operating state that allows ATTACHED, HALTING, STOPPED or RUNNING allows every state but RUNNING. -/
theorem allows_of_moving {o : OpState} {k q : CarrierState} (h : o.allows k = true) (enrolled : k ≠ .vacant)
    (routed : k ≠ .idle) (still : q ≠ .running) : o.allows q = true := by
  cases o with
  | unconfigured | loading => exact absurd (beq_iff_eq.mp h) enrolled
  | standby =>
    simp only [OpState.allows, Bool.or_eq_true, beq_iff_eq] at h
    exact absurd h (by simp [enrolled, routed])
  | active => rfl
  | allStop => simpa [OpState.allows] using still

/-- An operating state in which a carrier may be enrolled allows IDLE. -/
theorem allows_idle {o : OpState} {k : CarrierState} (h : o.allows k = true) (enrolled : k ≠ .vacant) :
    o.allows .idle = true := by
  cases o with
  | unconfigured | loading => exact absurd (beq_iff_eq.mp h) enrolled
  | standby | active | allStop => rfl

theorem allows_vacant (o : OpState) : o.allows .vacant = true := by
  cases o <;> rfl

theorem allows_active (k : CarrierState) {o : OpState} (h : o = .active) : o.allows k = true := by
  rw [h]
  rfl

/-! ## Leaving RUNNING and halting (R93) -/

/-- The claims after a carrier, turned to the claims `q`, has given up its own. -/
theorem claims_giveUpClaims {q : CarrierClaims} (turned : claimsOf u.records = (claimsOf v.records).setCarrier c q)
    (queue : u.queueOf c = v.queueOf c) : claimsOf (giveUpClaims e u c).records =
      ((claimsOf v.records).leave (v.queueOf c) c).setCarrier c { q with wait := none } := by
  rw [giveUpClaims, claims_later, claims_modCtx_same _ rfl, claims_leaveWaiting, turned, queue, setCarrier_leave,
    Claims.setCarrier_setCarrier, Claims.carrier_setCarrier_self]

/-- A RUNNING carrier that stops to run LIVE gives up its claims. -/
theorem keepsLaws_giveUpClaims {q : CarrierClaims} (turned : claimsOf u.records = (claimsOf v.records).setCarrier c q)
    (queue : u.queueOf c = v.queueOf c) (held : q.held = (carrierClaims (v.ctx c)).held)
    (running : (v.ctx c).state = .running) (stays : q.state ≠ .vacant)
    (state : e.op.allows .running = true → e.op.allows q.state = true)
    (clears : .clearReservations c ∈ owed) : KeepsLaws e owed v (giveUpClaims e u c) :=
  keepsLaws_quits (claims_giveUpClaims turned queue) held (by simp [running]) stays (by rwa [running]) clears

theorem keepsLaws_modCtx_same {f : Context → Context} (h : carrierClaims (f (v.ctx c)) = carrierClaims (v.ctx c)) :
    KeepsLaws e owed v (v.modCtx c f) := keepsLaws_of_same (claims_modCtx_same v h)

theorem keepsLaws_halt (e : Setting) (v : Run) (c : Nat) (cause : StopCause) (work : (halt e v c cause).work ⊆ owed) :
    KeepsLaws e owed v (halt e v c cause) := by
  cases hs : (v.ctx c).state with
  | running =>
    simp only [halt, hs] at work ⊢
    refine KeepsLaws.then ?_ (claims_later ..)
    refine keepsLaws_giveUpClaims (claims_modCtx v c _) rfl rfl hs (by simp [carrierClaims]) (fun ok => ?_) (work ?_)
    · exact allows_of_moving ok (by simp) (by simp) (by simp [carrierClaims])
    · simp [giveUpClaims]
  | halting =>
    simp only [halt, hs]
    split
    · exact keepsLaws_modCtx_same rfl
    · exact .refl ..
  | stopped =>
    simp only [halt, hs]
    split
    · exact (keepsLaws_modCtx_same rfl).then (claims_raise ..)
    · exact .refl ..
  | vacant | idle | attached =>
    simp only [halt, hs]
    exact .refl ..

/-! ## Releases (R95, R85, R88, R99) -/

theorem keepsLaws_release_filter (p : Held → Bool) : KeepsLaws e owed v (release e v c ((v.ctx c).held.filter p)) :=
  keepsLaws_release e v List.filter_sublist

theorem keepsLaws_trim (e : Setting) (v : Run) (c : Nat) : KeepsLaws e owed v (trim e v c) :=
  (keepsLaws_release_filter _).trans (keepsLaws_modCtx_same rfl)

theorem keepsLaws_routeEndKeeping (e : Setting) (v : Run) (c : Nat) (result : RouteResult) (kept : Held → Bool) :
    KeepsLaws e owed v (routeEndKeeping e v c result kept) :=
  (keepsLaws_release_filter _).then (claims_later ..)

theorem keepsLaws_routeEnd (e : Setting) (v : Run) (c : Nat) (result : RouteResult) :
    KeepsLaws e owed v (routeEnd e v c result) := keepsLaws_routeEndKeeping ..

theorem keepsLaws_rangeEnd (e : Setting) (v : Run) (c : Nat) (result : RouteResult) :
    KeepsLaws e owed v (rangeEnd e v c result) := keepsLaws_routeEndKeeping ..

theorem keepsLaws_movePosition (e : Setting) (v : Run) (c f r x : Nat) : KeepsLaws e owed v (movePosition e v c f r x) :=
  (keepsLaws_modCtx_same (f := fun k => { k with front := f, rear := r, frontCell := x }) rfl).trans
    (keepsLaws_release_filter _)

theorem keepsLaws_retireRelease (e : Setting) (v : Run) (c : Nat) : KeepsLaws e owed v (retireRelease e v c) :=
  keepsLaws_release e v (.refl _)

/-! ## The end and the start of a route (R85, R84) -/

theorem queueOf_eq (h : u.records.cells = v.records.cells) : u.queueOf c = v.queueOf c := by
  rw [Run.queueOf, Run.queueOf, h]

theorem cells_clearWait (e : Setting) (v : Run) (c : Nat) : (clearWait e v c).records.cells = v.records.cells := by
  rw [clearWait, Run.modCtx_cells, (setEdge_edgesOnly e v c none).records]

/-- An ended route leaves a carrier IDLE with the cells it holds. -/
theorem carrierClaims_endRoute (k : Context) (result : RouteResult) : carrierClaims (k.endRoute result) =
    { carrierClaims k with state := .idle } := by
  simp only [carrierClaims, Context.endRoute, List.map_map]
  rfl

theorem records_queueWriteBack (v : Run) (c : Nat) (result : RouteResult) :
    ∃ g, (queueWriteBack v c result).records = { v.records with engine := g } := by
  simp only [queueWriteBack]
  split
  · exact ⟨_, rfl⟩
  · exact ⟨_, rfl⟩

/-- The claims of a carrier whose route has ended, before it gives up what a RUNNING carrier has. -/
theorem claims_routeEnded (v : Run) (c : Nat) (result : RouteResult) (g : Engine) :
    claimsOf (clearWait e (((queueWriteBack v c result).setEngine g).modCtx c (fun k => k.endRoute result)) c).records =
      (claimsOf v.records).setCarrier c { (claimsOf v.records).carrier c with state := .idle, wait := none } := by
  obtain ⟨h, engine⟩ := records_queueWriteBack v c result
  have same : ((queueWriteBack v c result).setEngine g).ctx c = v.ctx c := by
    rw [Run.setEngine, engine]
    rfl
  rw [claims_clearWait, claims_modCtx, carrierClaims_endRoute, Claims.setCarrier_setCarrier,
    Claims.carrier_setCarrier_self, claims_setEngine, claims_queueWriteBack, same]
  rfl

theorem keepsLaws_routeEndRest (e : Setting) (v : Run) (c : Nat) (result : RouteResult)
    (work : (routeEndRest e v c result).work ⊆ owed) : KeepsLaws e owed v (routeEndRest e v c result) := by
  simp only [routeEndRest] at work ⊢
  split at work
  next vacant =>
    rw [if_pos vacant]
    exact .refl ..
  next enrolled =>
    rw [if_neg enrolled]
    refine KeepsLaws.then ?_ (claims_raise ..)
    split at work
    next running =>
      rw [if_pos running]
      refine keepsLaws_giveUpClaims (claims_routeEnded v c result _) ?_ rfl (beq_iff_eq.mp running) (by simp)
        (fun ok => allows_idle ok (by simp)) (work ?_)
      · refine queueOf_eq ?_
        rw [cells_clearWait, Run.modCtx_cells]
        obtain ⟨h, engine⟩ := records_queueWriteBack v c result
        rw [Run.setEngine, engine]
      · simp [giveUpClaims, Run.raise]
    next still =>
      rw [if_neg still, KeepsLaws, claims_routeEnded]
      have idle : ¬(v.ctx c).runsLive := fun runs => still (beq_iff_eq.mpr runs.1)
      exact keeps_turns (turns_of_idle idle rfl enrolled (by simp) fun ok => allows_idle ok enrolled)

/-- A route's start turns the resting entry into the step-0 entry, and leaves the cells held. -/
theorem carrierClaims_startRoute (k : Context) : carrierClaims k.startRoute = carrierClaims k := by
  have cells (l : List Held) (p : Held → Bool) :
      (l.map (fun h => if p h then { h with step := some 0 } else h)).map Held.cell = l.map Held.cell := by
    rw [List.map_map]
    refine List.map_congr_left fun h _ => ?_
    simp only [Function.comp]
    split <;> rfl
  simp only [carrierClaims, Context.startRoute]
  rw [cells]

/-- A carrier in ATTACHED, HALTING or STOPPED becomes STOPPED, or RUNNING in ACTIVE. -/
theorem keepsLaws_startStop {f : Context → Context}
    (routed : (v.ctx c).state = .attached ∨ (v.ctx c).state = .halting ∨ (v.ctx c).state = .stopped)
    (held : (f (v.ctx c)).held = (v.ctx c).held)
    (next : (f (v.ctx c)).state = .stopped ∨ ((f (v.ctx c)).state = .running ∧ e.op = .active)) :
    KeepsLaws e owed v (v.modCtx c f) := by
  have still : (v.ctx c).state ≠ .running := by rcases routed with h | h | h <;> simp [h]
  have enrolled : (v.ctx c).state ≠ .vacant := by rcases routed with h | h | h <;> simp [h]
  have notIdle : (v.ctx c).state ≠ .idle := by rcases routed with h | h | h <;> simp [h]
  refine keepsLaws_modCtx (turns_of_idle (fun runs => still runs.1) (congrArg (List.map Held.cell) held) enrolled ?_ ?_)
  · rcases next with h | ⟨h, -⟩ <;> simp [carrierClaims, h]
  · intro ok
    rcases next with h | ⟨-, active⟩
    · exact allows_of_moving ok enrolled notIdle (by simp [carrierClaims, h])
    · exact allows_active _ active

/-- A carrier that is not RUNNING becomes STOPPED with a cause. -/
theorem keepsLaws_becomeStopped (cause : StopCause)
    (routed : (v.ctx c).state = .attached ∨ (v.ctx c).state = .halting ∨ (v.ctx c).state = .stopped) :
    KeepsLaws e owed v (becomeStopped v c cause) :=
  (keepsLaws_startStop routed rfl (.inl rfl)).then (claims_raise ..)

theorem keepsLaws_routeStart (e : Setting) (v : Run) (c : Nat) (attached : (v.ctx c).state = .attached) :
    KeepsLaws e owed v (routeStart e v c) := by
  have started : claimsOf (v.modCtx c Context.startRoute).records = claimsOf v.records :=
    claims_modCtx_same v (carrierClaims_startRoute _)
  have attached : ((v.modCtx c Context.startRoute).ctx c).state = .attached := by
    simp [Context.startRoute, attached]
  simp only [routeStart]
  refine KeepsLaws.after ?_ started
  split
  · exact (keepsLaws_becomeStopped .lost (.inl attached)).then (claims_later ..)
  next active => exact (keepsLaws_startStop (.inl attached) rfl (.inr ⟨rfl, active⟩)).then (claims_later ..)
  next active => exact keepsLaws_startStop (.inl attached) rfl (.inr ⟨rfl, active⟩)
  · exact (keepsLaws_startStop (.inl attached) rfl (.inl rfl)).then (claims_later ..)
  · exact (keepsLaws_startStop (.inl attached) rfl (.inl rfl)).then (claims_later ..)

/-! ## Resuming, recovering, retiring (R98, R99, R102) -/

theorem keepsLaws_resume (e : Setting) (v : Run) (c : Nat) : KeepsLaws e owed v (resume e v c) := by
  simp only [resume]
  split
  next h =>
    obtain ⟨active, stopped, -⟩ := h
    exact (keepsLaws_startStop (.inr (.inr stopped)) rfl (.inr ⟨rfl, active⟩)).then (claims_later ..)
  next => exact .refl ..

theorem keepsLaws_recoverRest (e : Setting) (v : Run) (c : Nat) : KeepsLaws e owed v (recoverRest e v c) := by
  simp only [recoverRest]
  split
  next h =>
    obtain ⟨active, stopped⟩ := h
    exact (keepsLaws_startStop (.inr (.inr stopped)) rfl (.inr ⟨rfl, active⟩)).then (claims_later ..)
  next => exact .refl ..

theorem keepsLaws_haltingExit (e : Setting) (v : Run) (c : Nat) : KeepsLaws e owed v (haltingExit e v c) := by
  unfold haltingExit
  split
  next halting =>
    split
    · exact (keepsLaws_rangeEnd ..).then (claims_later ..)
    · split
      next active => exact (keepsLaws_startStop (.inr (.inl halting)) rfl (.inr ⟨rfl, active⟩)).then (claims_later ..)
      next => exact (keepsLaws_startStop (.inr (.inl halting)) rfl (.inl rfl)).then (claims_later ..)
    · exact (keepsLaws_becomeStopped _ (.inr (.inl halting))).then (claims_later ..)
    · exact .refl ..
  next => exact .refl ..

/-- A carrier with no cell, no queue place and no reservation becomes VACANT (R99). -/
theorem keepsLaws_retireRest (e : Setting) (v : Run) (c : Nat) : KeepsLaws e owed v (retireRest v c) := by
  simp only [retireRest]
  split
  next clear =>
    rw [Bool.and_eq_true, Bool.and_eq_true, List.isEmpty_iff, List.isEmpty_iff, Option.isNone_iff_eq_none] at clear
    obtain ⟨⟨empty, nowhere⟩, unreserved⟩ := clear
    have held : ((claimsOf v.records).carrier c).held = [] := List.map_eq_nil_iff.mpr empty
    have vacated : Turns e owed (claimsOf v.records) c (carrierClaims Context.vacant) :=
      { held := held.symm
        stays := fun _ => rfl
        enters := fun _ => .inr held
        state := .inr fun _ => allows_vacant _
        claims := fun _ some => absurd unreserved some
        queued := fun law => .inl (by
          have stands := standsIn_queueOf v c law.sorted
          rwa [nowhere] at stands) }
    rw [KeepsLaws, claims_modCtx]
    simp only [claims_retireMark, claims_removeMessages, claims_queueWriteBack, claims_setEngine]
    exact keeps_turns vacated
  next => exact .refl ..

end Sys2Proof.Proofs
end

section
/-! Carrier requests, contact and the route fetch engine keep the laws (R84 to R97, R100, R101, R111 to R118). -/

namespace Sys2Proof.Proofs

open Sys2Proof.Machine Sys2Proof.Laws

variable {e : Setting} {owed : List Task} {v u w : Run} {c x : Nat}

/-! ## Carrier requests (R86 to R97) -/

theorem keepsLaws_cutEnd (e : Setting) (v : Run) (c : Nat) : KeepsLaws e owed v (cutEnd e v c) :=
  (keepsLaws_routeEnd ..).then (claims_later ..)

theorem keepsLaws_passRest (e : Setting) (v : Run) (c speed : Nat) : KeepsLaws e owed v (passRest e v c speed) := by
  unfold passRest
  split
  · exact keepsLaws_cutEnd ..
  · exact .refl ..

theorem keepsLaws_haltingRest (e : Setting) (v : Run) (c speed : Nat) :
    KeepsLaws e owed v (haltingRest e v c speed) := by
  unfold haltingRest
  split
  · exact (keepsLaws_trim ..).then (claims_later ..)
  · exact .refl ..

theorem keepsLaws_runningPass (e : Setting) (v : Run) (c f r x speed : Nat) (wasSilent : Bool) :
    KeepsLaws e owed v (runningPass e v c f r x speed wasSilent) := by
  unfold runningPass
  split
  · exact keepsLaws_of_same (claims_replyAfterRestore ..)
  · exact ((keepsLaws_of_same (claims_recordSpeed ..)).then (claims_raise ..)).then (claims_later ..)
  · exact (keepsLaws_of_same (claims_charge ..)).after (claims_recordSpeed ..)
  · exact ((keepsLaws_movePosition ..).after (claims_recordSpeed ..)).then (claims_later ..)

theorem keepsLaws_runningAsk (e : Setting) (v : Run) (c f speed requested : Nat) (resume : Bool) :
    KeepsLaws e owed v (runningAsk e v c f speed requested resume) := by
  have answered (b : Bool) (u : Run) (same : claimsOf u.records = claimsOf v.records) : KeepsLaws e owed v
      (if b then cutEnd e u c else u.later [.attempt c .reply, .fetchTrigger c]) := by
    split
    · exact (keepsLaws_cutEnd ..).after same
    · exact keepsLaws_of_same same
  refine answered _ _ ?_
  rw [claims_ite, claims_modCtx_same _ (by rfl), ite_self, claims_recordSpeed, claims_recordRequest]

theorem keepsLaws_runningDone (e : Setting) (v : Run) (c f speed : Nat) (wasSilent : Bool) :
    KeepsLaws e owed v (runningDone e v c f speed wasSilent) := by
  simp only [runningDone]
  refine KeepsLaws.after ?_ (claims_recordSpeed v c speed)
  split
  · exact (keepsLaws_routeEnd ..).then (claims_later ..)
  · exact keepsLaws_of_same (claims_charge ..)

theorem keepsLaws_runningRequest (e : Setting) (v : Run) (c : Nat) (q : Request) (wasSilent : Bool) :
    KeepsLaws e owed v (runningRequest e v c q wasSilent) := by
  cases q with
  | ask f speed requested resume => exact keepsLaws_runningAsk ..
  | pass f r x speed => exact keepsLaws_runningPass ..
  | done f speed => exact keepsLaws_runningDone ..

theorem keepsLaws_haltingOverrun (e : Setting) (v : Run) (c speed : Nat) (halting : (v.ctx c).state = .halting) :
    KeepsLaws e owed v (haltingOverrun v c speed) := by
  simp only [haltingOverrun]
  refine KeepsLaws.then ?_ (claims_later ..)
  split
  · exact (keepsLaws_becomeStopped (v := v.raise .overrun) .overrun (.inr (.inl halting))).after (claims_raise ..)
  · exact keepsLaws_of_same (claims_raise ..)

theorem keepsLaws_haltingPass (e : Setting) (v : Run) (c f r x speed : Nat) (halting : (v.ctx c).state = .halting) :
    KeepsLaws e owed v (haltingPass e v c f r x speed) := by
  unfold haltingPass
  split
  · exact .refl ..
  · refine (keepsLaws_haltingOverrun e _ c speed ?_).after (claims_recordSpeed ..)
    simpa [Run.recordSpeed] using halting
  · exact keepsLaws_of_same (claims_recordSpeed ..)
  · exact ((keepsLaws_movePosition ..).after (claims_recordSpeed ..)).then (claims_later ..)

theorem keepsLaws_haltingAsk (e : Setting) (v : Run) (c f speed requested : Nat) (halting : (v.ctx c).state = .halting) :
    KeepsLaws e owed v (haltingAsk e v c f speed requested) := by
  have asked : claimsOf ((recordRequest e v c requested).recordSpeed c speed).records = claimsOf v.records := by
    rw [claims_recordSpeed, claims_recordRequest]
  simp only [haltingAsk]
  refine KeepsLaws.after ?_ asked
  split
  · refine KeepsLaws.then ?_ (claims_later ..)
    refine (keepsLaws_becomeStopped (v := Run.raise _ .overrun) .overrun (.inr (.inl ?_))).after (claims_raise ..)
    simpa [Run.recordSpeed, recordRequest] using halting
  · exact .refl ..

theorem keepsLaws_haltingRequest (e : Setting) (v : Run) (c : Nat) (q : Request) (halting : (v.ctx c).state = .halting) :
    KeepsLaws e owed v (haltingRequest e v c q) := by
  cases q with
  | ask f speed requested resume => exact keepsLaws_haltingAsk (halting := halting) ..
  | pass f r x speed => exact keepsLaws_haltingPass (halting := halting) ..
  | done f speed => exact keepsLaws_of_same (claims_haltingDone ..)

/-- A good frame makes a carrier's contact LIVE: what it had it keeps. -/
theorem keepsLaws_restoreContact (v : Run) (c : Nat) : KeepsLaws e owed v (restoreContact v c) := by
  refine keepsLaws_modCtx ⟨rfl, id, .inl, .inl rfl, fun runs _ => .inl ⟨runs.1, rfl⟩, fun law => ?_⟩
  by_cases runs : ((claimsOf v.records).carrier c).runsLive
  · exact .inr ⟨⟨runs.1, rfl⟩, rfl⟩
  · exact .inl (law.unqueued_of_not_runsLive runs)

theorem keepsLaws_carrierRequest (e : Setting) (v : Run) (c : Nat) (q : Request) :
    KeepsLaws e owed v (carrierRequest e v c q) := by
  simp only [carrierRequest]
  refine (keepsLaws_restoreContact v c).trans ?_
  split
  · exact .refl ..
  · exact keepsLaws_of_same (claims_sendWait ..)
  · exact keepsLaws_of_same (claims_sendWait ..)
  · split
    · exact keepsLaws_runningRequest ..
    · exact keepsLaws_of_same (claims_sendWait ..)
  next halting => exact keepsLaws_haltingRequest e _ c q halting
  · exact keepsLaws_of_same (claims_sendStop ..)

theorem keepsLaws_frameArrives (e : Setting) (v : Run) (l c : Nat) (q : Request) :
    KeepsLaws e owed v (frameArrives e v l c q) := by
  unfold frameArrives
  split
  · exact .refl ..
  · exact (keepsLaws_carrierRequest ..).after (claims_setHome ..)

/-! ## Contact (R100, R101) -/

theorem keepsLaws_silenceReached (e : Setting) (v : Run) (c : Nat) (work : (silenceReached e v c).work ⊆ owed) :
    KeepsLaws e owed v (silenceReached e v c) := by
  simp only [silenceReached] at work ⊢
  split at work
  next limit =>
    rw [if_pos limit]
    split at work
    next running =>
      rw [if_pos running]
      refine keepsLaws_giveUpClaims (claims_modCtx v c _) rfl rfl running ?_ ?_ (work ?_)
      · simp [carrierClaims, running]
      · simp [carrierClaims, running]
      · simp [giveUpClaims]
    next still =>
      rw [if_neg still]
      have idle : ¬(v.ctx c).runsLive := fun runs => still runs.1
      exact keepsLaws_modCtx ⟨rfl, id, .inl, .inl rfl, fun runs => absurd runs idle,
        fun law => .inl (law.unqueued_of_not_runsLive idle)⟩
  next below =>
    rw [if_neg below]
    exact .refl ..

theorem keepsLaws_lostReached (e : Setting) (v : Run) (c : Nat) (work : (lostReached e v c).work ⊆ owed) :
    KeepsLaws e owed v (lostReached e v c) := by
  have lost (still : (v.ctx c).state ≠ .running) :
      KeepsLaws e owed v (v.modCtx c (fun k => { k with contact := .lost })) := by
    have idle : ¬(v.ctx c).runsLive := fun runs => still runs.1
    exact keepsLaws_modCtx ⟨rfl, id, .inl, .inl rfl, fun runs => absurd runs idle,
      fun law => .inl (law.unqueued_of_not_runsLive idle)⟩
  simp only [lostReached] at work ⊢
  split at work
  next limit =>
    rw [if_pos limit]
    cases hs : (v.ctx c).state with
    | running =>
      simp only [hs] at work ⊢
      refine KeepsLaws.then ?_ (claims_later ..)
      refine keepsLaws_giveUpClaims (q := { carrierClaims (v.ctx c) with state := .stopped, contact := .lost }) ?_ rfl rfl
        hs (by simp) (fun ok => allows_of_moving ok (by simp) (by simp) (by simp)) (work ?_)
      · rw [becomeStopped, claims_raise, claims_modCtx, claims_modCtx, Claims.setCarrier_setCarrier, Run.ctx_modCtx_self]
        rfl
      · simp [giveUpClaims]
    | halting =>
      refine KeepsLaws.then ?_ (claims_later ..)
      refine (lost (by simp [hs])).trans (keepsLaws_becomeStopped .lost (.inr (.inl ?_)))
      simp [hs]
    | attached | vacant | idle | stopped =>
      exact lost (by simp [hs])
  next below =>
    rw [if_neg below]
    exact .refl ..

/-! ## The route fetch engine (R84, R111 to R118) -/

theorem keepsLaws_clearBeyondCut (e : Setting) (v : Run) (c : Nat) : KeepsLaws e owed v (clearBeyondCut e v c) := by
  unfold clearBeyondCut
  split
  · exact keepsLaws_clearReservations e v (List.filter_subset_self _)
  · exact .refl ..

theorem keepsLaws_actOnRead (e : Setting) (v : Run) (c : Nat) (o : ReadOutcome) :
    KeepsLaws e owed v (actOnRead e v c o) := by
  unfold actOnRead
  split
  next attached => exact keepsLaws_routeEnd ..
  · exact .refl ..
  · exact keepsLaws_routeEnd ..
  · exact keepsLaws_rangeEnd ..
  · exact keepsLaws_rangeEnd ..
  · exact keepsLaws_rangeEnd ..
  · exact .refl ..
  next attached => exact keepsLaws_routeStart e v c attached
  · exact (keepsLaws_clearBeyondCut ..).then (claims_later ..)
  · exact .refl ..
  next attached => exact keepsLaws_routeStart e v c attached
  · exact .refl ..
  · exact .refl ..
  · exact .refl ..

theorem keepsLaws_useSteps (e : Setting) (v : Run) (c : Nat) (records : List Slot) :
    KeepsLaws e owed v (useSteps e v c records) := by
  simp only [useSteps]
  refine KeepsLaws.after ?_ (claims_appendSteps e v c ((v.ctx c).stepCount.getD 0) records)
  split
  · exact keepsLaws_actOnRead ..
  next f found =>
    have faulted (u : Run) : claimsOf ((u.modCtx c (fun k => { k with faultStep := some f })).raise .routeFault).records =
        claimsOf u.records := (claims_raise ..).trans (claims_modCtx_same u rfl)
    refine KeepsLaws.after ?_ (faulted _)
    split
    · exact keepsLaws_actOnRead ..
    · exact (keepsLaws_actOnRead ..).after (claims_cutRoute ..)

theorem keepsLaws_useData (e : Setting) (v : Run) (c : Nat) (first : Bool) (data : List Byte) :
    KeepsLaws e owed v (useData e v c first data) := by
  unfold useData
  split
  · split
    · exact (keepsLaws_modCtx_same rfl).trans (keepsLaws_useSteps ..)
    · exact (keepsLaws_actOnRead ..).after (claims_raise ..)
  · exact keepsLaws_useSteps ..

theorem keepsLaws_busFault (e : Setting) (v : Run) (c : Nat) : KeepsLaws e owed v (busFault e v c) := by
  simp only [busFault]
  refine KeepsLaws.after ?_ (claims_raise v .bus)
  split
  · exact keepsLaws_actOnRead ..
  · exact (keepsLaws_actOnRead ..).after (claims_cutRoute ..)

theorem keepsLaws_endRead (e : Setting) (v : Run) (r : ReadInFlight) (data : Option (List Byte)) :
    KeepsLaws e owed v (endRead e v r data) := by
  simp only [endRead]
  refine KeepsLaws.then ?_ (claims_later ..)
  split
  · split
    · exact (keepsLaws_useData ..).after (claims_setEngine ..)
    · exact (keepsLaws_busFault ..).after (claims_setEngine ..)
  · exact keepsLaws_of_same (claims_setEngine ..)

theorem keepsLaws_completionArrives (e : Setting) (v : Run) (number : Byte) (status : CompletionStatus)
    (data : List Byte) : KeepsLaws e owed v (completionArrives e v number status data) := by
  simp only [completionArrives]
  split
  · exact .refl ..
  · split
    · exact .refl ..
    · cases status with
      | aborted | poisoned => exact keepsLaws_endRead ..
      | good =>
        dsimp only
        split
        · exact keepsLaws_endRead ..
        · exact keepsLaws_of_same (claims_setEngine ..)

theorem keepsLaws_readTimerExpires (e : Setting) (v : Run) : KeepsLaws e owed v (readTimerExpires e v) := by
  simp only [readTimerExpires]
  split
  · split
    · exact keepsLaws_endRead ..
    · exact .refl ..
  · exact .refl ..

theorem keepsLaws_perstAsserted (e : Setting) (v : Run) : KeepsLaws e owed v (perstAsserted e v) := by
  simp only [perstAsserted]
  split
  · split
    · exact keepsLaws_of_same (claims_setEngine ..)
    · exact (keepsLaws_endRead ..).after (claims_setEngine ..)
  · exact keepsLaws_of_same (claims_setEngine ..)

end Sys2Proof.Proofs
end

section
/-! Each piece of work keeps the laws, and so does the whole of an event: the work that is owed to a law is done when the
event comes to rest. -/

namespace Sys2Proof.Proofs

open Sys2Proof.Machine Sys2Proof.Laws

variable {e : Setting} {owed : List Task} {v u w : Run} {c x : Nat}

/-! ## The pieces of work -/

/-- Each piece of work keeps the laws, what it leaves owed to them being among the work it leaves. -/
theorem keepsLaws_runTask (e : Setting) (a : Task) (v : Run) (work : (runTask e a v).work ⊆ owed) :
    KeepsLaws e owed v (runTask e a v) := by
  cases a with
  | attempt c after => exact keepsLaws_of_same (claims_attemptStart ..)
  | round c granted after => exact keepsLaws_attemptRound ..
  | attemptEnd c reason granted after => exact keepsLaws_attemptEnd ..
  | openDeferred => exact keepsLaws_of_same (claims_openDeferred ..)
  | offer x => exact keepsLaws_of_same (claims_offerStart ..)
  | offerNext x left => exact keepsLaws_offerNext ..
  | gateCall g => exact keepsLaws_of_same (claims_gateCall ..)
  | gateOpened g => exact keepsLaws_of_same (claims_gateOpened ..)
  | gateAfterOffer g => exact keepsLaws_of_same (claims_gateAfterOffer ..)
  | gateDrain g => exact keepsLaws_of_same (claims_gateDrain ..)
  | gateShut g => exact keepsLaws_of_same (claims_gateShut ..)
  | gateOwedPartner g => exact keepsLaws_of_same (claims_gateOwedPartner ..)
  | gateOwedSelf g => exact keepsLaws_of_same (claims_gateOwedSelf ..)
  | freed c x emptied wasOldest behind => exact keepsLaws_of_same (claims_freed ..)
  | freedSettle x offers => exact keepsLaws_of_same (claims_freedSettle ..)
  | halt c cause => exact keepsLaws_halt e v c cause work
  | clearReservations c => exact keepsLaws_clearReservations e v (List.Subset.refl _)
  | cancelTurns c => exact keepsLaws_of_same (claims_cancelTurns ..)
  | stopNotice c => exact keepsLaws_of_same (claims_sendStop ..)
  | waitReply c reason => exact keepsLaws_of_same (claims_sendWait ..)
  | passRest c speed => exact keepsLaws_passRest ..
  | haltingRest c speed => exact keepsLaws_haltingRest ..
  | haltingExit c => exact keepsLaws_haltingExit ..
  | routeEndRest c result => exact keepsLaws_routeEndRest e v c result work
  | resume c => exact keepsLaws_resume ..
  | recoverRest c => exact keepsLaws_recoverRest ..
  | retireRelease c => exact keepsLaws_retireRelease ..
  | retireRest c => exact keepsLaws_retireRest ..
  | fetchTrigger c => exact keepsLaws_of_same (claims_fetchTrigger ..)

/-! ## The whole of an event -/

/-- An invariant that speaks of the work still to be done holds with none left where it holds at the start and every piece
of work keeps it. -/
theorem settled_owes (P : List Task → Records → Prop)
    (hP : ∀ a rest u, P (a :: rest) u.records → P ((runTask e a u).work ++ rest) (runTask e a u).records)
    {r : Records} (h : settled e v = some r) (hv : P v.work v.records) : P [] r := by
  have steps (n : Nat) (v : Run) (h : settle n e v = some r) (hv : P v.work v.records) : P [] r := by
    induction n generalizing v with
    | zero =>
      cases hw : v.work with
      | nil =>
        rw [settle_rest 0 hw] at h
        cases h
        exact hw ▸ hv
      | cons a rest => simp [settle, hw] at h
    | succ n ih =>
      cases hw : v.work with
      | nil =>
        rw [settle_rest _ hw] at h
        cases h
        exact hw ▸ hv
      | cons a rest =>
        rw [settle_next n hw, advance_next hw] at h
        exact ih _ h (hP a rest { v with work := [] } (hw ▸ hv))
  exact steps _ v h hv

/-- What a piece of work is done for is owed no more. -/
theorem keepsLaws_runTask_next (e : Setting) (a : Task) (rest : List Task) (v : Run) :
    KeepsLaws e (a :: ((runTask e a v).work ++ rest)) v (runTask e a v) :=
  keepsLaws_runTask e a v fun _ mem => List.mem_cons_of_mem _ (List.mem_append_left _ mem)

theorem HoldingsLaw.settled {r : Records} (h : settled e v = some r) (law : HoldingsLaw e (claimsOf v.records)) :
    HoldingsLaw e (claimsOf r) :=
  settled_keeps (fun q => HoldingsLaw e (claimsOf q))
    (fun a u => (keepsLaws_runTask e a u (List.Subset.refl _)).holdings) h law

theorem WaitsLaw.settled {r : Records} (h : settled e v = some r) (law : WaitsLaw (claimsOf v.records)) :
    WaitsLaw (claimsOf r) :=
  settled_keeps (fun q => WaitsLaw (claimsOf q)) (fun a u => (keepsLaws_runTask e a u (List.Subset.refl _)).waits) h law

theorem ReservationsLaw.settled {r : Records} (h : settled e v = some r)
    (law : ReservationsLaw v.work (claimsOf v.records)) : ReservationsLaw [] (claimsOf r) := by
  refine settled_owes (fun l q => ReservationsLaw l (claimsOf q)) (fun a rest u law => ?_) h law
  have owing : a :: rest ⊆ a :: ((runTask e a u).work ++ rest) :=
    List.cons_subset_cons a (List.subset_append_right _ _)
  have after := (keepsLaws_runTask_next e a rest u).reservations (law.mono owing)
  refine ⟨after.agree, after.once, fun c some => (after.live c some).imp_right fun mem => ?_⟩
  rcases List.mem_cons.mp mem with same | mem
  · subst same
    exact absurd (reservations_clearReservations e u c) some
  · exact mem

theorem state_halt (e : Setting) (v : Run) (c : Nat) (cause : StopCause) :
    ((halt e v c cause).ctx c).state ≠ .running := by
  cases hs : (v.ctx c).state with
  | running =>
    simp only [halt, hs]
    intro running
    have quits := claims_giveUpClaims (e := e) (claims_modCtx v c fun k =>
      { k with state := .halting, stopCause := some cause }) rfl
    have halting := congrArg (fun k => CarrierClaims.state (Claims.carrier k c)) quits
    simp only [Claims.carrier_setCarrier_self] at halting
    have moves : CarrierState.halting = .running := halting.symm.trans running
    cases moves
  | halting =>
    simp only [halt, hs]
    split <;> simp [hs]
  | stopped =>
    simp only [halt, hs]
    split <;> simp [hs]
  | vacant | idle | attached => simp [halt, hs]

theorem StatesLaw.settled {r : Records} (h : settled e v = some r)
    (law : StatesLaw e.op v.work (claimsOf v.records)) : StatesLaw e.op [] (claimsOf r) := by
  refine settled_owes (fun l q => StatesLaw e.op l (claimsOf q)) (fun a rest u law => ?_) h law
  have owing : a :: rest ⊆ a :: ((runTask e a u).work ++ rest) :=
    List.cons_subset_cons a (List.subset_append_right _ _)
  have after := (keepsLaws_runTask_next e a rest u).states (law.mono owing)
  refine ⟨fun c => ?_, after.beyond⟩
  rcases after.allowed c with ok | ⟨stop, cause, mem⟩
  · exact .inl ok
  · rcases List.mem_cons.mp mem with same | mem
    · subst same
      rw [stop]
      exact .inl (bne_iff_ne.mpr (state_halt e u c cause))
    · exact .inr ⟨stop, cause, mem⟩

end Sys2Proof.Proofs
end

section
/-! The first effects of every command and event keep the laws, some of them with work that is still owed to a law. -/

namespace Sys2Proof.Proofs

open Sys2Proof.Machine Sys2Proof.Laws

/-! ## From the first effects of an event to the part after it -/

/-- The laws of the part `s` hold of the run `u`, under the setting `e`, with the work that `u` has still to do. -/
structure Starts (s : State) (e : Setting) (u : Run) : Prop where
  states : s.statesAllowed → StatesLaw e.op u.work (claimsOf u.records)
  holdings : HoldingsLaw s.setting (claimsOf s.records) → s.statesAllowed → HoldingsLaw e (claimsOf u.records)
  reservations : s.secondLaw → ReservationsLaw u.work (claimsOf u.records)
  waits : s.canonical = true → s.waitsSound → WaitsLaw (claimsOf u.records)

/-- The laws of O6 and O9 that hold of the part `s` hold of the part `t`. -/
structure LawsKept (s t : State) : Prop where
  states : s.statesAllowed → t.statesAllowed
  holdings : s.holdingsSound → t.holdingsSound
  reservations : s.secondLaw → t.secondLaw
  waits : s.canonical = true → s.waitsSound → t.waitsSound

section
variable {s t : State} {e : Setting} {u v : Run}

theorem sorted_of_canonical (h : s.canonical = true) : Table.wf s.records.cells = true := by
  simp only [State.canonical, Bool.and_eq_true] at h
  tauto

theorem sorted_map_of_canonical (h : s.canonical = true) : Table.wf s.setting.map.cells = true := by
  simp only [State.canonical, Bool.and_eq_true] at h
  tauto

/-- What an event starts with, it comes to rest with. -/
theorem lawsKept_of_starts (h : Starts s t.setting u) (rest : settled t.setting u = some t.records) : LawsKept s t where
  states allowed := statesAllowed_iff.mpr ((h.states allowed).settled rest)
  holdings sound := by
    obtain ⟨law, allowed⟩ := holdingsSound_iff.mp sound
    exact holdingsSound_iff.mpr
      ⟨(h.holdings law allowed).settled rest, statesAllowed_iff.mpr ((h.states allowed).settled rest)⟩
  reservations law := secondLaw_iff.mpr ((h.reservations law).settled rest)
  waits canonical law := by
    have after := (h.waits canonical law).settled rest
    exact (waitsSound_iff after.sorted).mpr after

/-- First effects that keep the laws, under the setting that the part has. -/
theorem starts_of_keeps (h : KeepsLaws s.setting u.work s.run u) : Starts s s.setting u where
  states allowed := h.states ((statesAllowed_iff.mp allowed).mono (List.nil_subset _))
  holdings law _ := h.holdings law
  reservations law := h.reservations ((secondLaw_iff.mp law).mono (List.nil_subset _))
  waits canonical law := h.waits ((waitsSound_iff (sorted_of_canonical canonical)).mp law)

theorem starts_of_same (h : claimsOf u.records = claimsOf s.records) : Starts s s.setting u :=
  starts_of_keeps (keepsLaws_of_same h)

theorem lawsKept_refl (s : State) : LawsKept s s := ⟨id, id, id, fun _ => id⟩

/-- A part whose records make the same claims under the same setting. -/
theorem lawsKept_of_same (claims : claimsOf t.records = claimsOf s.records) (op : t.setting.op = s.setting.op)
    (map : t.setting.map = s.setting.map) : LawsKept s t := by
  refine lawsKept_of_starts (u := Run.start t.records) ?_ (settled_rest rfl)
  obtain ⟨states, holdings, reservations, waits⟩ := starts_of_same (s := s) (u := Run.start t.records) claims
  refine ⟨op ▸ states, fun law allowed => ?_, reservations, waits⟩
  obtain ⟨room, once, apart, agree, heldOnce, vacant, lanes⟩ := holdings law allowed
  exact ⟨map ▸ room, once, apart, agree, heldOnce, vacant, op ▸ map ▸ lanes⟩

/-- The holdings depend on a setting by capacities, lanes and whether a map has passed. -/
theorem HoldingsLaw.of_setting {e' : Setting} {k : Claims} (law : HoldingsLaw e k)
    (capacity : ∀ x, e'.map.capacity x = e.map.capacity x)
    (lanes : e'.op.loaded = true → ∀ x, e'.map.isLane x = true → e.op.loaded = true ∧ e.map.isLane x = true) :
    HoldingsLaw e' k :=
  ⟨fun x => by rw [capacity]; exact law.room x, law.once, law.apart, law.agree, law.heldOnce, law.vacant,
    fun hl x hx => law.lanes (lanes hl x hx).1 x (lanes hl x hx).2⟩

/-! ## Commands and events -/

/-- What a command's plan starts with. -/
def Plan.Starts (s : State) : Plan → Prop
  | .refuse _ _ => True
  | .accept p u _ => Proofs.Starts s p.setting u

theorem lawsKept_of_command {code : Byte} {n : Nat} {plan : Plan} (h : runCommand code n s plan = .next t)
    (k : Plan.Starts s plan) : LawsKept s t := by
  rcases runCommand_next h with ⟨-, rfl⟩ | ⟨status, data, -, rfl⟩ | ⟨p, u, data, r, rfl, hr, rfl⟩
  · exact lawsKept_refl t
  · exact lawsKept_of_same rfl rfl rfl
  · exact lawsKept_of_starts k hr

theorem lawsKept_of_finish (h : finish s v = .next t) {o : State} (k : Starts o s.setting v) : LawsKept o t := by
  obtain ⟨r, hr, rfl⟩ := finish_next h
  exact lawsKept_of_starts k hr

theorem lawsKept_of_event {f : Setting → Run → Run} (h : runEvent s f = .next t)
    (k : KeepsLaws s.setting (f s.setting s.run).work s.run (f s.setting s.run)) : LawsKept s t := by
  rcases runEvent_next h with ⟨-, rfl⟩ | ⟨r, hr, rfl⟩
  · exact lawsKept_refl t
  · exact lawsKept_of_starts (starts_of_keeps k) hr

theorem plan_refused (status : Status) : Plan.Starts s (.refused status) := trivial

theorem plan_done_self (data : List Byte) : Plan.Starts s (.done s data) := starts_of_same rfl

theorem plan_acts (h : KeepsLaws s.setting v.work s.run v) : Plan.Starts s (.acts s v) := starts_of_keeps h

theorem plan_ite {p : Prop} [Decidable p] {a b : Plan} (ha : p → Plan.Starts s a) (hb : ¬p → Plan.Starts s b) :
    Plan.Starts s (if p then a else b) := by
  split
  next h => exact ha h
  next h => exact hb h

theorem plan_cellEdit {cell : Half} {plan : Plan} (h : Plan.Starts s plan) : Plan.Starts s (cellEdit s cell plan) :=
  plan_ite (fun _ => plan_ite (fun _ => h) fun _ => plan_refused _) fun _ => plan_refused _

theorem plan_carrierCommand {accepts : OpState → Bool} {carrier : Half} {fields : Bool} {plan : Plan}
    (h : accepts s.setting.op = true → carrier.toNat ≤ 255 → Plan.Starts s plan) :
    Plan.Starts s (carrierCommand s accepts carrier fields plan) := by
  refine plan_ite (fun ok => plan_ite (fun sound => h ok ?_) fun _ => plan_refused _) fun _ => plan_refused _
  rw [Bool.and_eq_true, isCarrier_iff] at sound
  exact sound.1

theorem plan_query {α : Type} (accepts : Bool) (record : Option α) (data : α → List Byte) :
    Plan.Starts s (query s accepts record data) := by
  refine plan_ite (fun _ => ?_) fun _ => plan_refused _
  cases record with
  | none => exact plan_refused _
  | some a => exact plan_done_self _

end

/-! ## The map and the records built anew (R8 to R15, R158, R159) -/

section
variable {s t : State} {e : Setting} {u : Run}

/-- No cell has a holder, a reservation or a waiter. -/
def Claims.cleared (k : Claims) : Prop := (∀ x, k.cell x = ⟨[], none, []⟩) ∧ ∀ c, k.reservations c = []

/-- Where no claim is left, every carrier is VACANT and none holds a cell, every law holds. -/
theorem starts_of_cleared (cleared : (claimsOf u.records).cleared) (seniority : u.records.seniority = [])
    (sorted : s.canonical = true → Table.wf u.records.cells = true)
    (vacant : s.statesAllowed → ∀ c, (u.ctx c).state = .vacant)
    (empty : HoldingsLaw s.setting (claimsOf s.records) → s.statesAllowed → ∀ c, (u.ctx c).held = []) : Starts s e u := by
  obtain ⟨cells, lists⟩ := cleared
  refine ⟨fun allowed => ⟨fun c => .inl ?_, fun c _ => vacant allowed c⟩, fun law allowed => ?_, fun _ => ?_,
    fun canonical _ => ?_⟩
  · have here : ((claimsOf u.records).carrier c).state = .vacant := vacant allowed c
    rw [here]
    exact allows_vacant _
  · have held (c : Nat) : ((claimsOf u.records).carrier c).held = [] := List.map_eq_nil_iff.mpr (empty law allowed c)
    refine ⟨?_, ?_, ?_, ?_, ?_, fun c _ => held c, ?_⟩
    all_goals simp [cells, held]
  · refine ⟨?_, ?_, ?_⟩
    all_goals simp [cells, lists]
  · have order : (claimsOf u.records).seniority = [] := seniority
    refine ⟨sorted canonical, ?_, ?_, ?_, ?_, ?_, ?_⟩
    all_goals simp [cells, order]

theorem cleared_unloaded (r : Records) : (claimsOf r.unloaded).cleared := ⟨fun _ => rfl, fun _ => rfl⟩

theorem cleared_reset : (claimsOf Records.reset).cleared := ⟨fun _ => rfl, fun _ => rfl⟩

theorem cleared_loaded (m : MapStore) (r : Records) : (claimsOf (r.loaded m)).cleared := by
  refine ⟨fun x => ?_, fun _ => rfl⟩
  have free : Table.at (r.loaded m).cells CellRun.free x = CellRun.free := by
    have found : Table.find (r.loaded m).cells x = (Table.find m.cells x).map fun _ => CellRun.free :=
      Table.find_map m.cells (fun _ => CellRun.free) x
    rw [Table.at, found]
    cases Table.find m.cells x <;> rfl
  change cellClaims (Table.at (r.loaded m).cells CellRun.free x) = _
  rw [free]
  rfl

/-- An operating state that allows VACANT alone. -/
theorem vacant_of_unmapped (allowed : s.statesAllowed) (h : s.setting.op = .unconfigured ∨ s.setting.op = .loading)
    (c : Nat) : (s.ctx c).state = .vacant := by
  have ok := allowed.1 c
  rcases h with h | h <;> rw [h] at ok <;> exact beq_iff_eq.mp ok

theorem starts_beginMap (vacant : s.statesAllowed → ∀ c, (s.ctx c).state = .vacant) :
    Plan.Starts s (.done s.beginMap []) :=
  starts_of_cleared (u := Run.start s.beginMap.records) (cleared_unloaded s.records) rfl (fun _ => rfl) vacant
    fun law allowed c => List.map_eq_nil_iff.mp (law.vacant c (vacant allowed c))

theorem lawsKept_mapBegin (h : execMapBegin s = .next t) : LawsKept s t := by
  refine lawsKept_of_command h ?_
  split
  next h => exact starts_beginMap fun allowed => vacant_of_unmapped allowed (.inl h)
  next h => exact starts_beginMap fun allowed => vacant_of_unmapped allowed (.inr h)
  · refine plan_ite (fun _ => plan_refused _) fun nobody => starts_beginMap fun allowed c => ?_
    by_cases hc : c < Config.carriers
    · by_contra enrolled
      exact nobody (anyEnrolled_iff.mpr ⟨c, hc, enrolled⟩)
    · exact allowed.2 c (Nat.le_of_not_lt hc)
  · exact plan_refused _
  · exact plan_refused _

/-- Records of the map may change in LOADING, where no carrier is enrolled and no cell held. -/
theorem starts_mapRecord {α : Type} (fields : Option α) (store : α → MapStore) :
    Plan.Starts s (mapRecord s fields store) := by
  refine plan_ite (fun loading => ?_) fun _ => plan_refused _
  cases fields with
  | none => exact plan_refused _
  | some a =>
    obtain ⟨states, -, reservations, waits⟩ := starts_of_same (s := s) (u := s.run) rfl
    refine ⟨states, fun law allowed => ?_, reservations, waits⟩
    have empty (x : Nat) : ((claimsOf s.records).cell x).holders = [] := by
      refine List.eq_nil_iff_forall_not_mem.mpr fun c holds => ?_
      have held := (law.agree x c).mp holds
      rw [law.vacant c (vacant_of_unmapped allowed (.inr loading) c)] at held
      cases held
    refine ⟨fun x => ?_, law.once, law.apart, law.agree, law.heldOnce, law.vacant, fun loaded => ?_⟩
    · change ((claimsOf s.records).cell x).holders.length ≤ _
      rw [empty]
      exact Nat.zero_le _
    · change s.setting.op.loaded = true at loaded
      rw [loading] at loaded
      cases loaded

theorem lawsKept_mapEnd (h : execMapEnd s = .next t) : LawsKept s t := by
  refine lawsKept_of_command h (plan_ite (fun loading => ?_) fun _ => plan_refused _)
  split
  · trivial
  · have vacant (allowed : s.statesAllowed) := vacant_of_unmapped allowed (.inr loading)
    refine starts_of_cleared (u := Run.start s.completeMap.records) (cleared_loaded s.setting.map s.records) rfl
      (fun canonical => ?_) vacant fun law allowed c => List.map_eq_nil_iff.mp (law.vacant c (vacant allowed c))
    exact Table.wf_map s.setting.map.cells (fun _ _ => CellRun.free) (sorted_map_of_canonical canonical)

/-- RESTART leaves every carrier VACANT, with nothing held. -/
theorem ctx_restarted (m : MapStore) (r : Records) (c : Nat) :
    (Table.at (r.restarted m).carriers Context.vacant c).state = .vacant ∧
      (Table.at (r.restarted m).carriers Context.vacant c).held = [] := by
  have found (t : Table Context) (ht : ∀ p ∈ t, p.2.state = .vacant ∧ p.2.held = []) :
      (Table.at t Context.vacant c).state = .vacant ∧ (Table.at t Context.vacant c).held = [] := by
    induction t with
    | nil => exact ⟨rfl, rfl⟩
    | cons p rest ih =>
      by_cases here : p.1 = c
      · simpa [Table.at, Table.find, here] using ht p (List.mem_cons_self ..)
      · simpa [Table.at, Table.find, here] using ih fun q hq => ht q (List.mem_cons_of_mem _ hq)
  refine found _ fun p hp => ?_
  obtain ⟨q, -, rfl⟩ := List.mem_map.mp (List.mem_of_mem_filter hp)
  exact ⟨rfl, rfl⟩

theorem starts_restart : Plan.Starts s
    (.done { s.enter .standby with records := s.records.restarted s.setting.map } []) :=
  starts_of_cleared (u := Run.start (s.records.restarted s.setting.map)) (cleared_loaded s.setting.map s.records) rfl
    (fun canonical => Table.wf_map s.setting.map.cells (fun _ _ => CellRun.free) (sorted_map_of_canonical canonical))
    (fun _ c => (ctx_restarted s.setting.map s.records c).1) fun _ _ c => (ctx_restarted s.setting.map s.records c).2

theorem lawsKept_hardReset (pins : Pins) : LawsKept s { s.hardReset with pins := pins } :=
  lawsKept_of_starts (u := Run.start s.hardReset.records)
    (starts_of_cleared cleared_reset rfl (fun _ => rfl) (fun _ _ => rfl) fun _ _ _ => rfl) (settled_rest rfl)

end

end Sys2Proof.Proofs
end

section
/-! Every command and event keeps the laws of holders, reservations, carrier states and wait queues (O6, O9). -/

namespace Sys2Proof.Proofs

open Sys2Proof.Machine Sys2Proof.Laws

/-! ## The operating states (R155 to R157) -/

section
variable {s t : State} {e : Setting} {owed : List Task} {v u : Run} {c x : Nat}

/-- Where a map has passed, another operating state with a passed map needs the carriers' states alone. -/
theorem starts_enter {o : OpState} {l : List Task} (loaded : s.setting.op.loaded = true)
    (states : s.statesAllowed → StatesLaw o l (claimsOf s.records)) :
    Starts s (s.enter o).setting (s.run.later l) := by
  obtain ⟨-, holdings, reservations, waits⟩ := starts_of_same (s := s) (u := s.run.later l) rfl
  exact ⟨states, fun law allowed => (holdings law allowed).of_setting (fun _ => rfl) fun _ x hx => ⟨loaded, hx⟩,
    reservations, waits⟩

theorem starts_active {l : List Task} (loaded : s.setting.op.loaded = true) :
    Starts s (s.enter .active).setting (s.run.later l) :=
  starts_enter loaded fun allowed => ⟨fun _ => .inl rfl, allowed.2⟩

/-- ALL-STOP entry owes every RUNNING carrier a halt (R156). -/
theorem starts_allStop (active : s.setting.op = .active) : Starts s (s.enter .allStop).setting (s.run.later s.haltAll) := by
  refine starts_enter (by rw [active]; rfl) fun allowed => ⟨fun c => ?_, allowed.2⟩
  by_cases running : (s.ctx c).state = .running
  · refine .inr ⟨rfl, .allStop, List.mem_map_of_mem (List.mem_filter.mpr ⟨List.mem_range.mpr ?_, by simp [running]⟩)⟩
    by_contra beyond
    have vacant := allowed.2 c (Nat.le_of_not_lt beyond)
    rw [running] at vacant
    cases vacant
  · exact .inl (bne_iff_ne.mpr running)

theorem lawsKept_activate (h : execActivate s = .next t) : LawsKept s t := by
  refine lawsKept_of_command h (plan_ite (fun ready => ?_) fun _ => plan_refused _)
  rw [Bool.and_eq_true, decide_eq_true_eq] at ready
  obtain ⟨standby, -⟩ := ready
  exact starts_active (l := []) (by rw [standby]; rfl)

theorem lawsKept_allStop (h : execAllStop s = .next t) : LawsKept s t := by
  refine lawsKept_of_command h ?_
  split
  next active => exact starts_allStop active
  · exact plan_done_self _
  · exact plan_refused _
  · exact plan_refused _
  · exact plan_refused _

theorem lawsKept_resumeAll (h : execResumeAll s = .next t) : LawsKept s t := by
  refine lawsKept_of_command h (plan_ite (fun ready => ?_) fun _ => plan_refused _)
  rw [Bool.and_eq_true, decide_eq_true_eq] at ready
  obtain ⟨allStop, -⟩ := ready
  exact starts_active (by rw [allStop]; rfl)

theorem lawsKept_estopNLevelChange {level : Level} (h : execEstopNLevelChange level s = .next t) : LawsKept s t := by
  simp only [execEstopNLevelChange] at h
  split at h
  · cases h
    exact lawsKept_refl s
  · split at h
    · cases h
      exact lawsKept_of_same rfl rfl rfl
    · split at h
      · cases h
        exact lawsKept_of_same rfl rfl rfl
      · split at h
        next active =>
          refine lawsKept_of_finish h ?_
          obtain ⟨states, holdings, reservations, waits⟩ := starts_allStop (s := s) active
          exact ⟨states, holdings, reservations, waits⟩
        next =>
          cases h
          exact lawsKept_of_same rfl rfl rfl

/-! ## Edits (R16 to R19, R130) -/

theorem starts_setLimit (x limit : Nat) (lowered : Bool) : Plan.Starts s
    (.acts (s.setMap (s.setting.map.withLimit x limit))
      (limitRun (s.setMap (s.setting.map.withLimit x limit)).setting s.run x lowered)) := by
  have kind (y : Nat) : (s.setting.map.withLimit x limit).kindOf y = s.setting.map.kindOf y := by
    simp only [MapStore.kindOf, find_withLimit, Option.map_map]
    congr 1
    funext k
    simp only [Function.comp]
    split <;> rfl
  have places (y : Nat) : (s.setting.map.withLimit x limit).capacity y = s.setting.map.capacity y := by
    simp only [MapStore.capacity, find_withLimit, Option.map_map]
    congr 2
    funext k
    simp only [Function.comp]
    split <;> rfl
  obtain ⟨states, holdings, reservations, waits⟩ := starts_of_same (s := s)
    (claims_limitRun (s.setMap (s.setting.map.withLimit x limit)).setting s.run x lowered)
  refine ⟨states, fun law allowed => (holdings law allowed).of_setting places fun loaded y lane => ⟨loaded, ?_⟩,
    reservations, waits⟩
  change ((s.setting.map.withLimit x limit).kindOf y == some .lane) = true at lane
  rwa [kind] at lane

theorem lawsKept_gateReset {gate : Byte} (h : execGateReset gate s = .next t) : LawsKept s t := by
  refine lawsKept_of_command h (plan_ite (fun _ => ?_) fun _ => plan_refused _)
  split
  · exact plan_refused _
  · exact plan_ite (fun _ => plan_acts (keepsLaws_of_same rfl)) fun _ => plan_refused _

/-! ## Carrier commands (R82, R83, R98, R99) -/

theorem keepsLaws_retireRun (e : Setting) (v : Run) (c : Nat) : KeepsLaws e owed v (retireRun e v c) :=
  (keepsLaws_leaveWaiting ..).then ((claims_later ..).trans (claims_modCtx_same _ rfl))

theorem keepsLaws_attachRun (e : Setting) (v : Run) (c : Nat) (a : Address) (idle : (v.ctx c).state = .idle)
    (active : e.op = .active) : KeepsLaws e owed v (attachRun e v c a) := by
  have idle : ((claimsOf v.records).carrier c).state = .idle := idle
  refine KeepsLaws.then (u := v.modCtx c _) (keepsLaws_modCtx (turns_of_idle ?_ rfl ?_ ?_ fun _ => ?_))
    (claims_setEngine ..)
  · exact fun runs => by simp [runs.1] at idle
  · simp [idle]
  · simp [carrierClaims, Context.attached]
  · exact allows_active _ active

theorem lawsKept_attach {carrier : Half} {address : Address} (h : execAttach carrier address s = .next t) :
    LawsKept s t := by
  refine lawsKept_of_command h (plan_carrierCommand fun active _ => plan_ite (fun ready => ?_) fun _ => plan_refused _)
  rw [Bool.and_eq_true, decide_eq_true_eq] at ready
  obtain ⟨idle, -⟩ := ready
  exact plan_acts (keepsLaws_attachRun s.setting s.run carrier.toNat address idle (beq_iff_eq.mp active))

theorem plan_halt (c : Nat) (cause : StopCause) : Plan.Starts s (.acts s (halt s.setting s.run c cause)) :=
  plan_acts (keepsLaws_halt s.setting s.run c cause (List.Subset.refl _))

/-- The claims after ENROL: the carrier IDLE at the tail of the cell's holder list, with no other claim (R82). -/
def Claims.enrol (k : Claims) (c x : Nat) : Claims :=
  (k.setCell x { k.cell x with holders := (k.cell x).holders ++ [c] }).setCarrier c
    { state := .idle, contact := Context.vacant.contact, held := [x], wait := none }

theorem claims_enrolRun (e : Setting) (v : Run) (c cls : Nat) (r : ClassRec) (x base size : Nat) :
    claimsOf (enrolRun e v c cls r x base size).records = (claimsOf v.records).enrol c x := by
  rw [enrolRun, claims_modCtx, claims_recompute, claims_setCell]
  rfl

/-- On claims under the law of holders, ENROL is a carrier that becomes IDLE and is granted its cell. -/
theorem enrol_eq_grant {k : Claims} (free : (k.cell x).reservedFor = none) : k.enrol c x =
    (k.setCarrier c { state := .idle, contact := Context.vacant.contact, held := [], wait := none }).grant c x := by
  have unreserved : ¬((k.setCarrier c
      { state := .idle, contact := Context.vacant.contact, held := [], wait := none }).cell x).reservedFor = some c := by
    simp [free]
  rw [Claims.grant, if_neg unreserved, if_neg unreserved]
  simp [Claims.enrol, Claims.setCarrier, Claims.setCell]

/-- A VACANT carrier is enrolled on a cell with room for it. -/
theorem keeps_enrol {k : Claims} (vacant : (k.carrier c).state = .vacant) (within : c < Config.carriers)
    (allowed : e.op.allows .idle = true)
    (room : HoldingsLaw e k → (k.cell x).holders.length < e.map.capacity x ∧ (k.cell x).reservedFor = none) :
    Keeps e owed k (k.enrol c x) := by
  have idle : ¬(k.carrier c).runsLive := fun runs => by simp [runs.1] at vacant
  have carriers {d : Nat} (hd : d ≠ c) : (k.enrol c x).carrier d = k.carrier d :=
    Claims.carrier_setCarrier_other _ _ hd
  have cells (y : Nat) : ((k.enrol c x).cell y).reservedFor = (k.cell y).reservedFor ∧
      ((k.enrol c x).cell y).queue = (k.cell y).queue := by
    by_cases hy : y = x
    · subst hy
      simp [Claims.enrol]
    · simp [Claims.enrol, hy]
  constructor
  · intro law
    refine ⟨fun d => ?_, fun d hd => ?_⟩
    · by_cases hdc : d = c
      · subst hdc
        exact .inl (by simpa [Claims.enrol] using allowed)
      · rw [carriers hdc]
        exact law.allowed d
    · have hdc : d ≠ c := fun same => absurd within (Nat.not_lt_of_le (same ▸ hd))
      rw [carriers hdc]
      exact law.beyond d hd
  · intro law
    obtain ⟨short, free⟩ := room law
    have nothing : (k.carrier c).held = [] := law.vacant c vacant
    rw [enrol_eq_grant free]
    refine (keeps_grant (owed := owed) (k := k.setCarrier c _) ?_ ⟨?_, ?_⟩ (.inl free)).holdings ?_
    · simp
    · exact Nat.lt_of_le_of_lt (List.length_filter_le ..) short
    · simp
    · refine law.of_same (fun _ => rfl) (fun _ => rfl) (fun d => ?_) fun d => ?_
      · by_cases hdc : d = c
        · subst hdc
          simp [nothing]
        · rw [Claims.carrier_setCarrier_other _ _ hdc]
      · by_cases hdc : d = c
        · exact fun _ => .inl (hdc ▸ vacant)
        · rw [Claims.carrier_setCarrier_other _ _ hdc]
          exact .inl
  · intro law
    refine law.of_same (fun y => (cells y).1) (fun _ => rfl) fun d runs _ => ?_
    have hdc : d ≠ c := fun same => idle (same ▸ runs)
    rw [carriers hdc]
    exact .inl runs
  · intro law
    have free := law.unqueued_of_not_runsLive idle
    have others (y : Nat) (w : Waiter) (hw : w ∈ ((k.enrol c x).cell y).queue) : w.carrier ≠ c :=
      free y w ((cells y).2 ▸ hw)
    exact law.of_fewer rfl law.seniorOnce (fun y => by rw [(cells y).2]) (fun _ _ _ _ _ => rfl)
      (fun y w hw => law.senior y w ((cells y).2 ▸ hw)) (fun y w hw runs => by rwa [carriers (others y w hw)])
      fun y w hw => by rw [carriers (others y w hw)]

theorem starts_enrol (carrier : Half) (fields : Bool) (cls x base size : Nat) : Plan.Starts s
    (carrierCommand s OpState.enrols carrier fields (enrolPlan s carrier.toNat cls x base size)) := by
  refine plan_carrierCommand fun enrols within => ?_
  have loaded : s.setting.op.loaded = true := by
    rcases (enrols_iff _).mp enrols with h | h <;> rw [h] <;> rfl
  have allowed : s.setting.op.allows .idle = true := by
    rcases (enrols_iff _).mp enrols with h | h <;> rw [h] <;> rfl
  refine plan_ite (fun _ => plan_refused _) fun vacant => ?_
  split
  · exact plan_refused _
  next r _ =>
    refine plan_ite (fun standing => plan_ite (fun room => plan_acts ?_) fun _ => plan_refused _) fun _ => plan_refused _
    rw [KeepsLaws, claims_enrolRun]
    refine keeps_enrol (not_not.mp vacant) (Nat.lt_succ_of_le within) allowed fun law => ?_
    obtain ⟨q, found, -, -⟩ := (enrolCell_iff _ _).mp standing
    rw [Bool.and_eq_true, Bool.and_eq_true, enrolRoom_iff found] at room
    obtain ⟨⟨room, -⟩, -⟩ := room
    have places : s.setting.map.capacity x = q.places := by simp [MapStore.capacity, found]
    have lane : s.setting.map.isLane x = true ↔ q.kind = .lane := by
      simp [MapStore.isLane, MapStore.kindOf, found]
    rw [places]
    split at room
    next isLane =>
      have capacity : q.places = q.capacity.getD 1 := by simp [CellStatic.places, isLane]
      rw [capacity]
      exact ⟨room, law.lanes loaded x (lane.mpr isLane)⟩
    next other =>
      have single : q.places = 1 := by
        cases hq : q.kind <;> simp [CellStatic.places, hq] at other ⊢
      obtain ⟨empty, free⟩ := room
      have empty : ((claimsOf s.records).cell x).holders = [] := empty
      refine ⟨?_, free⟩
      change ((claimsOf s.records).cell x).holders.length < _
      rw [single, empty]
      exact Nat.one_pos

/-! ## Pins, timers and links -/

theorem lawsKept_readyChange {gate : Fin 16} {level : Level} (h : execReadyChange gate level s = .next t) :
    LawsKept s t := by
  simp only [execReadyChange] at h
  split at h
  · cases h
    exact lawsKept_refl s
  · split at h
    · cases h
      exact lawsKept_of_same rfl rfl rfl
    · obtain ⟨states, holdings, reservations, waits⟩ := starts_of_same (s := s) (claims_readyRun
        { s.setting with ready := Table.put s.setting.ready .low gate level } s.run gate)
      refine lawsKept_of_finish h ⟨states, fun law allowed => ?_, reservations, waits⟩
      exact (holdings law allowed).of_setting (fun _ => rfl) fun loaded x lane => ⟨loaded, lane⟩

theorem lawsKept_pePerstNAsserted (h : execPePerstNAsserted s = .next t) : LawsKept s t := by
  unfold execPePerstNAsserted at h
  split at h
  · cases h
    exact lawsKept_of_same rfl rfl rfl
  · exact lawsKept_of_finish h (starts_of_keeps (keepsLaws_perstAsserted ..))

theorem lawsKept_shiftBuffer {n : Nat} (h : shiftBuffer n s = .next t) : LawsKept s t := by
  unfold shiftBuffer at h
  split at h
  · cases h
    exact lawsKept_refl s
  · cases h
    exact lawsKept_of_same rfl rfl rfl

theorem lawsKept_unknownCommand {frame : List Byte} (h : execUnknownCommand frame s = .next t) : LawsKept s t := by
  unfold execUnknownCommand at h
  split at h
  · exact lawsKept_shiftBuffer h
  · split at h
    · exact lawsKept_shiftBuffer h
    · exact lawsKept_of_command h (plan_refused _)

/-- A tick changes of every record what no law reads (R162). -/
theorem claims_ticked (s : State) : claimsOf s.ticked.records = claimsOf s.records := by
  have cell (r : CellRun) : cellClaims r.tick = cellClaims r := by
    unfold CellRun.tick
    split
    · rfl
    · split <;> rfl
  have carrier (k : Context) : carrierClaims k.tick = carrierClaims k := by
    unfold Context.tick
    split <;> rfl
  have cells : (claimsOf s.ticked.records).cell = (claimsOf s.records).cell := by
    funext x
    have found := Table.find_map s.records.cells CellRun.tick x
    change cellClaims ((Table.find (s.records.cells.map _) x).getD _) = cellClaims ((Table.find s.records.cells x).getD _)
    rw [found]
    cases Table.find s.records.cells x with
    | none => rfl
    | some r => exact cell r
  have carriers : (claimsOf s.ticked.records).carrier = (claimsOf s.records).carrier := by
    funext c
    have found := Table.find_map s.records.carriers Context.tick c
    change carrierClaims ((Table.find (s.records.carriers.map _) c).getD _) =
      carrierClaims ((Table.find s.records.carriers c).getD _)
    rw [found]
    cases Table.find s.records.carriers c with
    | none => rfl
    | some k => exact carrier k
  have sorted : (claimsOf s.ticked.records).sorted = (claimsOf s.records).sorted := by
    change Table.wf (s.records.cells.map _) = Table.wf s.records.cells
    rw [Bool.eq_iff_iff, Table.wf_iff, Table.wf_iff, List.map_map]
    rfl
  calc claimsOf s.ticked.records
      = { claimsOf s.records with
          sorted := (claimsOf s.ticked.records).sorted
          cell := (claimsOf s.ticked.records).cell
          carrier := (claimsOf s.ticked.records).carrier } := rfl
    _ = claimsOf s.records := by rw [cells, carriers, sorted]

theorem lawsKept_tick (h : execTick s = .next t) : LawsKept s t := by
  unfold execTick at h
  split at h
  · cases h
    exact lawsKept_refl s
  · cases h
    exact lawsKept_of_same (claims_ticked s) rfl rfl

theorem keepsLaws_goodFrame (e : Setting) (v : Run) (l c : Nat) (q : Request) :
    KeepsLaws e owed v (goodFrame e v l c q) := (keepsLaws_frameArrives ..).after (claims_setLink ..)

theorem keepsLaws_characterRun (e : Setting) (v : Run) (l : Nat) (char : Byte) (framingError : Bool) :
    KeepsLaws e owed v (characterRun e v l char framingError) := by
  simp only [characterRun]
  split
  · exact .refl ..
  · exact .refl ..
  · exact (keepsLaws_frameArrives ..).after (claims_setLink ..)

/-! ## Every command and event -/

theorem lawsKept_exec (i : Instr) (h : exec i s = .next t) : LawsKept s t := by
  cases i with
  | mapBegin => exact lawsKept_mapBegin h
  | mapCell => exact lawsKept_of_command h (starts_mapRecord ..)
  | mapCorridor => exact lawsKept_of_command h (starts_mapRecord ..)
  | mapGate => exact lawsKept_of_command h (starts_mapRecord ..)
  | mapClass => exact lawsKept_of_command h (starts_mapRecord ..)
  | mapEnd => exact lawsKept_mapEnd h
  | activate => exact lawsKept_activate h
  | allStop => exact lawsKept_allStop h
  | resumeAll => exact lawsKept_resumeAll h
  | restart => exact lawsKept_of_command h (plan_ite (fun _ => starts_restart) fun _ => plan_refused _)
  | closeCell cell => exact lawsKept_of_command h (plan_cellEdit (plan_acts (keepsLaws_of_same (claims_closeRun ..))))
  | openCell cell => exact lawsKept_of_command h (plan_cellEdit (plan_acts (keepsLaws_of_same (claims_openRun ..))))
  | setLimit cell limit =>
    exact lawsKept_of_command h (plan_cellEdit (plan_ite (fun _ => plan_refused _) fun _ => starts_setLimit ..))
  | gateReset gate => exact lawsKept_gateReset h
  | enrol => exact lawsKept_of_command h (starts_enrol ..)
  | attach => exact lawsKept_attach h
  | detach carrier =>
    refine lawsKept_of_command h (plan_carrierCommand fun _ _ => ?_)
    split
    · exact plan_acts (keepsLaws_routeEnd ..)
    · exact plan_halt ..
    all_goals exact plan_refused _
  | stop carrier =>
    exact lawsKept_of_command h
      (plan_carrierCommand fun _ _ => plan_ite (fun _ => plan_halt ..) fun _ => plan_refused _)
  | recover carrier =>
    refine lawsKept_of_command h (plan_carrierCommand fun _ _ => plan_ite (fun _ => plan_acts ?_) fun _ => plan_refused _)
    exact (keepsLaws_trim ..).then (claims_later ..)
  | retire carrier =>
    refine lawsKept_of_command h (plan_carrierCommand fun _ _ => plan_ite (fun _ => plan_refused _) fun _ => plan_acts ?_)
    exact keepsLaws_retireRun ..
  | clearAlerts mask =>
    simp only [exec, execClearAlerts] at h
    exact lawsKept_of_command h (starts_of_same (s := s) (u := Run.start _) rfl)
  | setAlertEnable mask =>
    simp only [exec, execSetAlertEnable] at h
    exact lawsKept_of_command h (starts_of_same (s := s) (u := Run.start _) rfl)
  | readStatus =>
    simp only [exec, execReadStatus] at h
    exact lawsKept_of_command h (plan_done_self _)
  | readCell cell => exact lawsKept_of_command h (plan_query ..)
  | readCarrier carrier => exact lawsKept_of_command h (plan_query ..)
  | readCorridor corridor => exact lawsKept_of_command h (plan_query ..)
  | readGate gate => exact lawsKept_of_command h (plan_query ..)
  | readDeadlock record => exact lawsKept_of_command h (plan_query ..)
  | readLink link clear =>
    refine lawsKept_of_command h (plan_ite (fun _ => ?_) fun _ => plan_refused _)
    split
    · exact plan_done_self _
    · exact starts_of_same rfl
  | readTransfer bytes => exact lawsKept_shiftBuffer h
  | unknownCommand frame => exact lawsKept_unknownCommand h
  | estopNLevelChange level => exact lawsKept_estopNLevelChange h
  | hardReset =>
    cases h
    exact lawsKept_hardReset _
  | resetNRelease clrate =>
    change execResetNRelease clrate s = _ at h
    unfold execResetNRelease at h
    split at h
    · cases h
      exact lawsKept_hardReset _
    · cases h
      exact lawsKept_refl s
  | tick => exact lawsKept_tick h
  | clearanceCountdownExpiry cell =>
    simp only [exec, execClearanceCountdownExpiry] at h
    exact lawsKept_of_event h (keepsLaws_of_same (claims_clearanceRun ..))
  | silenceLimit carrier =>
    simp only [exec, execSilenceLimit] at h
    exact lawsKept_of_event h (keepsLaws_silenceReached _ _ _ (List.Subset.refl _))
  | lostLimit carrier =>
    simp only [exec, execLostLimit] at h
    exact lawsKept_of_event h (keepsLaws_lostReached _ _ _ (List.Subset.refl _))
  | callTimerExpiry gate =>
    simp only [exec, execCallTimerExpiry] at h
    refine lawsKept_of_event h (keepsLaws_of_same ?_)
    rw [claims_ite, claims_gateFaults, ite_self]
  | holdOpenExpiry gate =>
    simp only [exec, execHoldOpenExpiry] at h
    refine lawsKept_of_event h (keepsLaws_of_same ?_)
    rw [claims_ite, claims_gateShut, ite_self]
  | readTimerExpiry => exact lawsKept_of_event h (keepsLaws_readTimerExpires ..)
  | readyChange gate level => exact lawsKept_readyChange h
  | pePerstNAsserted => exact lawsKept_pePerstNAsserted h
  | pePerstNReleased =>
    cases h
    exact lawsKept_of_same rfl rfl rfl
  | ask =>
    simp only [exec, execAsk] at h
    exact lawsKept_of_event h (keepsLaws_goodFrame ..)
  | pass =>
    simp only [exec, execPass] at h
    exact lawsKept_of_event h (keepsLaws_goodFrame ..)
  | done =>
    simp only [exec, execDone] at h
    exact lawsKept_of_event h (keepsLaws_goodFrame ..)
  | frameFailure link failure =>
    simp only [exec, execFrameFailure] at h
    exact lawsKept_of_event h (keepsLaws_of_same rfl)
  | readCompletion number status data =>
    simp only [exec, execReadCompletion] at h
    exact lawsKept_of_event h (keepsLaws_completionArrives ..)
  | serveFetch =>
    simp only [exec, execServeFetch] at h
    exact lawsKept_of_event h (keepsLaws_of_same (claims_serveFetch ..))
  | serveWriteBack =>
    simp only [exec, execServeWriteBack] at h
    exact lawsKept_of_event h (keepsLaws_of_same (claims_serveWriteBack ..))
  | transmissionStart link =>
    simp only [exec, execTransmissionStart] at h
    exact lawsKept_of_event h (keepsLaws_of_same rfl)
  | transmissionComplete link =>
    simp only [exec, execTransmissionComplete] at h
    exact lawsKept_of_event h (keepsLaws_of_same rfl)
  | characterReceived link char framingError =>
    simp only [exec, execCharacterReceived] at h
    exact lawsKept_of_event h (keepsLaws_characterRun ..)

/-- A step takes the front of the queue, which no law reads. -/
theorem lawsKept_step (h : step s = .next t) : LawsKept s t := by
  unfold step at h
  split at h
  · cases h
    exact lawsKept_refl s
  next i rest _ =>
    obtain ⟨states, holdings, reservations, waits⟩ := lawsKept_exec i h
    exact ⟨states, holdings, reservations, waits⟩

end

/-- Settles O6: every command and event keeps the laws of holders and reservations, piece of work by piece of work. -/
theorem firstLawKept : Obligations.FirstLawKept :=
  ⟨fun _ _ sound h => (lawsKept_step h).holdings sound, fun _ _ law h => (lawsKept_step h).reservations law⟩

/-- Settles O9: every command and event keeps the carrier states and the wait queues, piece of work by piece of work. -/
theorem carrierStatesKept : Obligations.CarrierStatesKept :=
  ⟨fun _ _ allowed h => (lawsKept_step h).states allowed,
    fun _ _ canonical sound h => (lawsKept_step h).waits canonical sound⟩

end Sys2Proof.Proofs
end

section
/-! The expiry of a clearance countdown (O42): the cell at its expired record, its waiters recomputed, and the offer of the
cell where it is not closed. -/

namespace Sys2Proof.Proofs

open Sys2Proof.Machine Sys2Proof.Laws

section
variable {s t : State} {x : Nat} {r : CellRun} {u : Run}

/-- What a run leaves of the part that sets the record of one cell and otherwise changes causes and edges alone. -/
theorem frame_of_setCell (h : CausesOnly (s.run.setCell x r) u) (others : ∀ y, y ≠ x → u.cell y = s.cell y)
    (ht : t.records = u.records) : (t.cell x).butCauses = r.butCauses ∧ (∀ y, y ≠ x → t.cell y = s.cell y) ∧
      (∀ c, (t.ctx c).butEdge = (s.ctx c).butEdge) ∧ t.records.reservations = s.records.reservations ∧
      t.records.corridors = s.records.corridors ∧ t.records.gates = s.records.gates ∧
      t.records.links = s.records.links ∧ t.records.engine = s.records.engine := by
  have cell (y : Nat) : t.cell y = u.cell y := by rw [State.cell, ht]; rfl
  have ctx (c : Nat) : t.ctx c = u.ctx c := by rw [State.ctx, ht]; rfl
  refine ⟨?_, fun y hy => (cell y).trans (others y hy), fun c => (congrArg _ (ctx c)).trans (h.ctx c), ?_⟩
  · rw [cell, h.cell, Run.cell_setCell_self]
  · rw [ht, h.records]
    exact ⟨rfl, rfl, rfl, rfl, rfl⟩

/-- A cell set to the record `r`, its waiters recomputed, and an offer that takes nobody (R31, R38, R39). -/
theorem settled_recompute_offers_nobody (h : OffersNobody s x r) :
    settled s.setting ((recompute s.setting (s.run.setCell x r) x).later [.offer x]) =
      some (recompute s.setting (s.run.setCell x r) x).records := by
  have causes : CausesOnly (s.run.setCell x r) (recompute s.setting (s.run.setCell x r) x) := recompute_causesOnly ..
  refine settled_offer_nobody causes.work causes.deferred ?_
  rcases h with empty | inactive | ⟨w, rest, hq, test⟩
  · exact .inl (queue_nil_of_causesOnly causes (by rw [Run.cell_setCell_self]; exact empty))
  · exact .inr (.inl inactive)
  · obtain ⟨w', rest', hq', carrier, step⟩ := queue_of_causesOnly causes (x := x) (by rw [Run.cell_setCell_self]; exact hq)
    refine .inr (.inr ⟨w', rest', hq', ?_⟩)
    rw [carrier, step, (sameRights_of_causesOnly causes).grantTest]
    exact test

/-- The record of a cell whose clearance countdown has expired (R37). -/
def CellRun.expired (r : CellRun) : CellRun := { r with countdown := 0, due := false }

/-- The run of an expiry that has come due: the offer is owed where the cell is not closed (R37). -/
theorem clearanceRun_due (due : (s.cell x).due = true) : clearanceRun s.setting s.run x =
    if (s.cell x).closed then recompute s.setting (s.run.setCell x (CellRun.expired (s.cell x))) x
    else (recompute s.setting (s.run.setCell x (CellRun.expired (s.cell x))) x).later [.offer x] := if_pos due

theorem clearanceCountdownExpiry_settles {cell : Fin 2048} (hs : s.inService) {q : Records}
    (hq : settled s.setting (clearanceRun s.setting s.run cell) = some q) :
    exec (.clearanceCountdownExpiry cell) s = .next { s with records := q } := by
  change execClearanceCountdownExpiry cell s = _
  exact runEvent_of_settled hs hq

theorem settled_clearanceRun_nobody (due : (s.cell x).due = true)
    (nobody : (s.cell x).closed = true ∨ OffersNobody s x (CellRun.expired (s.cell x))) :
    settled s.setting (clearanceRun s.setting s.run x) =
      some (recompute s.setting (s.run.setCell x (CellRun.expired (s.cell x))) x).records := by
  rw [clearanceRun_due due]
  by_cases closed : (s.cell x).closed = true
  · rw [if_pos closed]
    exact settled_rest (recompute_causesOnly ..).work
  · rw [if_neg closed]
    exact settled_recompute_offers_nobody (nobody.resolve_left closed)

end

/-- Settles O42: what the expired record and its recomputation leave, and the offer that takes nobody or grants. -/
theorem clearanceExpires : Obligations.ClearanceExpires := by
  unfold Obligations.ClearanceExpires
  intro cell s hs due expired
  refine ⟨fun opened => ?_, fun nobody => ?_⟩
  · intro w wait run reason c e v u ha hx queued runs waiting isCell here edgeless unqueued grantable goes next plain stops hr
    obtain ⟨same, q, settles, leaves⟩ := settled_recompute_offer_grants ha hx queued runs waiting isCell here edgeless
      unqueued grantable goes next plain stops hr
    have offers : clearanceRun s.setting s.run cell = (s.run.setCell cell expired).later [.offer cell] := by
      have owed := clearanceRun_due due
      rw [if_neg (by simp [opened])] at owed
      exact owed.trans (congrArg (fun v => Run.later v _) same)
    exact ⟨_, clearanceCountdownExpiry_settles hs (offers ▸ settles), leaves _ rfl rfl⟩
  · have others (y : Nat) (hy : y ≠ cell.val) :
        (recompute s.setting (s.run.setCell cell expired) cell).cell y = s.cell y := by
      rw [recompute_other_cell s.setting _ _ hy, Run.cell_setCell_other _ _ hy]
      rfl
    obtain ⟨countdown, cells, ctx, reservations, corridors, gates, links, engine⟩ := frame_of_setCell
      (t := { s with records := (recompute s.setting (s.run.setCell cell expired) cell).records })
      (recompute_causesOnly ..) others rfl
    exact ⟨_, clearanceCountdownExpiry_settles hs (settled_clearanceRun_nobody due nobody), countdown, cells, ctx,
      reservations, corridors, gates, links, engine, rfl, rfl⟩

end Sys2Proof.Proofs
end

section
/-! The invariants at reset (O4): every table is empty, so every cell is free, every carrier VACANT with nothing, every link
and the engine at rest. -/

namespace Sys2Proof.Proofs

open Sys2Proof.Machine Sys2Proof.Laws

theorem cell_reset (x : Nat) : State.reset.cell x = CellRun.free := rfl
theorem ctx_reset (c : Nat) : State.reset.ctx c = Context.vacant := rfl
theorem reservations_reset (c : Nat) : State.reset.reservations c = [] := rfl
theorem link_reset (l : Nat) : State.reset.link l = Link.reset := rfl

theorem statesAllowed_reset : State.reset.statesAllowed := ⟨fun _ => rfl, fun _ _ => rfl⟩

theorem firstLaw_reset : State.reset.firstLaw := fun x r found => by cases found

theorem holdingsSound_reset : State.reset.holdingsSound := by
  refine ⟨firstLaw_reset, fun x c => ?_, fun c => ?_, fun c _ => ?_, statesAllowed_reset, fun _ x _ => ?_⟩
  · rw [cell_reset, ctx_reset]
    exact iff_of_false List.not_mem_nil Bool.false_ne_true
  · rw [ctx_reset]
    exact List.nodup_nil
  · rw [ctx_reset]
    rfl
  · rw [cell_reset]
    rfl

theorem secondLaw_reset : State.reset.secondLaw := by
  refine ⟨fun x c => ?_, fun c => ?_, fun c some => absurd (reservations_reset c) some⟩
  · rw [cell_reset, reservations_reset]
    exact iff_of_false (by simp [CellRun.free]) List.not_mem_nil
  · rw [reservations_reset]
    exact List.nodup_nil

theorem waitsSound_reset : State.reset.waitsSound := by
  refine ⟨List.nodup_nil, fun x => ?_⟩
  rw [cell_reset]
  exact ⟨List.nodup_nil, .nil, fun w hw => absurd hw List.not_mem_nil⟩

theorem fourthLaw_reset : State.reset.fourthLaw := fun k r found => by cases found

theorem fifthLaw_reset : State.reset.fifthLaw := ⟨fun _ => rfl, fun g p partner => by cases partner⟩

theorem linkQueuesBounded_reset : State.reset.linkQueuesBounded := fun l => by
  rw [link_reset]
  exact ⟨Nat.zero_le _, List.nodup_nil⟩

theorem engineQueueBounded_reset : State.reset.engineQueueBounded :=
  ⟨List.nodup_nil, List.nodup_nil, fun _ => rfl, fun _ h => absurd h List.not_mem_nil, fun _ h => absurd h List.not_mem_nil⟩

/-- The least window at the start of the step store, no slot of it used: every window at reset (R107). -/
theorem windowsSound_reset : State.reset.windowsSound := by
  refine ⟨fun c => ?_, fun c d _ _ _ enrolled => absurd rfl enrolled, fun r reading => by cases reading⟩
  rw [ctx_reset]
  decide

theorem seventhLaw_reset : State.reset.seventhLaw :=
  ⟨fun _ _ => nofun, fun _ _ => nofun, fun _ _ => ⟨rfl, rfl⟩⟩

/-- Settles O4, law by law. -/
theorem resetKeepsLaws : Obligations.ResetKeepsLaws :=
  ⟨holdingsSound_reset, fourthLaw_reset, fifthLaw_reset, linkQueuesBounded_reset, engineQueueBounded_reset,
    statesAllowed_reset, rfl, secondLaw_reset, waitsSound_reset, windowsSound_reset, seventhLaw_reset⟩

end Sys2Proof.Proofs
end

section
/-! The third law (O58): the permitted speed as the greatest speed within every bound of R57 and R58, over the integer
square root of Conventions 4.3 found bit by bit. -/

namespace Sys2Proof.Proofs

open Sys2Proof.Machine

/-! ## The integer square root (Conventions 4.3) -/

section
variable {b n r : Nat}

/-- A bit is set only where the root found so far stays within the number. -/
theorem isqrtFrom_mul_self_le (within : r * r ≤ n) : isqrtFrom b n r * isqrtFrom b n r ≤ n := by
  induction b generalizing r with
  | zero => exact within
  | succ b ih =>
    rw [isqrtFrom]
    split
    next fits => exact ih fits
    next => exact ih within

/-- The bits still to come reach the root: what they can add is below the place of the last bit tried. -/
theorem lt_isqrtFrom_succ_mul_self (above : n < (r + 2 ^ b) * (r + 2 ^ b)) :
    n < (isqrtFrom b n r + 1) * (isqrtFrom b n r + 1) := by
  induction b generalizing r with
  | zero => exact above
  | succ b ih =>
    rw [isqrtFrom]
    split
    next =>
      refine ih ?_
      rw [Nat.add_assoc, ← Nat.two_mul, ← Nat.pow_succ']
      exact above
    next exceeds => exact ih (Nat.lt_of_not_le exceeds)

theorem isqrt_mul_self_le (n : Nat) : isqrt n * isqrt n ≤ n := isqrtFrom_mul_self_le (Nat.zero_le n)

theorem isqrt_eq_sqrt (h : n < 2 ^ 64) : isqrt n = n.sqrt :=
  Nat.eq_sqrt.mpr ⟨isqrt_mul_self_le n, lt_isqrtFrom_succ_mul_self (by omega)⟩

end

/-! ## The braking-feasible speed (R57) -/

section
variable {cls : ClassRec} {g u : Nat}

theorem brakingSpeed_within_margin (h : g ≤ cls.margin) : brakingSpeed cls g = 0 := if_pos h

theorem brakingSpeed_beyond_margin (h : ¬g ≤ cls.margin) :
    brakingSpeed cls g = isqrt (2 * cls.decel * (g - cls.margin)) := if_neg h

theorem brakingSpeed_mul_self_le (cls : ClassRec) (g : Nat) :
    brakingSpeed cls g * brakingSpeed cls g ≤ 2 * cls.decel * (g - cls.margin) := by
  by_cases h : g ≤ cls.margin
  · rw [brakingSpeed_within_margin h]
    exact Nat.zero_le _
  · rw [brakingSpeed_beyond_margin h]
    exact isqrt_mul_self_le _

/-- The largest deceleration over the largest distance stays within the 64 bits of the root. -/
theorem brakingBound_lt (hd : cls.decel ≤ 4000) (hg : g ≤ 65535) : 2 * cls.decel * (g - cls.margin) < 2 ^ 64 :=
  calc 2 * cls.decel * (g - cls.margin)
    _ ≤ 2 * 4000 * 65535 := Nat.mul_le_mul (by omega) (by omega)
    _ < 2 ^ 64 := by decide

theorem le_brakingSpeed_iff (hd : cls.decel ≤ 4000) (hg : g ≤ 65535) :
    u ≤ brakingSpeed cls g ↔ u * u ≤ 2 * cls.decel * (g - cls.margin) := by
  by_cases h : g ≤ cls.margin
  · rw [brakingSpeed_within_margin h, Nat.sub_eq_zero_of_le h]
    simp
  · rw [brakingSpeed_beyond_margin h, isqrt_eq_sqrt (brakingBound_lt hd hg)]
    exact Nat.le_sqrt

end

/-! ## The permitted speed (R58) -/

theorem mem_heldLimits {m : MapStore} {k : Context} {h : Held} {x : CellStatic} (held : h ∈ k.held)
    (found : Table.find m.cells h.cell = some x) : x.limit ∈ heldLimits m k :=
  List.mem_filterMap.mpr ⟨h, held, by rw [found]; rfl⟩

theorem mem_heldCaps {v : Run} {c j : Nat} {h : Held} {q : Slot} (held : h ∈ (v.ctx c).held) (step : h.step = some j)
    (slot : v.step c j = some q) (capped : q.cap ≠ 0) : q.cap ∈ heldCaps v c :=
  List.mem_filterMap.mpr ⟨q, List.mem_filterMap.mpr ⟨h, held, by rw [step]; exact slot⟩, if_neg capped⟩

theorem le_foldl_min_iff {l : List Nat} {a u : Nat} : u ≤ l.foldl min a ↔ u ≤ a ∧ ∀ x ∈ l, u ≤ x := by
  rw [List.le_min?_iff List.min?_cons', List.forall_mem_cons]

/-- R58 said once: the permitted speed is the greatest speed within every bound. -/
theorem le_permittedSpeed_iff {e : Setting} {v : Run} {c u : Nat} : u ≤ permittedSpeed e v c ↔
    (u * 10 ≤ brakingSpeed (e.map.classOf (v.ctx c)) (v.ctx c).granted ∧ u ≤ (e.map.classOf (v.ctx c)).vmax) ∧
      (∀ x ∈ heldLimits e.map (v.ctx c), u ≤ x) ∧ ∀ x ∈ heldCaps v c, u ≤ x := by
  have units (x : Nat) : u * 10 ≤ x * 10 ↔ u ≤ x := Nat.mul_le_mul_right_iff (by decide)
  simp only [permittedSpeed, Nat.le_div_iff_mul_le (by decide : 0 < 10), le_foldl_min_iff, Nat.le_min,
    List.forall_mem_map, List.forall_mem_append, units]

/-- Settles O58: the permitted speed is within its own bounds, and the braking bound is exact through the root. -/
theorem permittedSpeedIsSafe : Obligations.PermittedSpeedIsSafe := by
  unfold Obligations.PermittedSpeedIsSafe
  refine ⟨fun e v c => ?_, fun n hn => ?_, fun cls g u hd hg => le_brakingSpeed_iff hd hg⟩
  · obtain ⟨⟨braking, top⟩, limits, caps⟩ := le_permittedSpeed_iff.mp (Nat.le_refl (permittedSpeed e v c))
    rw [Nat.mul_comm] at braking
    refine ⟨top, fun h held m found => limits _ (mem_heldLimits held found),
      fun h held j q step slot capped => caps _ (mem_heldCaps held step slot capped),
      (Nat.mul_self_le_mul_self braking).trans (brakingSpeed_mul_self_le _ _), fun short => ?_⟩
    rw [brakingSpeed_within_margin short] at braking
    omega
  · rw [isqrt_eq_sqrt hn]
    exact ⟨n.sqrt_le, n.lt_succ_sqrt⟩

end Sys2Proof.Proofs
end

section
/-! The corridor unit and the lane order (O7): each act of the corridor unit is one record set with the recomputation at the
corridor's ends and the offers it leaves; the lane order closing up is a chain of changed edges. -/

namespace Sys2Proof.Proofs

open Sys2Proof.Machine Sys2Proof.Laws

/-! ## The conditions of a corridor (R64) -/

section
variable {r : CorridorRun}

theorem condition_turnPending_iff : r.condition = .turnPending ↔ r.direction ≠ .free ∧ r.turnRequested = true := by
  unfold CorridorRun.condition
  repeat' split
  all_goals simp_all

theorem condition_turned_iff : r.condition = .turned ↔
    r.direction ≠ .free ∧ r.turnRequested = false ∧ r.turnCarrier ≠ none := by
  unfold CorridorRun.condition
  cases carrier : r.turnCarrier
  all_goals
    repeat' split
    all_goals simp_all

theorem condition_flowing_iff : r.condition = .flowing ↔
    r.direction ≠ .free ∧ r.turnRequested = false ∧ r.turnCarrier = none := by
  unfold CorridorRun.condition
  cases carrier : r.turnCarrier
  all_goals
    repeat' split
    all_goals simp_all

end

/-! ## A corridor's record set, with the recomputation at its ends (R66) -/

/-- The record of corridor `k` set, and the waiters at its ends recomputed: the one shape of what the corridor unit does. -/
def setAndRecompute (e : Setting) (v : Run) (k : Nat) (r : CorridorRun) : Run := recomputeEnds e (v.setCorridor k r) k

section
variable (e : Setting) (v : Run) (k c : Nat) (r : CorridorRun)

theorem setAndRecompute_causesOnly : CausesOnly (v.setCorridor k r) (setAndRecompute e v k r) :=
  recomputeEnds_causesOnly e _ k

theorem corridors_setAndRecompute :
    (setAndRecompute e v k r).records.corridors = Table.set v.records.corridors k r := by
  rw [(setAndRecompute_causesOnly e v k r).records]
  rfl

@[simp] theorem corridor_setAndRecompute : (setAndRecompute e v k r).corridor k = r := by
  rw [Run.corridor, corridors_setAndRecompute, Table.at_set_self]

@[simp] theorem work_setAndRecompute : (setAndRecompute e v k r).work = v.work := (setAndRecompute_causesOnly e v k r).work

theorem setAndRecompute_corridorOnly : CorridorOnly v (setAndRecompute e v k r) k := by
  have only := setAndRecompute_causesOnly e v k r
  refine ⟨only.cell, only.ctx, fun j hj => ?_, ?_, ?_, ?_, ?_⟩
  · rw [Run.corridor, corridors_setAndRecompute, Table.at_set_other _ _ _ hj]
    rfl
  all_goals
    rw [only.records]
    rfl

theorem corridorOnly_refl : CorridorOnly v v k :=
  ⟨fun _ => rfl, fun _ => rfl, fun _ _ => rfl, rfl, rfl, rfl, rfl⟩

/-! ## The acts of the corridor unit (R65 to R71) -/

theorem Run.setCorridor_setCorridor (r q : CorridorRun) : (v.setCorridor k r).setCorridor k q = v.setCorridor k q := by
  simp only [Run.setCorridor, Table.set_set]

/-- The waiter that a turn is appointed for in a FLOWING corridor: the first at the end of the other direction that is no
occupant and waits for that cell (R67). -/
def turnWaiter (e : Setting) (v : Run) (k : Nat) (r : CorridorRun) : Option Waiter :=
  (e.map.entryEnd k r.direction.opposite).bind fun y =>
    (v.cell y).queue.find? (fun w => !r.occupants.contains w.carrier && (v.ctx w.carrier).waitsAt y)

theorem turnWaiter_free {r : CorridorRun} (h : r.direction = .free) : turnWaiter e v k r = none := by
  rw [turnWaiter, h]
  rfl

theorem appointedRecord_eq : appointedRecord e v k r = match turnWaiter e v k r with
    | some w => if r.turnRequested = false ∧ r.turnCarrier = none then
        { r with turnRequested := true, turnCarrier := some w.carrier } else r
    | none => r := by
  obtain ⟨direction, _, _, _⟩ := r
  cases direction <;> rfl

theorem appointedRecord_of_not_flowing {r : CorridorRun} (h : r.condition ≠ .flowing) : appointedRecord e v k r = r := by
  rw [Ne, condition_flowing_iff] at h
  rw [appointedRecord_eq]
  split
  next w found =>
    refine if_neg fun still => h ⟨fun free => ?_, still⟩
    rw [turnWaiter_free e v k free] at found
    cases found
  · rfl

/-- Appointing a turn carrier once the record is set is setting the record with the turn carrier appointed (R67). -/
theorem appointTurn_setCorridor : appointTurn e (v.setCorridor k r) k = v.setCorridor k (appointedRecord e v k r) := by
  simp only [appointTurn, Run.corridor_setCorridor_self]
  split
  next flowing =>
    obtain ⟨-, still⟩ := condition_flowing_iff.mp flowing
    simp only [appointedRecord_eq, turnWaiter, if_pos still]
    cases e.map.entryEnd k r.direction.opposite with
    | none => rfl
    | some y =>
      simp only [Run.cell_setCorridor, Run.ctx_setCorridor, Option.bind_some]
      generalize (v.cell y).queue.find? (fun w => !r.occupants.contains w.carrier && (v.ctx w.carrier).waitsAt y) = first
      cases first with
      | none => rfl
      | some w => exact Run.setCorridor_setCorridor v k r _
  next other => rw [appointedRecord_of_not_flowing e v k other]

/-- The record of a corridor that a carrier enters at a member, before a turn carrier is appointed (R65, R68). -/
def enteredRecord (r : CorridorRun) (position c : Nat) : CorridorRun :=
  { r with
    occupants := r.occupants ++ [c]
    direction := if r.direction = .free then entryDirection position else r.direction
    turnCarrier := if r.turnCarrier = some c then none else r.turnCarrier }

theorem corridorEnter_eq (position : Nat) : corridorEnter e v k position c =
    setAndRecompute e v k (appointedRecord e v k (enteredRecord (v.corridor k) position c)) := by
  rw [setAndRecompute, ← appointTurn_setCorridor]
  rfl

/-- The record of a corridor at one of whose ends a carrier's entry has failed (R69). -/
def refusedRecord (r : CorridorRun) (c : Nat) : CorridorRun := { r with turnRequested := true, turnCarrier := some c }

theorem corridorFailed_flowing (h : (v.corridor k).condition = .flowing) :
    corridorFailed e v k c = setAndRecompute e v k (refusedRecord (v.corridor k) c) := if_pos h

theorem corridorFailed_of_not_flowing (h : (v.corridor k).condition ≠ .flowing) : corridorFailed e v k c = v := if_neg h

/-- The record of a corridor that a carrier has left, from the record without it (R70). -/
def leftRecord (r : CorridorRun) : CorridorRun :=
  if r.occupants = [] then
    match r.condition with
    | .flowing => { r with direction := .free }
    | .turnPending => { r with direction := r.direction.opposite, turnRequested := false }
    | .turned => r
    | .free => r
  else r

/-- The ends offered when a carrier has left a corridor, from the record without it (R70). -/
def leftOffers (m : MapStore) (k : Nat) (r : CorridorRun) : List Nat :=
  if r.occupants = [] then
    match r.condition with
    | .flowing => m.ends k
    | .turnPending => (m.entryEnd k r.direction.opposite).toList
    | .turned => []
    | .free => []
  else []

/-- The record of a corridor without one of its occupants. -/
def withoutOccupant (r : CorridorRun) (c : Nat) : CorridorRun :=
  { r with occupants := r.occupants.filter (· != c) }

theorem corridorLeave_eq : corridorLeave e v k c =
    (setAndRecompute e v k (leftRecord (withoutOccupant (v.corridor k) c))).later
      ((leftOffers e.map k (withoutOccupant (v.corridor k) c)).map .offer) := by
  have condition : (withoutOccupant (v.corridor k) c).condition = (v.corridor k).condition := rfl
  simp only [corridorLeave, leftRecord, leftOffers, condition, List.isEmpty_iff]
  change (if (withoutOccupant (v.corridor k) c).occupants = [] then _ else _) = _
  split
  · cases (v.corridor k).condition with
    | flowing => rfl
    | turnPending => rfl
    | turned => exact (later_nil _).symm
    | free => exact (later_nil _).symm
  · exact (later_nil _).symm

/-- The record of a corridor whose turn has been cancelled, before another is appointed (R71). -/
def clearedRecord (r : CorridorRun) : CorridorRun := { r with turnRequested := false, turnCarrier := none }

theorem cancelTurn_turned (h : (v.corridor k).condition = .turned) (empty : (v.corridor k).occupants = []) :
    cancelTurn e v k = (setAndRecompute e v k { clearedRecord (v.corridor k) with direction := .free }).later
      ((e.map.ends k).map .offer) := if_pos ⟨h, by rw [empty]; rfl⟩

theorem cancelTurn_else (h : ¬((v.corridor k).condition = .turned ∧ (v.corridor k).occupants = [])) :
    cancelTurn e v k = setAndRecompute e v k (appointedRecord e v k (clearedRecord (v.corridor k))) := by
  rw [setAndRecompute, ← appointTurn_setCorridor]
  exact if_neg (by rwa [List.isEmpty_iff])

end

/-! ## The statements about the corridor unit -/

section
variable (e : Setting) (v : Run) (k c : Nat)

theorem ends_eq (m : MapStore) (k : Nat) : m.ends k =
    (Table.at m.corridors [] k).head?.toList ++ (Table.at m.corridors [] k).getLast?.toList := by
  simp only [MapStore.ends, MapStore.members]
  cases Table.at m.corridors [] k with
  | nil => rfl
  | cons a l => simp [List.getLast?_cons]

/-- The record and the offers that a leaving comes to, by the record without the carrier (R70). -/
theorem corridorLeave_reads {r : CorridorRun} {offers : List Nat} (record : leftRecord (withoutOccupant (v.corridor k) c) = r)
    (offered : leftOffers e.map k (withoutOccupant (v.corridor k) c) = offers) :
    (corridorLeave e v k c).corridor k = r ∧ (corridorLeave e v k c).work = v.work ++ offers.map .offer := by
  rw [corridorLeave_eq, record, offered, Run.corridor_later, corridor_setAndRecompute, Run.later_work, work_setAndRecompute]
  exact ⟨rfl, rfl⟩

theorem corridorLeave_acts : let r := v.corridor k
    let u := corridorLeave e v k c
    let left := r.occupants.filter (· != c)
    CorridorOnly v u k ∧ (left ≠ [] → u.corridor k = { r with occupants := left } ∧ u.work = v.work) ∧
      (left = [] → r.direction ≠ .free → r.turnRequested = false → r.turnCarrier = none →
        u.corridor k = { r with occupants := [], direction := .free } ∧ u.work = v.work ++ (e.map.ends k).map .offer) ∧
      (left = [] → r.direction ≠ .free → r.turnRequested = true →
        u.corridor k = { r with occupants := [], direction := r.direction.opposite, turnRequested := false } ∧
        u.work = v.work ++ (e.map.entryEnd k r.direction.opposite).toList.map .offer) ∧
      (left = [] → r.direction ≠ .free → r.turnRequested = false → r.turnCarrier ≠ none →
        u.corridor k = { r with occupants := [] } ∧ u.work = v.work) := by
  intro r u left
  have emptied (empty : left = []) : withoutOccupant r c = { r with occupants := [] } :=
    congrArg (fun l => { r with occupants := l }) empty
  refine ⟨?_, fun occupied => ?_, fun empty moving noRequest noCarrier => ?_, fun empty moving request => ?_,
    fun empty moving noRequest carrier => ?_⟩
  · change CorridorOnly v (corridorLeave e v k c) k
    rw [corridorLeave_eq]
    exact setAndRecompute_corridorOnly ..
  · rw [← List.append_nil v.work]
    exact corridorLeave_reads e v k c (if_neg occupied) (if_neg occupied)
  · have flowing : CorridorRun.condition { r with occupants := [] } = .flowing :=
      condition_flowing_iff.mpr ⟨moving, noRequest, noCarrier⟩
    refine corridorLeave_reads e v k c ?_ ?_
    · rw [emptied empty, leftRecord, if_pos rfl, flowing]
    · rw [emptied empty, leftOffers, if_pos rfl, flowing]
  · have pending : CorridorRun.condition { r with occupants := [] } = .turnPending :=
      condition_turnPending_iff.mpr ⟨moving, request⟩
    refine corridorLeave_reads e v k c ?_ ?_
    · rw [emptied empty, leftRecord, if_pos rfl, pending]
    · rw [emptied empty, leftOffers, if_pos rfl, pending]
  · have turned : CorridorRun.condition { r with occupants := [] } = .turned :=
      condition_turned_iff.mpr ⟨moving, noRequest, carrier⟩
    rw [← List.append_nil v.work]
    refine corridorLeave_reads e v k c (offers := []) ?_ ?_
    · rw [emptied empty, leftRecord, if_pos rfl, turned]
    · rw [emptied empty, leftOffers, if_pos rfl, turned]

theorem cancelTurn_acts : let r := v.corridor k
    let u := cancelTurn e v k
    CorridorOnly v u k ∧
      (r.direction ≠ .free → r.turnRequested = false → r.turnCarrier ≠ none → r.occupants = [] →
        u.corridor k = { clearedRecord r with direction := .free } ∧ u.work = v.work ++ (e.map.ends k).map .offer) ∧
      (r.turnRequested = true ∨ r.occupants ≠ [] →
        u.corridor k = appointedRecord e v k (clearedRecord r) ∧ u.work = v.work) := by
  intro r u
  by_cases freed : r.condition = .turned ∧ r.occupants = []
  · obtain ⟨turned, empty⟩ := freed
    have record : u = _ := cancelTurn_turned e v k turned empty
    obtain ⟨-, noRequest, -⟩ := condition_turned_iff.mp turned
    rw [record]
    refine ⟨setAndRecompute_corridorOnly .., fun _ _ _ _ => ⟨corridor_setAndRecompute .., ?_⟩, fun other => ?_⟩
    · rw [Run.later_work, work_setAndRecompute]
    · rcases other with request | occupied
      · rw [noRequest] at request
        cases request
      · exact absurd empty occupied
  · have record : u = _ := cancelTurn_else e v k freed
    rw [record]
    refine ⟨setAndRecompute_corridorOnly .., fun moving noRequest carrier empty => ?_,
      fun _ => ⟨corridor_setAndRecompute .., work_setAndRecompute ..⟩⟩
    exact absurd ⟨condition_turned_iff.mpr ⟨moving, noRequest, carrier⟩, empty⟩ freed

end

/-- The clauses of O7 about entering, leaving and turning a corridor. -/
theorem corridorUnitActs : CorridorUnitActs := by
  intro e v k c
  refine ⟨fun position => ?_, ?_, ?_, ?_⟩
  · rw [corridorEnter_eq]
    exact ⟨corridor_setAndRecompute .., setAndRecompute_corridorOnly .., work_setAndRecompute ..⟩
  · by_cases flowing : (v.corridor k).condition = .flowing
    · rw [corridorFailed_flowing e v k c flowing, if_pos (condition_flowing_iff.mp flowing)]
      exact ⟨corridor_setAndRecompute .., setAndRecompute_corridorOnly .., work_setAndRecompute ..⟩
    · rw [corridorFailed_of_not_flowing e v k c flowing]
      exact ⟨(if_neg fun h => flowing (condition_flowing_iff.mpr h)).symm, corridorOnly_refl v k, rfl⟩
  · obtain ⟨only, occupied, flowing, pending, turned⟩ := corridorLeave_acts e v k c
    rw [← ends_eq]
    refine ⟨only, occupied, flowing, fun empty ab => ?_, fun empty ba => ?_, turned⟩
    · rw [ab] at pending
      exact pending empty (by decide)
    · rw [ba] at pending
      exact pending empty (by decide)
  · rw [← ends_eq]
    exact cancelTurn_acts e v k

end Sys2Proof.Proofs
end

section
/-! The lane order closing up (O7): what a changed edge reads as, for its carrier and for every other, and the edges of the
holders retargeted one behind the other. -/

namespace Sys2Proof.Proofs

open Sys2Proof.Machine Sys2Proof.Laws

/-! ## Edges read after they are changed (R29, R133) -/

section
variable (e : Setting) (v : Run) (c : Nat) (t : Option Nat)

theorem carriers_retireMark : (v.retireMark c).records.carriers = v.records.carriers := by
  unfold Run.retireMark
  split <;> rfl

theorem carriers_walkFrom (x : Nat) : (walkFrom e v c x).records.carriers = v.records.carriers := by
  unfold walkFrom
  split
  · unfold recordRing
    split <;> rfl
  · rfl

/-- The deadlock monitor writes no carrier context. -/
theorem carriers_reportEdge (previous new : Option Nat) :
    (reportEdge e v c previous new).records.carriers = v.records.carriers := by
  unfold reportEdge
  split
  · rfl
  · exact carriers_retireMark v c
  · split
    · split
      · rfl
      · exact carriers_walkFrom e v c _
    · exact (carriers_walkFrom e _ c _).trans (carriers_retireMark v c)

theorem ctx_setEdge (d : Nat) : (setEdge e v c t).ctx d = (v.putEdge c (targetFor c t)).ctx d := by
  rw [Run.ctx, setEdge, carriers_reportEdge]
  rfl

theorem ctx_changeEdge_other {d : Nat} (h : d ≠ c) : (changeEdge e v c t).ctx d = v.ctx d := by
  unfold changeEdge
  split
  · rfl
  · rw [ctx_setEdge, Run.putEdge, Run.ctx_modCtx_other _ _ h]

/-- A carrier with a wait record waits, after the change, on the target the change names. -/
theorem edge_changeEdge {w : WaitRec} (h : (v.ctx c).wait = some w) : (changeEdge e v c t).edge c = targetFor c t := by
  unfold changeEdge
  split
  next same => exact same
  next => rw [Run.edge, ctx_setEdge, Run.putEdge, Run.ctx_modCtx_self, h]; rfl

end

theorem wait_of_waitsInLane {k : Context} {x : Nat} (h : k.waitsInLane x = true) : ∃ w, k.wait = some w := by
  cases wait : k.wait with
  | none => simp [Context.waitsInLane, wait] at h
  | some w => exact ⟨w, rfl⟩

theorem waitsInLane_of_butEdge {k q : Context} (h : q.butEdge = k.butEdge) (x : Nat) :
    q.waitsInLane x = k.waitsInLane x := by
  have wait : q.wait.map (fun w => { w with edge := none }) = k.wait.map (fun w => { w with edge := none }) :=
    congrArg Context.wait h
  unfold Context.waitsInLane
  cases hq : q.wait <;> cases hk : k.wait <;> simp_all

/-! ## The holders of a lane retargeted (R76) -/

/-- One holder retargeted to the one ahead of it, where it waits in the lane for its order. -/
def retargetHolder (e : Setting) (x : Nat) (v : Run) (ahead : Option Nat) (h : Nat) : Run :=
  if (v.ctx h).waitsInLane x then changeEdge e v h ahead else v

section
variable (e : Setting) (v : Run) (x : Nat) (ahead : Option Nat)

theorem retargetHolder_edgesOnly (h : Nat) : EdgesOnly v (retargetHolder e x v ahead h) := by
  unfold retargetHolder
  split
  · exact changeEdge_edgesOnly e v h ahead
  · exact .refl v

theorem ctx_retargetHolder {h d : Nat} (idle : d ≠ h ∨ (v.ctx d).waitsInLane x = false) :
    (retargetHolder e x v ahead h).ctx d = v.ctx d := by
  unfold retargetHolder
  split
  next waits =>
    refine ctx_changeEdge_other e v h ahead ?_
    rintro rfl
    rcases idle with other | idle
    · exact other rfl
    · rw [idle] at waits
      cases waits
  next => rfl

theorem edge_retargetHolder {h : Nat} (waits : (v.ctx h).waitsInLane x = true) (apart : ahead ≠ some h) :
    (retargetHolder e x v ahead h).edge h = ahead := by
  obtain ⟨w, wait⟩ := wait_of_waitsInLane waits
  rw [retargetHolder, if_pos waits, edge_changeEdge e v h ahead wait, targetFor, if_neg apart]

theorem waitsInLane_retargetHolder (h d : Nat) :
    ((retargetHolder e x v ahead h).ctx d).waitsInLane x = (v.ctx d).waitsInLane x :=
  waitsInLane_of_butEdge ((retargetHolder_edgesOnly e v x ahead h).ctx d) x

theorem retargetLane_edgesOnly (l : List Nat) : EdgesOnly v (retargetLane e x v ahead l) := by
  induction l generalizing v ahead with
  | nil => exact .refl v
  | cons h l ih => exact (retargetHolder_edgesOnly e v x ahead h).trans (ih _ _)

/-- A carrier that is none of the holders, or does not wait in the lane, is left alone. -/
theorem ctx_retargetLane (l : List Nat) {d : Nat} (idle : d ∉ l ∨ (v.ctx d).waitsInLane x = false) :
    (retargetLane e x v ahead l).ctx d = v.ctx d := by
  induction l generalizing v ahead with
  | nil => rfl
  | cons h l ih =>
    have here : d ≠ h ∨ (v.ctx d).waitsInLane x = false := idle.imp_left List.ne_of_not_mem_cons
    have after : d ∉ l ∨ ((retargetHolder e x v ahead h).ctx d).waitsInLane x = false := by
      rw [waitsInLane_retargetHolder]
      exact idle.imp_left List.not_mem_of_not_mem_cons
    exact (ih _ (some h) after).trans (ctx_retargetHolder e v x ahead here)

/-- Each waiting holder waits, afterwards, on the holder directly ahead, the first on `ahead`. -/
theorem edge_retargetLane (l : List Nat) (once : l.Nodup) (apart : ∀ h ∈ l, ahead ≠ some h) {i h : Nat}
    (here : l[i]? = some h) (waits : (v.ctx h).waitsInLane x = true) :
    (retargetLane e x v ahead l).edge h = if i = 0 then ahead else l[i - 1]? := by
  induction l generalizing v ahead i with
  | nil => cases here
  | cons g l ih =>
    obtain ⟨fresh, once⟩ := List.nodup_cons.mp once
    cases i with
    | zero =>
      cases here
      have untouched := ctx_retargetLane e (retargetHolder e x v ahead h) x (some h) l (d := h) (.inl fresh)
      change (retargetLane e x (retargetHolder e x v ahead h) (some h) l).edge h = ahead
      rw [Run.edge, untouched]
      exact edge_retargetHolder e v x ahead waits (apart h (List.mem_cons_self ..))
    | succ i =>
      have behind := ih (retargetHolder e x v ahead g) (some g) once
        (fun d member same => fresh (Option.some.inj same ▸ member)) here (by rwa [waitsInLane_retargetHolder])
      change (retargetLane e x (retargetHolder e x v ahead g) (some g) l).edge h = (g :: l)[i]?
      rw [behind]
      cases i <;> rfl

end

/-! ## The holder directly ahead (R76, R77) -/

theorem takeWhile_ne_of_nodup {l : List Nat} (once : l.Nodup) {b i : Nat} (here : l[i]? = some b) :
    l.takeWhile (· != b) = l.take i := by
  induction l generalizing i with
  | nil => cases here
  | cons g l ih =>
    obtain ⟨fresh, once⟩ := List.nodup_cons.mp once
    cases i with
    | zero =>
      cases here
      simp
    | succ i =>
      have other : g ≠ b := by
        rintro rfl
        exact fresh (List.mem_of_getElem? here)
      simp [other, ih once here]

theorem aheadIn_of_getElem? {l : List Nat} (once : l.Nodup) {b i : Nat} (here : l[i]? = some b) :
    aheadIn l b = if i = 0 then none else l[i - 1]? := by
  rw [aheadIn, takeWhile_ne_of_nodup once here]
  cases i with
  | zero => rfl
  | succ i =>
    obtain ⟨within, -⟩ := List.getElem?_eq_some_iff.mp here
    rw [List.getLast?_take, Nat.add_sub_cancel, List.getElem?_eq_getElem (by omega)]
    rfl

/-- The holder directly ahead of a holder that is listed once is another. -/
theorem aheadIn_ne {l : List Nat} (once : l.Nodup) {b i : Nat} (here : l[i]? = some b) : aheadIn l b ≠ some b := by
  rw [aheadIn_of_getElem? once here]
  split
  · exact nofun
  next h =>
    intro there
    have same := (List.nodup_iff_getElem?_ne_getElem?.mp once (i - 1) i (by omega)
      (List.getElem?_eq_some_iff.mp here).1)
    exact same (there.trans here.symm)

/-! ## The lane closing up -/

section
variable (e : Setting) (v : Run) (x : Nat) (behind : Option Nat)

theorem laneClosesUp_oldest : laneClosesUp e v x true behind =
    (retargetLane e x v none (v.cell x).holders).later
      ((v.cell x).holders.head?.toList.map (fun h => .attempt h .noticeIfGranted)) := rfl

theorem laneClosesUp_behind (b : Nat) : laneClosesUp e v x false (some b) =
    retargetHolder e x v (aheadIn (v.cell x).holders b) b := rfl

theorem laneClosesUp_other_edgesOnly : EdgesOnly v (laneClosesUp e v x false behind) := by
  cases behind with
  | none => exact .refl v
  | some b => exact retargetHolder_edgesOnly e v x _ b

theorem cells_of_edgesOnly {v u : Run} (h : EdgesOnly v u) : u.records.cells = v.records.cells := by
  rw [h.records]

end

/-- The clauses of O7 about the lane order closing up behind its oldest holder or another. -/
theorem laneClosesUp_acts : LaneClosesUp := by
  intro e v x behind once l
  refine ⟨?_, ?_⟩
  · rw [laneClosesUp_oldest]
    have only := retargetLane_edgesOnly e v x none l
    have cells := cells_of_edgesOnly only
    refine ⟨fun i h here waits => ?_, fun d idle => ctx_retargetLane e v x none l idle, only.ctx, cells, ?_⟩
    · exact edge_retargetLane e v x none l once (fun _ _ => nofun) here waits
    · rw [Run.later_work, only.work]
  · have only := laneClosesUp_other_edgesOnly e v x behind
    refine ⟨fun b i named here waits => ?_, only.ctx, cells_of_edgesOnly only, only.work⟩
    rw [named, laneClosesUp_behind, edge_retargetHolder e v x _ waits (aheadIn_ne once here)]
    exact aheadIn_of_getElem? once here

end Sys2Proof.Proofs
end

section
/-! The fourth and fifth law (O7): what the two laws read of the corridor and gate records, and the changes of one record
that keep them. A corridor becomes FREE only without occupants and turn (R64); a gate becomes active only while its partner
is not (R122, R123). -/

namespace Sys2Proof.Proofs

open Sys2Proof.Machine Sys2Proof.Laws

/-! ## What the laws read -/

/-- The fourth law on one record: a FREE corridor has no occupant and no turn (R64). -/
def FreeIsIdle (r : CorridorRun) : Prop :=
  r.direction = .free → r.occupants = [] ∧ r.turnRequested = false ∧ r.turnCarrier = none

/-- Whether a gate is active by a table of gate records (R121). -/
def activeIn (gates : Table GateRun) (g : Nat) : Bool := (((Table.find gates g).map GateRun.state).getD .shut).active

theorem freeIsIdle_of_not_free {r : CorridorRun} (h : r.direction ≠ .free) : FreeIsIdle r := fun free => absurd free h

theorem fourthLaw_iff {s : State} : s.fourthLaw ↔ ∀ k, FreeIsIdle (Table.at s.records.corridors CorridorRun.idle k) := by
  refine ⟨fun law k => ?_, fun law k r found => ?_⟩
  · cases found : Table.find s.records.corridors k with
    | none => rw [Table.at, found]; exact fun _ => ⟨rfl, rfl, rfl⟩
    | some r => rw [Table.at, found]; exact law k r found
  · have here := law k
    rwa [Table.at, found] at here

/-- The fourth and fifth law, each where the part `s` meets it, on the corridor and gate records that an event of `s` has
come to, under the setting `e`. -/
structure TrackKept (s : State) (e : Setting) (corridors : Table CorridorRun) (gates : Table GateRun) : Prop where
  fourth : s.fourthLaw → ∀ k, FreeIsIdle (Table.at corridors CorridorRun.idle k)
  unlisted : s.fifthLaw → e.op.loaded = false → gates = []
  pairs : s.fifthLaw → ∀ g p, e.map.partner g = some p → ¬(activeIn gates g = true ∧ activeIn gates p = true)

/-- The same on the records of a run. -/
abbrev RunKept (s : State) (e : Setting) (v : Run) : Prop := TrackKept s e v.records.corridors v.records.gates

section
variable {s t : State}

theorem trackKept_refl (s : State) : TrackKept s s.setting s.records.corridors s.records.gates :=
  ⟨fourthLaw_iff.mp, And.left, And.right⟩

theorem fourthLaw_of_trackKept (h : TrackKept s t.setting t.records.corridors t.records.gates) (law : s.fourthLaw) :
    t.fourthLaw := fourthLaw_iff.mpr (h.fourth law)

theorem fifthLaw_of_trackKept (h : TrackKept s t.setting t.records.corridors t.records.gates) (law : s.fifthLaw) :
    t.fifthLaw := ⟨h.unlisted law, h.pairs law⟩

end

/-! ## Partners (R6) -/

section
variable {m : MapStore} {g p : Nat}

theorem partner_eq_some (h : m.partner g = some p) :
    (∃ b, Table.find m.gates (g - g % 2) = some b ∧ b.partner = true) ∧ p = if g % 2 = 0 then g + 1 else g - 1 := by
  simp only [MapStore.partner] at h
  split at h
  next b found =>
    split at h
    next declared => exact ⟨⟨b, found, declared⟩, (Option.some.inj h).symm⟩
    next => cases h
  next => cases h

theorem partner_ne (h : m.partner g = some p) : p ≠ g := by
  obtain ⟨-, rfl⟩ := partner_eq_some h
  split <;> omega

theorem partner_symm (h : m.partner g = some p) : m.partner p = some g := by
  obtain ⟨⟨b, found, declared⟩, same⟩ := partner_eq_some h
  have even : p - p % 2 = g - g % 2 := by
    rw [same]
    split <;> omega
  have back : (if p % 2 = 0 then p + 1 else p - 1) = g := by
    rw [same]
    split <;> split <;> omega
  simp only [MapStore.partner, even, found, declared, if_true, back]

end

/-! ## Changes of other records -/

section
variable {s : State} {e : Setting} {v u : Run}

theorem kept_setCell (h : RunKept s e v) {x : Nat} {r : CellRun} : RunKept s e (v.setCell x r) := h
theorem kept_modCtx (h : RunKept s e v) {c : Nat} {f : Context → Context} : RunKept s e (v.modCtx c f) := h
theorem kept_setReservations (h : RunKept s e v) {c : Nat} {l : List (Nat × Nat)} : RunKept s e (v.setReservations c l) := h
theorem kept_setEngine (h : RunKept s e v) {q : Engine} : RunKept s e (v.setEngine q) := h
theorem kept_setLink (h : RunKept s e v) {l : Nat} {k : Link} : RunKept s e (v.setLink l k) := h
theorem kept_raise (h : RunKept s e v) {f : AlertFlag} : RunKept s e (v.raise f) := h
theorem kept_later (h : RunKept s e v) {ts : List Task} : RunKept s e (v.later ts) := h

theorem kept_ite {p : Prop} [Decidable p] (hv : p → RunKept s e v) (hu : ¬p → RunKept s e u) :
    RunKept s e (if p then v else u) := by
  split
  next here => exact hv here
  next here => exact hu here

theorem kept_foldl {α : Type} {f : Run → α → Run} (hf : ∀ v a, RunKept s e v → RunKept s e (f v a)) {l : List α} {v : Run}
    (h : RunKept s e v) : RunKept s e (l.foldl f v) := by
  induction l generalizing v with
  | nil => exact h
  | cons a l ih => exact ih (hf v a h)

theorem kept_of_edgesOnly (only : EdgesOnly v u) (h : RunKept s e v) : RunKept s e u := by
  rw [RunKept, only.records]
  exact h

theorem kept_of_causesOnly (only : CausesOnly v u) (h : RunKept s e v) : RunKept s e u := by
  rw [RunKept, only.records]
  exact h

theorem kept_setEdge (h : RunKept s e v) {c : Nat} {t : Option Nat} : RunKept s e (setEdge e v c t) :=
  kept_of_edgesOnly (setEdge_edgesOnly e v c t) h

theorem kept_clearWait (h : RunKept s e v) {c : Nat} : RunKept s e (clearWait e v c) := kept_modCtx (kept_setEdge h)

theorem kept_recompute (h : RunKept s e v) {x : Nat} : RunKept s e (recompute e v x) :=
  kept_of_causesOnly (recompute_causesOnly e v x) h

/-! ## One corridor record changed (R64) -/

theorem kept_setCorridor (h : RunKept s e v) {k : Nat} {r : CorridorRun} (free : FreeIsIdle (v.corridor k) → FreeIsIdle r) :
    RunKept s e (v.setCorridor k r) where
  fourth law j := by
    by_cases here : j = k
    · subst here
      rw [Run.setCorridor_corridors, Table.at_set_self]
      exact free (h.fourth law j)
    · rw [Run.setCorridor_corridors, Table.at_set_other _ _ _ here]
      exact h.fourth law j
  unlisted := h.unlisted
  pairs := h.pairs

theorem kept_setAndRecompute (h : RunKept s e v) {k : Nat} {r : CorridorRun}
    (free : FreeIsIdle (v.corridor k) → FreeIsIdle r) : RunKept s e (setAndRecompute e v k r) :=
  kept_of_causesOnly (setAndRecompute_causesOnly e v k r) (kept_setCorridor h free)

/-! ## One gate record changed (R122) -/

theorem active_of_gateActive {g : Nat} (h : v.gateActive g = true) : ∃ r, v.gate g = some r ∧ r.state.active = true := by
  unfold Run.gateActive Run.gateState at h
  cases found : v.gate g with
  | none => rw [found] at h; cases h
  | some r => rw [found] at h; exact ⟨r, rfl, h⟩

theorem gateState_of_gate {g : Nat} {r : GateRun} (found : v.gate g = some r) : v.gateState g = r.state := by
  rw [Run.gateState, found]
  rfl

theorem gateActive_of_gate {g : Nat} {r : GateRun} (found : v.gate g = some r) : v.gateActive g = r.state.active := by
  rw [Run.gateActive, gateState_of_gate found]

theorem gateActive_modGate_other {g a : Nat} {f : GateRun → GateRun} (h : a ≠ g) :
    (v.modGate g f).gateActive a = v.gateActive a := by
  simp only [Run.gateActive, Run.gateState, Run.gate_modGate_other v f h]

/-- The change of a gate keeps the laws where the gate is not active afterwards, was active before, or has a partner that
is not active. -/
theorem kept_modGate (h : RunKept s e v) {g : Nat} {f : GateRun → GateRun}
    (alone : ∀ r, v.gate g = some r → (f r).state.active = true →
      r.state.active = true ∨ ∀ p, e.map.partner g = some p → v.gateActive p = false) : RunKept s e (v.modGate g f) where
  fourth := h.fourth
  unlisted law op := by
    rw [Run.modGate_gates, h.unlisted law op]
    rfl
  pairs law a b partner := by
    have quiet {p : Nat} (partner : e.map.partner g = some p) (active : (v.modGate g f).gateActive g = true) :
        (v.modGate g f).gateActive p = false := by
      rw [gateActive_modGate_other (partner_ne partner)]
      obtain ⟨q, changed, after⟩ := active_of_gateActive active
      rw [Run.gate_modGate_self] at changed
      obtain ⟨r, found, rfl⟩ := Option.map_eq_some_iff.mp changed
      rcases alone r found after with before | apart
      · exact Bool.eq_false_iff.mpr fun other => h.pairs law g p partner ⟨(gateActive_of_gate found).trans before, other⟩
      · exact apart p partner
    change ¬((v.modGate g f).gateActive a = true ∧ (v.modGate g f).gateActive b = true)
    rintro ⟨first, second⟩
    by_cases ha : a = g
    · subst ha
      rw [quiet partner first] at second
      cases second
    · by_cases hb : b = g
      · subst hb
        rw [quiet (partner_symm partner) second] at first
        cases first
      · rw [gateActive_modGate_other ha] at first
        rw [gateActive_modGate_other hb] at second
        exact h.pairs law a b partner ⟨first, second⟩

end

end Sys2Proof.Proofs
end

section
/-! The gate unit and the corridor unit keep the fourth and fifth law (R64, R122), and so does what the rights table, the
windows and the links do beside them. -/

namespace Sys2Proof.Proofs

open Sys2Proof.Machine Sys2Proof.Laws

variable {s : State} {e : Setting} {v : Run} {c g k x : Nat}

/-! ## The gate unit (Chapter 7) -/

/-- A change of a gate that does not make it active (R122). -/
theorem kept_modGate_quiet (h : RunKept s e v) {f : GateRun → GateRun}
    (quiet : ∀ r, (f r).state.active = true → r.state.active = true) : RunKept s e (v.modGate g f) :=
  kept_modGate h fun r _ after => .inl (quiet r after)

theorem kept_stopTimer (h : RunKept s e v) : RunKept s e (v.stopTimer g) := kept_modGate_quiet h fun _ => id

theorem kept_owe (h : RunKept s e v) : RunKept s e (v.owe g) := kept_modGate_quiet h fun _ => id

theorem kept_gateBusy (h : RunKept s e v) : RunKept s e (gateBusy v g) := kept_ite (fun _ => kept_stopTimer h) fun _ => h

theorem kept_startHold (h : RunKept s e v) : RunKept s e (startHold e v g) := by
  unfold startHold
  split
  · exact kept_ite (fun _ => kept_later h) fun _ => kept_modGate_quiet h fun _ => id
  · exact h

theorem kept_gateIdleCheck (h : RunKept s e v) : RunKept s e (gateIdleCheck e v g) :=
  kept_ite (fun _ => kept_startHold h) fun _ => h

theorem kept_queueFilled (h : RunKept s e v) : RunKept s e (queueFilled e v x) := by
  unfold queueFilled
  split
  · exact kept_gateBusy h
  · exact h

theorem kept_queueEmptied (h : RunKept s e v) : RunKept s e (queueEmptied e v x) := by
  unfold queueEmptied
  split
  · exact kept_gateIdleCheck h
  · exact h

theorem kept_gateReleased (h : RunKept s e v) : RunKept s e (gateReleased e v g) :=
  kept_ite (fun _ => h) fun _ => kept_ite (fun _ => kept_later h) fun _ => kept_gateIdleCheck h

/-- A gate opens from CALLING, where it was active already (R125). -/
theorem kept_gateOpens (h : RunKept s e v) (calling : ∀ r, v.gate g = some r → r.state.active = true) :
    RunKept s e (gateOpens v g) := by
  have opened : RunKept s e (v.modGate g fun r => { r with state := .opened, timer := none, due := false }) :=
    kept_modGate h fun r found _ => .inl (calling r found)
  unfold gateOpens
  dsimp only
  repeat' split
  all_goals exact opened

/-- A gate becomes CALLING only while its partner is not active (R123, R124). -/
theorem kept_gateCalls (h : RunKept s e v) (alone : ∀ p, e.map.partner g = some p → v.gateActive p = false) :
    RunKept s e (gateCalls e v g) := by
  have called : RunKept s e (v.modGate g fun r => { r with
      state := .calling, callPending := false
      timer := (Table.find e.map.gates g).map GateBinding.callLimit, due := false }) :=
    kept_modGate h fun _ _ _ => .inr alone
  refine kept_ite (fun _ => kept_gateOpens called fun r found => ?_) fun _ => called
  rw [Run.gate_modGate_self] at found
  obtain ⟨q, -, rfl⟩ := Option.map_eq_some_iff.mp found
  rfl

theorem kept_gateCall (h : RunKept s e v) : RunKept s e (gateCall e v g) := by
  unfold gateCall
  split
  · exact h
  · split
    · split
      next single => exact kept_gateCalls h fun p partner => by rw [single] at partner; cases partner
      next q paired =>
        refine kept_ite (fun _ => kept_later (kept_owe h)) fun _ => kept_ite (fun _ => kept_owe h) fun apart => ?_
        refine kept_gateCalls h fun p partner => ?_
        rw [paired] at partner
        cases partner
        exact Bool.eq_false_iff.mpr apart
    · exact kept_owe h
    all_goals exact h

theorem kept_gateOpened (h : RunKept s e v) : RunKept s e (gateOpened e v g) := by
  refine kept_ite (fun _ => ?_) fun _ => h
  split <;> exact kept_later h

theorem kept_gateAfterOffer (h : RunKept s e v) : RunKept s e (gateAfterOffer e v g) := by
  have closed : RunKept s e { v with opening := v.opening.erase g } := h
  exact kept_ite (fun _ => kept_ite (fun _ => kept_later closed) fun _ => kept_gateIdleCheck closed) fun _ => closed

theorem kept_gateDrain (h : RunKept s e v) : RunKept s e (gateDrain e v g) := by
  refine kept_ite (fun opened => ?_) fun _ => h
  have drained : RunKept s e (v.modGate g fun r => { r with state := .draining, timer := none, due := false }) :=
    kept_modGate h fun r found _ => .inl (by rw [← gateState_of_gate found, opened]; rfl)
  exact kept_ite (fun _ => drained) fun _ => kept_later drained

theorem kept_gateShut (h : RunKept s e v) : RunKept s e (gateShut v g) :=
  kept_ite (fun _ => kept_modGate_quiet (f := fun r => { r with state := .shut, timer := none, due := false }) h
    fun _ => nofun) fun _ => h

/-- The call of an owed partner finds the gate that changed inactive (R124). -/
theorem kept_gateOwedPartner (h : RunKept s e v) : RunKept s e (gateOwedPartner e v g) := by
  unfold gateOwedPartner
  split
  · exact h
  next p paired =>
    refine kept_ite (fun owed => kept_gateCalls h fun q partner => ?_) fun _ => h
    rw [partner_symm paired] at partner
    cases partner
    simp only [Bool.and_eq_true, Bool.not_eq_true'] at owed
    exact owed.2

theorem kept_gateOwedSelf (h : RunKept s e v) : RunKept s e (gateOwedSelf e v g) :=
  kept_ite (fun _ => h) fun _ => kept_gateCall h

theorem kept_gateFaults (h : RunKept s e v) : RunKept s e (gateFaults e v g) :=
  kept_modGate_quiet (f := fun _ => { state := .fault, callPending := false, timer := none, due := false }) h fun _ => nofun

/-! ## The corridor unit (Chapter 4) -/

section
variable {r : CorridorRun}

/-- The record with a turn carrier appointed is the record, or one of a corridor that is not FREE (R67). -/
theorem freeIsIdle_appointedRecord (h : FreeIsIdle r) : FreeIsIdle (appointedRecord e v k r) := by
  by_cases flowing : r.condition = .flowing
  · refine freeIsIdle_of_not_free ?_
    obtain ⟨moving, -⟩ := condition_flowing_iff.mp flowing
    rw [appointedRecord_eq]
    split
    · split <;> exact moving
    · exact moving
  · rwa [appointedRecord_of_not_flowing e v k flowing]

theorem freeIsIdle_enteredRecord (position : Nat) : FreeIsIdle (enteredRecord r position c) := by
  refine freeIsIdle_of_not_free ?_
  change (if r.direction = .free then entryDirection position else r.direction) ≠ .free
  split
  · unfold entryDirection
    split <;> decide
  next moving => exact moving

theorem freeIsIdle_refusedRecord (flowing : r.condition = .flowing) : FreeIsIdle (refusedRecord r c) :=
  freeIsIdle_of_not_free (condition_flowing_iff.mp flowing).1

theorem freeIsIdle_withoutOccupant (h : FreeIsIdle r) : FreeIsIdle (withoutOccupant r c) := by
  intro free
  obtain ⟨empty, still⟩ := h free
  exact ⟨by simp only [withoutOccupant, empty, List.filter_nil], still⟩

/-- A corridor becomes FREE by a leaving without occupants and from FLOWING, so without a turn (R70). -/
theorem freeIsIdle_leftRecord (h : FreeIsIdle r) : FreeIsIdle (leftRecord r) := by
  unfold leftRecord
  split
  next empty =>
    split
    next flowing => exact fun _ => ⟨empty, (condition_flowing_iff.mp flowing).2⟩
    next pending =>
      refine freeIsIdle_of_not_free ?_
      obtain ⟨moving, -⟩ := condition_turnPending_iff.mp pending
      cases direction : r.direction with
      | free => exact absurd direction moving
      | ab => exact nofun
      | ba => exact nofun
    · exact h
    · exact h
  · exact h

theorem freeIsIdle_clearedRecord (h : FreeIsIdle r) : FreeIsIdle (clearedRecord r) := fun free => ⟨(h free).1, rfl, rfl⟩

end

theorem kept_corridorEnter (h : RunKept s e v) {position : Nat} : RunKept s e (corridorEnter e v k position c) := by
  rw [corridorEnter_eq]
  exact kept_setAndRecompute h fun _ => freeIsIdle_appointedRecord (freeIsIdle_enteredRecord position)

theorem kept_corridorFailed (h : RunKept s e v) : RunKept s e (corridorFailed e v k c) := by
  by_cases flowing : (v.corridor k).condition = .flowing
  · rw [corridorFailed_flowing e v k c flowing]
    exact kept_setAndRecompute h fun _ => freeIsIdle_refusedRecord flowing
  · rwa [corridorFailed_of_not_flowing e v k c flowing]

theorem kept_corridorLeave (h : RunKept s e v) : RunKept s e (corridorLeave e v k c) := by
  rw [corridorLeave_eq]
  exact kept_later (kept_setAndRecompute h fun idle => freeIsIdle_leftRecord (freeIsIdle_withoutOccupant idle))

theorem kept_cancelTurn (h : RunKept s e v) : RunKept s e (cancelTurn e v k) := by
  by_cases freed : (v.corridor k).condition = .turned ∧ (v.corridor k).occupants = []
  · obtain ⟨turned, empty⟩ := freed
    rw [cancelTurn_turned e v k turned empty]
    refine kept_later (kept_setAndRecompute h ?_)
    exact fun _ _ => ⟨empty, rfl, rfl⟩
  · rw [cancelTurn_else e v k freed]
    exact kept_setAndRecompute h fun idle => freeIsIdle_appointedRecord (freeIsIdle_clearedRecord idle)

theorem kept_cancelTurns (h : RunKept s e v) : RunKept s e (cancelTurns e v c) :=
  kept_foldl (fun _ _ h => kept_ite (fun _ => kept_cancelTurn h) fun _ => h) h

/-! ## Windows and links (R108, R110, Chapter 9) -/

theorem kept_fetchTrigger (h : RunKept s e v) : RunKept s e (fetchTrigger v c) :=
  kept_ite (fun _ => kept_setEngine h) fun _ => h

theorem kept_send (h : RunKept s e v) {p : Payload} : RunKept s e (send v c p) := by
  unfold send
  split
  · exact kept_ite (fun _ => kept_raise (kept_setLink h)) fun _ => kept_setLink h
  · exact h

theorem kept_sendStop (h : RunKept s e v) : RunKept s e (sendStop v c) := by
  unfold sendStop
  split
  · exact kept_send h
  · exact h

theorem kept_setHome (h : RunKept s e v) {l : Nat} : RunKept s e (setHome v c l) := by
  refine kept_modCtx ?_
  split
  · exact kept_ite (fun _ => h) fun _ => kept_setLink h
  · exact h

theorem kept_removeMessages (h : RunKept s e v) : RunKept s e (removeMessages v c) :=
  kept_foldl (fun _ _ h => kept_setLink h) h

/-! ## Queues, reservations and releases (R23, R24, R33 to R36, R76) -/

theorem kept_leaveQueue (h : RunKept s e v) : RunKept s e (leaveQueue e v c) := by
  unfold leaveQueue
  split
  · exact h
  next y _ =>
    have taken : RunKept s e ((v.takeFrom y c).dropSeniority c) := h
    exact kept_ite (fun _ => kept_queueEmptied taken) fun _ => taken

theorem kept_leaveWaiting (h : RunKept s e v) : RunKept s e (leaveWaiting e v c) := kept_clearWait (kept_leaveQueue h)

theorem kept_reserve (h : RunKept s e v) {p : Nat × Nat} : RunKept s e (reserve e c v p) :=
  kept_ite (fun _ => kept_recompute (kept_setReservations (kept_setCell h))) fun _ => h

theorem kept_clearReservations (h : RunKept s e v) {ps : List (Nat × Nat)} : RunKept s e (clearReservations e v c ps) :=
  kept_later (kept_foldl (fun _ _ h => kept_recompute (kept_setReservations (kept_setCell h))) h)

theorem kept_release (h : RunKept s e v) {entries : List Held} : RunKept s e (release e v c entries) :=
  kept_ite (fun _ => h) fun _ =>
    kept_modCtx (kept_foldl (fun _ _ h => kept_later (kept_modCtx (kept_setCell h))) h)

theorem kept_laneClosesUp (h : RunKept s e v) {wasOldest : Bool} {behind : Option Nat} :
    RunKept s e (laneClosesUp e v x wasOldest behind) := by
  cases wasOldest with
  | true =>
    rw [laneClosesUp_oldest]
    exact kept_later (kept_of_edgesOnly (retargetLane_edgesOnly ..) h)
  | false => exact kept_of_edgesOnly (laneClosesUp_other_edgesOnly e v x behind) h

theorem kept_leaveCorridorOf (h : RunKept s e v) : RunKept s e (leaveCorridorOf e v c x) := by
  unfold leaveCorridorOf
  split
  · exact h
  · exact kept_ite (fun _ => kept_corridorLeave h) fun _ => h

theorem kept_freed (h : RunKept s e v) {emptied wasOldest : Bool} {behind : Option Nat} :
    RunKept s e (freed e v c x emptied wasOldest behind) := by
  refine kept_later ?_
  split
  · exact kept_gateReleased (kept_leaveCorridorOf (kept_ite (fun _ => kept_laneClosesUp h) fun _ => h))
  · exact kept_leaveCorridorOf (kept_ite (fun _ => kept_laneClosesUp h) fun _ => h)

theorem kept_freedSettle (h : RunKept s e v) {offers : Bool} : RunKept s e (freedSettle e v x offers) :=
  kept_ite (fun _ => kept_later (kept_recompute h)) fun _ => kept_recompute h

end Sys2Proof.Proofs
end

section
/-! The authority unit, the carrier table and the route fetch engine keep the fourth and fifth law: they change corridors and
gates only by the reports of grants, failures and releases; and so does every piece of work, and the whole of an event. -/

namespace Sys2Proof.Proofs

open Sys2Proof.Machine Sys2Proof.Laws

variable {s : State} {e : Setting} {v : Run} {c g k x y j : Nat} {run : List (Nat × Nat)} {after : After} {granted : Bool}

/-! ## The authority unit (Chapter 3) -/

theorem kept_grantCell (h : RunKept s e v) {p : Nat × Nat} : RunKept s e (grantCell e c v p) :=
  kept_modCtx (kept_ite (fun _ => kept_setReservations (kept_setCell h)) fun _ => kept_setCell h)

/-- The first report of a grant: the carrier enters the corridor of the cell, where it is no occupant (R28, R68). -/
def enterCorridorOf (e : Setting) (c : Nat) (v : Run) (x : Nat) : Run :=
  match e.map.corridorOf x with
  | some (k, position) => if (v.corridor k).occupants.contains c then v else corridorEnter e v k position c
  | none => v

theorem kept_enterCorridorOf (h : RunKept s e v) : RunKept s e (enterCorridorOf e c v x) := by
  unfold enterCorridorOf
  split
  · exact kept_ite (fun _ => h) fun _ => kept_corridorEnter h
  · exact h

/-- The reports of a grant: the corridor's, then the gate's, which hears of a holder as it hears of a waiter (R28, R127). -/
theorem grantReport_eq (e : Setting) (c : Nat) (v : Run) (p : Nat × Nat) :
    grantReport e c v p = queueFilled e (enterCorridorOf e c v p.1) p.1 := rfl

theorem kept_grantReport (h : RunKept s e v) {p : Nat × Nat} : RunKept s e (grantReport e c v p) := by
  rw [grantReport_eq]
  exact kept_queueFilled (kept_enterCorridorOf h)

theorem kept_grantRun (h : RunKept s e v) : RunKept s e (grantRun e v c run) :=
  kept_foldl (fun _ _ h => kept_grantReport h) (kept_foldl (fun _ _ h => kept_recompute h)
    (kept_modCtx (kept_leaveWaiting (kept_foldl (fun _ _ h => kept_grantCell h) h))))

theorem kept_passOver (h : RunKept s e v) : RunKept s e (passOver e v c y run) :=
  kept_ite (fun _ => h) fun _ =>
    kept_ite (fun _ => kept_foldl (fun _ _ h => kept_reserve h) (kept_modCtx h)) fun _ => kept_modCtx h

theorem kept_placeWaiter (h : RunKept s e v) {cause : BlockCause} {taken : Option Nat} :
    RunKept s e (placeWaiter e v c y j cause taken) := by
  refine kept_ite (fun _ => kept_setCell h) fun _ => ?_
  have left : RunKept s e (if (v.queueOf c).isSome then leaveQueue e v c else v) :=
    kept_ite (fun _ => kept_leaveQueue h) fun _ => h
  generalize (if (v.queueOf c).isSome then leaveQueue e v c else v) = u at left ⊢
  have joined : RunKept s e (if taken = some y ∧ u.records.seniority.contains c then u else u.joinSeniority c) :=
    kept_ite (fun _ => left) fun _ => left
  exact kept_ite (fun _ => kept_queueFilled (kept_setCell joined)) fun _ => kept_setCell joined

/-- The call of the gate of a PORTAL at which a run has failed (R29, R123). -/
def callGateOf (e : Setting) (v : Run) (y : Nat) : Run :=
  match e.map.gateOf y with
  | some g => v.later [.gateCall g]
  | none => v

theorem kept_callGateOf (h : RunKept s e v) : RunKept s e (callGateOf e v y) := by
  unfold callGateOf
  split
  · exact kept_later h
  · exact h

theorem kept_runFails (h : RunKept s e v) {cause : BlockCause} {target taken : Option Nat} :
    RunKept s e (runFails e v c run y j cause target taken) := by
  have placed := kept_placeWaiter (c := c) (y := y) (j := j) (cause := cause) (taken := taken) h
  have waiting : RunKept s e (recordWait e (placeWaiter e v c y j cause taken) c y
    (decide (v.queueOf c = some y) || decide (taken = some y))) := placed
  have called := kept_callGateOf (y := y) (kept_passOver (c := c) (y := y) (run := run)
    (kept_setEdge (c := c) (t := target) waiting))
  refine kept_ite (fun _ => ?_) fun _ => called
  split
  · exact kept_corridorFailed called
  · exact called

theorem kept_attemptStart (h : RunKept s e v) : RunKept s e (attemptStart e v c after) := by
  refine kept_ite (fun _ => ?_) fun _ => ?_
  all_goals cases after
  all_goals exact h

theorem kept_attemptRound (h : RunKept s e v) : RunKept s e (attemptRound e v c granted after) := by
  refine kept_ite (fun _ => h) fun _ => ?_
  split
  · exact kept_later h
  · dsimp only
    split
    · exact kept_later (kept_runFails h)
    · split
      · exact kept_later (kept_runFails h)
      · exact kept_later (kept_grantRun h)

theorem kept_waitInLane (h : RunKept s e v) : RunKept s e (waitInLane e v c x) :=
  kept_setEdge (kept_modCtx (kept_leaveQueue h))

theorem kept_settleWait (h : RunKept s e v) {reason : Reason} : RunKept s e (settleWait e v c reason) := by
  unfold settleWait
  split
  · exact h
  · split
    · exact kept_waitInLane h
    · exact h
  all_goals exact kept_leaveWaiting h

/-- The message that ends an attempt, by what follows it (R45, R61). -/
def attemptMessage (e : Setting) (v : Run) (c : Nat) (granted : Bool) : After → Run
  | .reply => send v c (currentReply e v c)
  | .noticeAndReply => send (sendNotice e v c) c (currentReply e (sendNotice e v c) c)
  | .noticeAlways => sendNotice e v c
  | .noticeIfGranted => if granted then sendNotice e v c else v
  | .offered _ _ => if granted then sendNotice e v c else v

theorem kept_attemptMessage (h : RunKept s e v) : RunKept s e (attemptMessage e v c granted after) := by
  cases after with
  | reply => exact kept_send h
  | noticeAndReply => exact kept_send (kept_send h)
  | noticeAlways => exact kept_send h
  | noticeIfGranted => exact kept_ite (fun _ => kept_send h) fun _ => h
  | offered => exact kept_ite (fun _ => kept_send h) fun _ => h

theorem kept_attemptEnd (h : RunKept s e v) {reason : Reason} : RunKept s e (attemptEnd e v c reason granted after) := by
  have told := kept_attemptMessage (c := c) (granted := granted) (after := after)
    (kept_settleWait (c := c) (reason := reason) (kept_modCtx (c := c) (f := fun k => { k with blockReason := some reason }) h))
  have fetched := kept_ite (p := granted = true) (fun _ => kept_fetchTrigger (c := c) told) fun _ => told
  cases after with
  | offered x left => exact kept_later (kept_ite (fun _ => kept_queueEmptied fetched) fun _ => fetched)
  | reply => exact fetched
  | noticeAndReply => exact fetched
  | noticeAlways => exact fetched
  | noticeIfGranted => exact fetched

theorem kept_offerStart (h : RunKept s e v) : RunKept s e (offerStart e v x) := kept_ite (fun _ => h) fun _ => h

theorem kept_offerNext (h : RunKept s e v) {left : List Nat} : RunKept s e (offerNext e v x left) := by
  unfold offerNext
  split
  · exact h
  · split <;> exact h

/-! ## Halting and the ends of routes (R85, R93, R95) -/

theorem kept_giveUpClaims (h : RunKept s e v) : RunKept s e (giveUpClaims e v c) :=
  kept_later (kept_modCtx (kept_leaveWaiting h))

theorem kept_becomeStopped (h : RunKept s e v) {cause : StopCause} : RunKept s e (becomeStopped v c cause) := h

theorem kept_halt (h : RunKept s e v) {cause : StopCause} : RunKept s e (halt e v c cause) := by
  unfold halt
  dsimp only
  split
  · exact kept_later (kept_giveUpClaims (kept_modCtx h))
  · exact kept_ite (fun _ => kept_modCtx h) fun _ => h
  · exact kept_ite (fun _ => kept_raise (kept_modCtx h)) fun _ => h
  all_goals exact h

theorem kept_trim (h : RunKept s e v) : RunKept s e (trim e v c) := kept_modCtx (kept_release h)

theorem kept_routeEnd (h : RunKept s e v) {result : RouteResult} : RunKept s e (routeEnd e v c result) :=
  kept_later (kept_release h)

theorem kept_rangeEnd (h : RunKept s e v) {result : RouteResult} : RunKept s e (rangeEnd e v c result) :=
  kept_later (kept_release h)

theorem kept_queueWriteBack (h : RunKept s e v) {result : RouteResult} : RunKept s e (queueWriteBack v c result) := by
  unfold queueWriteBack
  dsimp only
  split
  · exact kept_setEngine h
  · exact h

theorem kept_routeEndRest (h : RunKept s e v) {result : RouteResult} : RunKept s e (routeEndRest e v c result) := by
  refine kept_ite (fun _ => h) fun _ => kept_raise ?_
  have ended : RunKept s e (clearWait e (((queueWriteBack v c result).setEngine
      ((queueWriteBack v c result).records.engine.dropFetch c)).modCtx c fun k => k.endRoute result) c) :=
    kept_clearWait (kept_modCtx (kept_setEngine (kept_queueWriteBack h)))
  exact kept_ite (fun _ => kept_giveUpClaims ended) fun _ => ended

theorem kept_routeStart (h : RunKept s e v) : RunKept s e (routeStart e v c) := by
  unfold routeStart
  dsimp only
  split <;> exact h

/-! ## Resuming, recovering, retiring (R98, R99, R102) -/

theorem kept_resume (h : RunKept s e v) : RunKept s e (resume e v c) :=
  kept_ite (fun _ => kept_later (kept_modCtx h)) fun _ => h

theorem kept_recoverRest (h : RunKept s e v) : RunKept s e (recoverRest e v c) :=
  kept_ite (fun _ => kept_later (kept_modCtx h)) fun _ => h

theorem kept_retireMark (h : RunKept s e v) : RunKept s e (v.retireMark c) :=
  kept_of_edgesOnly (retireMark_edgesOnly v c) h

theorem kept_retireRest (h : RunKept s e v) : RunKept s e (retireRest v c) :=
  kept_ite (fun _ => kept_modCtx (kept_retireMark (kept_removeMessages (kept_queueWriteBack (kept_setEngine h)))))
    fun _ => h

/-! ## Carrier requests (R86 to R97) -/

theorem kept_cutEnd (h : RunKept s e v) : RunKept s e (cutEnd e v c) := kept_later (kept_routeEnd h)

theorem kept_passRest (h : RunKept s e v) {speed : Nat} : RunKept s e (passRest e v c speed) :=
  kept_ite (fun _ => kept_cutEnd h) fun _ => kept_later h

theorem kept_haltingRest (h : RunKept s e v) {speed : Nat} : RunKept s e (haltingRest e v c speed) :=
  kept_ite (fun _ => kept_later (kept_trim h)) fun _ => kept_later h

theorem kept_haltingExit (h : RunKept s e v) : RunKept s e (haltingExit e v c) := by
  refine kept_ite (fun _ => ?_) fun _ => h
  split
  · exact kept_later (kept_rangeEnd h)
  · exact kept_ite (fun _ => kept_later (kept_modCtx h)) fun _ => kept_later (kept_modCtx h)
  · exact kept_later (kept_becomeStopped h)
  · exact kept_later h

theorem kept_movePosition (h : RunKept s e v) {f r : Nat} : RunKept s e (movePosition e v c f r x) :=
  kept_release (kept_modCtx h)

theorem kept_replyAfterRestore (h : RunKept s e v) {wasSilent : Bool} :
    RunKept s e (replyAfterRestore e v c wasSilent) := kept_ite (fun _ => kept_later h) fun _ => kept_send h

theorem kept_charge (h : RunKept s e v) {wasSilent : Bool} : RunKept s e (charge e v c wasSilent) :=
  kept_ite (fun _ => kept_later (kept_modCtx h)) fun _ => kept_replyAfterRestore (kept_modCtx h)

theorem kept_recordSpeed (h : RunKept s e v) {speed : Nat} : RunKept s e (v.recordSpeed c speed) := h

theorem kept_runningPass (h : RunKept s e v) {f r speed : Nat} {wasSilent : Bool} :
    RunKept s e (runningPass e v c f r x speed wasSilent) := by
  unfold runningPass
  split
  · exact kept_replyAfterRestore h
  · exact kept_later (kept_raise (kept_recordSpeed h))
  · exact kept_charge (kept_recordSpeed h)
  · exact kept_later (kept_movePosition (kept_recordSpeed h))

theorem kept_runningAsk (h : RunKept s e v) {f speed requested : Nat} {resume : Bool} :
    RunKept s e (runningAsk e v c f speed requested resume) := by
  have asked : RunKept s e ((recordRequest e v c requested).recordSpeed c speed) := h
  exact kept_ite (fun _ => kept_cutEnd (kept_ite (fun _ => kept_modCtx asked) fun _ => asked)) fun _ =>
    kept_later (kept_ite (fun _ => kept_modCtx asked) fun _ => asked)

theorem kept_runningDone (h : RunKept s e v) {f speed : Nat} {wasSilent : Bool} :
    RunKept s e (runningDone e v c f speed wasSilent) :=
  kept_ite (fun _ => kept_later (kept_routeEnd (kept_recordSpeed h))) fun _ => kept_charge (kept_recordSpeed h)

theorem kept_haltingOverrun (h : RunKept s e v) {speed : Nat} : RunKept s e (haltingOverrun v c speed) :=
  kept_later (kept_ite (fun _ => kept_becomeStopped (kept_raise h)) fun _ => kept_raise h)

theorem kept_haltingPass (h : RunKept s e v) {f r speed : Nat} : RunKept s e (haltingPass e v c f r x speed) := by
  unfold haltingPass
  split
  · exact kept_later h
  · exact kept_haltingOverrun (kept_recordSpeed h)
  · exact kept_later (kept_recordSpeed h)
  · exact kept_later (kept_movePosition (kept_recordSpeed h))

theorem kept_haltingAsk (h : RunKept s e v) {f speed requested : Nat} :
    RunKept s e (haltingAsk e v c f speed requested) := by
  have asked : RunKept s e ((recordRequest e v c requested).recordSpeed c speed) := h
  exact kept_ite (fun _ => kept_later (kept_becomeStopped (kept_raise asked))) fun _ => kept_later asked

theorem kept_carrierRequest (h : RunKept s e v) {q : Request} : RunKept s e (carrierRequest e v c q) := by
  have restored : RunKept s e (restoreContact v c) := h
  unfold carrierRequest
  dsimp only
  split
  · exact restored
  · exact kept_send restored
  · exact kept_send restored
  · refine kept_ite (fun _ => ?_) fun _ => kept_send restored
    cases q with
    | ask => exact kept_runningAsk restored
    | pass => exact kept_runningPass restored
    | done => exact kept_runningDone restored
  · cases q with
    | ask => exact kept_haltingAsk restored
    | pass => exact kept_haltingPass restored
    | done => exact restored
  · exact kept_sendStop restored

theorem kept_frameArrives (h : RunKept s e v) {l : Nat} {q : Request} : RunKept s e (frameArrives e v l c q) :=
  kept_ite (fun _ => kept_setLink h) fun _ => kept_carrierRequest (kept_setHome h)

/-! ## Contact (R100, R101) -/

theorem kept_silenceReached (h : RunKept s e v) : RunKept s e (silenceReached e v c) :=
  kept_ite (fun _ => kept_ite (fun _ => kept_giveUpClaims (kept_modCtx h)) fun _ => kept_modCtx h) fun _ => h

theorem kept_lostReached (h : RunKept s e v) : RunKept s e (lostReached e v c) := by
  refine kept_ite (fun _ => ?_) fun _ => h
  split
  · exact kept_later (kept_giveUpClaims (kept_becomeStopped (kept_modCtx h)))
  · exact kept_later (kept_becomeStopped (kept_modCtx h))
  all_goals exact kept_modCtx h

/-! ## Every piece of work, and the whole of an event -/

theorem kept_runTask (h : RunKept s e v) (a : Task) : RunKept s e (runTask e a v) := by
  cases a with
  | attempt => exact kept_attemptStart h
  | round => exact kept_attemptRound h
  | attemptEnd => exact kept_attemptEnd h
  | openDeferred => exact h
  | offer => exact kept_offerStart h
  | offerNext => exact kept_offerNext h
  | gateCall => exact kept_gateCall h
  | gateOpened => exact kept_gateOpened h
  | gateAfterOffer => exact kept_gateAfterOffer h
  | gateDrain => exact kept_gateDrain h
  | gateShut => exact kept_gateShut h
  | gateOwedPartner => exact kept_gateOwedPartner h
  | gateOwedSelf => exact kept_gateOwedSelf h
  | freed => exact kept_freed h
  | freedSettle => exact kept_freedSettle h
  | halt => exact kept_halt h
  | clearReservations => exact kept_clearReservations h
  | cancelTurns => exact kept_cancelTurns h
  | stopNotice => exact kept_sendStop h
  | waitReply => exact kept_send h
  | passRest => exact kept_passRest h
  | haltingRest => exact kept_haltingRest h
  | haltingExit => exact kept_haltingExit h
  | routeEndRest => exact kept_routeEndRest h
  | resume => exact kept_resume h
  | recoverRest => exact kept_recoverRest h
  | retireRelease => exact kept_release h
  | retireRest => exact kept_retireRest h
  | fetchTrigger => exact kept_fetchTrigger h

theorem trackKept_settled {r : Records} (h : RunKept s e v) (rest : settled e v = some r) :
    TrackKept s e r.corridors r.gates :=
  settled_keeps (fun q => TrackKept s e q.corridors q.gates) (fun a _ kept => kept_runTask kept a) rest h

/-! ## The route fetch engine (Chapter 6) -/

theorem kept_appendSteps (h : RunKept s e v) {n : Nat} {records : List Slot} :
    RunKept s e (appendSteps e c n v records).1 := by
  induction records generalizing v with
  | nil => exact h
  | cons q rest ih =>
    rw [appendSteps]
    split
    · exact h
    · split
      · exact ih h
      · exact h

theorem kept_cutRoute (h : RunKept s e v) {f : Nat} {result : RouteResult} :
    RunKept s e (cutRoute e v c f result).1 := by
  unfold cutRoute
  split
  · exact kept_modCtx h
  · exact h

theorem kept_clearBeyondCut (h : RunKept s e v) : RunKept s e (clearBeyondCut e v c) := by
  unfold clearBeyondCut
  split
  · exact kept_clearReservations h
  · exact h

theorem kept_actOnRead (h : RunKept s e v) {o : ReadOutcome} : RunKept s e (actOnRead e v c o) := by
  unfold actOnRead
  generalize (v.ctx c).state = state
  cases o with
  | failedStart => cases state with
    | attached => exact kept_routeEnd h
    | _ => exact h
  | noUsableCut => cases state with
    | attached => exact kept_routeEnd h
    | running => exact kept_rangeEnd h
    | halting => exact kept_rangeEnd h
    | stopped => exact kept_rangeEnd h
    | _ => exact h
  | cut => cases state with
    | attached => exact kept_routeStart h
    | running => exact kept_later (kept_clearBeyondCut h)
    | _ => exact h
  | appended => cases state with
    | attached => exact kept_routeStart h
    | _ => exact h
  | nothing => exact h

theorem kept_useSteps (h : RunKept s e v) {records : List Slot} : RunKept s e (useSteps e v c records) := by
  unfold useSteps
  dsimp only
  have appended := kept_appendSteps (c := c) (n := (v.ctx c).stepCount.getD 0) (records := records) h
  split
  · exact kept_actOnRead appended
  · exact kept_ite (fun _ => kept_actOnRead (kept_raise (kept_modCtx appended))) fun _ =>
      kept_actOnRead (kept_cutRoute (kept_raise (kept_modCtx appended)))

theorem kept_useData (h : RunKept s e v) {first : Bool} {data : List Byte} : RunKept s e (useData e v c first data) :=
  kept_ite (fun _ => kept_ite (fun _ => kept_useSteps (kept_modCtx h)) fun _ => kept_actOnRead (kept_raise h))
    fun _ => kept_useSteps h

theorem kept_busFault (h : RunKept s e v) : RunKept s e (busFault e v c) :=
  kept_ite (fun _ => kept_actOnRead (kept_raise h)) fun _ => kept_actOnRead (kept_cutRoute (kept_raise h))

theorem kept_endRead (h : RunKept s e v) {r : ReadInFlight} {data : Option (List Byte)} :
    RunKept s e (endRead e v r data) := by
  refine kept_later (kept_ite (fun _ => ?_) fun _ => kept_setEngine h)
  cases data with
  | some d => exact kept_useData (kept_setEngine h)
  | none => exact kept_busFault (kept_setEngine h)

theorem kept_completionArrives (h : RunKept s e v) {number : Byte} {status : CompletionStatus} {data : List Byte} :
    RunKept s e (completionArrives e v number status data) := by
  unfold completionArrives
  dsimp only
  split
  · exact h
  · refine kept_ite (fun _ => h) fun _ => ?_
    cases status with
    | aborted => exact kept_endRead h
    | poisoned => exact kept_endRead h
    | good => exact kept_ite (fun _ => kept_endRead h) fun _ => kept_setEngine h

theorem kept_readTimerExpires (h : RunKept s e v) : RunKept s e (readTimerExpires e v) := by
  unfold readTimerExpires
  dsimp only
  split
  · exact kept_ite (fun _ => kept_endRead h) fun _ => h
  · exact h

theorem kept_perstAsserted (h : RunKept s e v) : RunKept s e (perstAsserted e v) := by
  unfold perstAsserted
  dsimp only
  split
  · exact kept_ite (fun _ => kept_setEngine h) fun _ => kept_endRead (kept_setEngine h)
  · exact kept_setEngine h

theorem kept_serveFetch (h : RunKept s e v) : RunKept s e (serveFetch v) := by
  unfold serveFetch
  dsimp only
  split
  · exact kept_ite (fun _ => kept_ite (fun _ => h) fun _ => h) fun _ => h
  all_goals exact h

theorem kept_serveWriteBack (h : RunKept s e v) : RunKept s e (serveWriteBack v) := by
  unfold serveWriteBack
  dsimp only
  split
  · exact kept_ite (fun _ => kept_setEngine h) fun _ => h
  all_goals exact h

end Sys2Proof.Proofs
end

section
/-! Every command and event keeps the fourth and fifth law (O7). While no map has passed there is no gate record, and a map
that passes, or RESTART, makes every corridor FREE and every gate SHUT. -/

namespace Sys2Proof.Proofs

open Sys2Proof.Machine Sys2Proof.Laws

section
variable {s t : State} {e : Setting} {v : Run} {c x : Nat}

/-! ## From the first effects of an event to the part after it -/

/-- The fourth and fifth law of the part `s`, on the part `t`. -/
abbrev StateKept (s t : State) : Prop := TrackKept s t.setting t.records.corridors t.records.gates

/-- What a command's plan leaves: nothing where it refuses, and where it accepts the laws under the setting it takes. -/
def Plan.Kept (s : State) : Plan → Prop
  | .refuse _ _ => True
  | .accept p u _ => RunKept s p.setting u

theorem stateKept_of_command {code : Byte} {n : Nat} {plan : Plan} (h : runCommand code n s plan = .next t)
    (kept : Plan.Kept s plan) : StateKept s t := by
  rcases runCommand_next h with ⟨-, rfl⟩ | ⟨status, data, -, rfl⟩ | ⟨p, u, data, r, rfl, rest, rfl⟩
  · exact trackKept_refl t
  · exact trackKept_refl s
  · exact trackKept_settled kept rest

theorem stateKept_of_finish {o : State} (h : finish s v = .next t) (kept : RunKept o s.setting v) : StateKept o t := by
  obtain ⟨r, rest, rfl⟩ := finish_next h
  exact trackKept_settled kept rest

theorem stateKept_of_event {f : Setting → Run → Run} (h : runEvent s f = .next t)
    (kept : RunKept s s.setting s.run → RunKept s s.setting (f s.setting s.run)) : StateKept s t := by
  rcases runEvent_next h with ⟨-, rfl⟩ | ⟨r, rest, rfl⟩
  · exact trackKept_refl t
  · exact trackKept_settled (kept (trackKept_refl s)) rest

/-! ## Plans -/

theorem kept_refused (status : Status) : Plan.Kept s (.refused status) := trivial

theorem kept_done_self (data : List Byte) : Plan.Kept s (.done s data) := trackKept_refl s

theorem kept_acts (kept : RunKept s s.setting s.run → RunKept s s.setting v) : Plan.Kept s (.acts s v) :=
  kept (trackKept_refl s)

theorem kept_plan_ite {p : Prop} [Decidable p] {a b : Plan} (ha : p → Plan.Kept s a) (hb : ¬p → Plan.Kept s b) :
    Plan.Kept s (if p then a else b) := by
  split
  next here => exact ha here
  next here => exact hb here

theorem kept_cellEdit {cell : Half} {plan : Plan} (kept : Plan.Kept s plan) : Plan.Kept s (cellEdit s cell plan) :=
  kept_plan_ite (fun _ => kept_plan_ite (fun _ => kept) fun _ => kept_refused _) fun _ => kept_refused _

theorem kept_carrierCommand {accepts : OpState → Bool} {carrier : Half} {fields : Bool} {plan : Plan}
    (kept : Plan.Kept s plan) : Plan.Kept s (carrierCommand s accepts carrier fields plan) :=
  kept_plan_ite (fun _ => kept_plan_ite (fun _ => kept) fun _ => kept_refused _) fun _ => kept_refused _

theorem kept_query {α : Type} (accepts : Bool) (record : Option α) (data : α → List Byte) :
    Plan.Kept s (query s accepts record data) := by
  refine kept_plan_ite (fun _ => ?_) fun _ => kept_refused _
  cases record with
  | none => exact kept_refused _
  | some a => exact kept_done_self _

/-! ## Other settings, and records built anew (R8 to R15, R155 to R159) -/

/-- The laws depend on a setting by whether a map has passed and by the partners of gates. -/
theorem TrackKept.of_setting {corridors : Table CorridorRun} {gates : Table GateRun} (h : TrackKept s s.setting corridors gates)
    (loaded : e.op.loaded = false → s.setting.op.loaded = false) (partners : e.map.gates = s.setting.map.gates) :
    TrackKept s e corridors gates where
  fourth := h.fourth
  unlisted law unloaded := h.unlisted law (loaded unloaded)
  pairs law g p partner := h.pairs law g p (by rwa [MapStore.partner, ← partners])

/-- Without corridor and gate records there is nothing that the laws forbid. -/
theorem trackKept_empty : TrackKept s e [] [] :=
  ⟨fun _ _ _ => ⟨rfl, rfl, rfl⟩, fun _ _ => rfl, fun _ _ _ _ active => nomatch active.1⟩

/-- A map that passes, and RESTART, make every corridor FREE and every gate SHUT (R79, R132). -/
theorem trackKept_loaded (m : MapStore) (r : Records) (loaded : e.op.loaded = true) :
    TrackKept s e (r.loaded m).corridors (r.loaded m).gates where
  fourth _ k := by
    have found := Table.find_map m.corridors (fun _ => CorridorRun.idle) k
    change FreeIsIdle ((Table.find (m.corridors.map _) k).getD _)
    rw [found]
    cases Table.find m.corridors k <;> exact fun _ => ⟨rfl, rfl, rfl⟩
  unlisted _ unloaded := by rw [loaded] at unloaded; cases unloaded
  pairs _ g p _ := by
    rintro ⟨active, -⟩
    have found := Table.find_map m.gates (fun _ => GateRun.shut) g
    change (((Table.find (m.gates.map _) g).map GateRun.state).getD .shut).active = true at active
    rw [found] at active
    cases both : Table.find m.gates g <;> rw [both] at active <;> cases active

/-- While a map is loaded there is no gate record, so its partners may change. -/
theorem kept_mapRecord {α : Type} (fields : Option α) (store : α → MapStore) : Plan.Kept s (mapRecord s fields store) := by
  refine kept_plan_ite (fun loading => ?_) fun _ => kept_refused _
  cases fields with
  | none => exact kept_refused _
  | some a =>
    have before := trackKept_refl s
    have unlisted (law : s.fifthLaw) : s.records.gates = [] := before.unlisted law (by rw [loading]; rfl)
    refine ⟨before.fourth, fun law _ => unlisted law, fun law g p _ active => ?_⟩
    have here : activeIn s.records.gates g = true := active.1
    rw [unlisted law] at here
    cases here

theorem stateKept_mapBegin (h : execMapBegin s = .next t) : StateKept s t := by
  refine stateKept_of_command h ?_
  split
  · exact trackKept_empty
  · exact trackKept_empty
  · exact kept_plan_ite (fun _ => kept_refused _) fun _ => trackKept_empty
  · exact kept_refused _
  · exact kept_refused _

theorem stateKept_mapEnd (h : execMapEnd s = .next t) : StateKept s t := by
  refine stateKept_of_command h (kept_plan_ite (fun _ => ?_) fun _ => kept_refused _)
  split
  · trivial
  · exact trackKept_loaded s.setting.map s.records rfl

/-! ## The operating states (R155 to R157) -/

/-- Another operating state with a passed map changes nothing the laws read. -/
theorem kept_enter {o : OpState} (loaded : o.loaded = true) {l : List Task} :
    RunKept s (s.enter o).setting (s.run.later l) :=
  (trackKept_refl s).of_setting (fun unloaded => by
    change o.loaded = false at unloaded
    rw [loaded] at unloaded
    cases unloaded) rfl

theorem stateKept_allStop (h : execAllStop s = .next t) : StateKept s t := by
  refine stateKept_of_command h ?_
  split
  · exact kept_enter rfl
  · exact kept_done_self _
  all_goals exact kept_refused _

theorem stateKept_estopNLevelChange {level : Level} (h : execEstopNLevelChange level s = .next t) : StateKept s t := by
  simp only [execEstopNLevelChange] at h
  split at h
  · cases h
    exact trackKept_refl s
  · split at h
    · cases h
      exact trackKept_refl s
    · split at h
      · cases h
        exact trackKept_refl s
      · split at h
        · exact stateKept_of_finish h (kept_enter (s := s) rfl)
        · cases h
          exact trackKept_refl s

/-! ## Edits and carrier commands (R16 to R19, R81 to R83, R98, R99, R130) -/

theorem kept_closeRun (h : RunKept s e v) : RunKept s e (closeRun e v x) :=
  kept_ite (fun _ => h) fun _ => kept_recompute (kept_setCell h)

theorem kept_openRun (h : RunKept s e v) : RunKept s e (openRun e v x) :=
  kept_ite (fun _ => kept_ite (fun _ => kept_later (kept_recompute (kept_setCell h)))
    fun _ => kept_recompute (kept_setCell h)) fun _ => h

theorem kept_limitRun (h : RunKept s e v) {lowered : Bool} : RunKept s e (limitRun e v x lowered) :=
  kept_ite (fun _ => kept_foldl (fun _ _ h => kept_ite (fun _ => kept_send h) fun _ => h) h) fun _ => h

/-- A limit is no part of a gate's binding. -/
theorem kept_setLimit (x limit : Nat) (lowered : Bool) : Plan.Kept s (.acts (s.setMap (s.setting.map.withLimit x limit))
    (limitRun (s.setMap (s.setting.map.withLimit x limit)).setting s.run x lowered)) := by
  have before : RunKept s (s.setMap (s.setting.map.withLimit x limit)).setting s.run := (trackKept_refl s).of_setting id rfl
  exact kept_limitRun before

theorem kept_gateResetRun (h : RunKept s e v) {g : Nat} : RunKept s e (gateResetRun v g) :=
  kept_later (kept_modGate_quiet (f := fun _ => GateRun.shut) h fun _ active => absurd active (by decide))

theorem stateKept_gateReset {gate : Byte} (h : execGateReset gate s = .next t) : StateKept s t := by
  refine stateKept_of_command h (kept_plan_ite (fun _ => ?_) fun _ => kept_refused _)
  split
  · exact kept_refused _
  · exact kept_plan_ite (fun _ => kept_acts fun h => kept_gateResetRun h) fun _ => kept_refused _

theorem kept_enrolPlan (c cls x base size : Nat) : Plan.Kept s (enrolPlan s c cls x base size) := by
  refine kept_plan_ite (fun _ => kept_refused _) fun _ => ?_
  split
  · exact kept_refused _
  · refine kept_plan_ite (fun _ => kept_plan_ite (fun _ => ?_) fun _ => kept_refused _) fun _ => kept_refused _
    exact kept_acts fun h => kept_modCtx (kept_recompute (kept_setCell h))

theorem stateKept_detach {carrier : Half} (h : execDetach carrier s = .next t) : StateKept s t := by
  refine stateKept_of_command h (kept_carrierCommand ?_)
  split
  · exact kept_acts fun h => kept_routeEnd h
  · exact kept_acts fun h => kept_halt h
  all_goals exact kept_refused _

theorem kept_retireRun (h : RunKept s e v) : RunKept s e (retireRun e v c) := kept_later (kept_modCtx (kept_leaveWaiting h))

/-! ## Pins, timers and transfers -/

theorem kept_readyRun (h : RunKept s e v) {g : Nat} : RunKept s e (readyRun e v g) := by
  unfold readyRun
  split
  next calling =>
    refine kept_ite (fun _ => kept_gateOpens h fun r found => ?_) fun _ => h
    rw [← gateState_of_gate found, calling]
    rfl
  · exact kept_ite (fun _ => h) fun _ => kept_gateFaults h
  · exact kept_ite (fun _ => h) fun _ => kept_gateFaults h
  · exact h
  · exact h

theorem stateKept_readyChange {gate : Fin 16} {level : Level} (h : execReadyChange gate level s = .next t) :
    StateKept s t := by
  simp only [execReadyChange] at h
  have before : TrackKept s { s.setting with ready := Table.put s.setting.ready .low gate level } s.records.corridors
    s.records.gates := (trackKept_refl s).of_setting id rfl
  split at h
  · cases h
    exact trackKept_refl s
  · split at h
    · cases h
      exact before
    · exact stateKept_of_finish h (kept_readyRun before)

theorem stateKept_pePerstNAsserted (h : execPePerstNAsserted s = .next t) : StateKept s t := by
  unfold execPePerstNAsserted at h
  split at h
  · cases h
    exact trackKept_refl s
  · exact stateKept_of_finish h (kept_perstAsserted (trackKept_refl s))

theorem stateKept_shiftBuffer {n : Nat} (h : shiftBuffer n s = .next t) : StateKept s t := by
  unfold shiftBuffer at h
  split at h
  all_goals
    cases h
    exact trackKept_refl s

theorem stateKept_unknownCommand {frame : List Byte} (h : execUnknownCommand frame s = .next t) : StateKept s t := by
  unfold execUnknownCommand at h
  split at h
  · exact stateKept_shiftBuffer h
  · split at h
    · exact stateKept_shiftBuffer h
    · exact stateKept_of_command h (kept_refused _)

/-- A tick counts a gate's timer and leaves its state (R121, R162). -/
theorem activeIn_ticked (s : State) (g : Nat) : activeIn s.ticked.records.gates g = activeIn s.records.gates g := by
  have found := Table.find_map s.records.gates GateRun.tick g
  change (((Table.find (s.records.gates.map _) g).map GateRun.state).getD .shut).active = _
  rw [found, Option.map_map]
  rfl

theorem stateKept_tick (h : execTick s = .next t) : StateKept s t := by
  unfold execTick at h
  have before := trackKept_refl s
  split at h
  · cases h
    exact before
  · cases h
    refine ⟨before.fourth, fun law unloaded => ?_, fun law g p partner => ?_⟩
    · exact List.map_eq_nil_iff.mpr (before.unlisted law unloaded)
    · rw [activeIn_ticked, activeIn_ticked]
      exact before.pairs law g p partner

theorem kept_clearanceRun (h : RunKept s e v) : RunKept s e (clearanceRun e v x) :=
  kept_ite (fun _ => kept_ite (fun _ => kept_recompute (kept_setCell h))
    fun _ => kept_later (kept_recompute (kept_setCell h))) fun _ => h

theorem kept_goodFrame (h : RunKept s e v) {l : Nat} {q : Request} : RunKept s e (goodFrame e v l c q) :=
  kept_frameArrives (kept_setLink h)

theorem kept_characterRun (h : RunKept s e v) {l : Nat} {char : Byte} {framingError : Bool} :
    RunKept s e (characterRun e v l char framingError) := by
  unfold characterRun
  dsimp only
  split
  · exact kept_setLink h
  · exact kept_setLink (kept_setLink h)
  · exact kept_frameArrives (kept_setLink h)

/-! ## Every command and event -/

theorem stateKept_exec (i : Instr) (h : exec i s = .next t) : StateKept s t := by
  cases i with
  | mapBegin => exact stateKept_mapBegin h
  | mapCell => exact stateKept_of_command h (kept_mapRecord ..)
  | mapCorridor => exact stateKept_of_command h (kept_mapRecord ..)
  | mapGate => exact stateKept_of_command h (kept_mapRecord ..)
  | mapClass => exact stateKept_of_command h (kept_mapRecord ..)
  | mapEnd => exact stateKept_mapEnd h
  | activate => exact stateKept_of_command h (kept_plan_ite (fun _ => kept_enter (l := []) rfl) fun _ => kept_refused _)
  | allStop => exact stateKept_allStop h
  | resumeAll => exact stateKept_of_command h (kept_plan_ite (fun _ => kept_enter rfl) fun _ => kept_refused _)
  | restart =>
    exact stateKept_of_command h
      (kept_plan_ite (fun _ => trackKept_loaded s.setting.map s.records rfl) fun _ => kept_refused _)
  | closeCell => exact stateKept_of_command h (kept_cellEdit (kept_acts fun h => kept_closeRun h))
  | openCell => exact stateKept_of_command h (kept_cellEdit (kept_acts fun h => kept_openRun h))
  | setLimit =>
    exact stateKept_of_command h
      (kept_cellEdit (kept_plan_ite (fun _ => kept_refused _) fun _ => kept_setLimit ..))
  | gateReset => exact stateKept_gateReset h
  | enrol => exact stateKept_of_command h (kept_carrierCommand (kept_enrolPlan ..))
  | attach =>
    exact stateKept_of_command h
      (kept_carrierCommand (kept_plan_ite (fun _ => kept_acts fun h => kept_setEngine (kept_modCtx h)) fun _ => kept_refused _))
  | detach => exact stateKept_detach h
  | stop =>
    exact stateKept_of_command h
      (kept_carrierCommand (kept_plan_ite (fun _ => kept_acts fun h => kept_halt h) fun _ => kept_refused _))
  | recover =>
    exact stateKept_of_command h
      (kept_carrierCommand (kept_plan_ite (fun _ => kept_acts fun h => kept_later (kept_trim h)) fun _ => kept_refused _))
  | retire =>
    exact stateKept_of_command h
      (kept_carrierCommand (kept_plan_ite (fun _ => kept_refused _) fun _ => kept_acts fun h => kept_retireRun h))
  | clearAlerts =>
    simp only [exec, execClearAlerts] at h
    exact stateKept_of_command h (trackKept_refl s)
  | setAlertEnable =>
    simp only [exec, execSetAlertEnable] at h
    exact stateKept_of_command h (trackKept_refl s)
  | readStatus =>
    simp only [exec, execReadStatus] at h
    exact stateKept_of_command h (kept_done_self _)
  | readCell => exact stateKept_of_command h (kept_query ..)
  | readCarrier => exact stateKept_of_command h (kept_query ..)
  | readCorridor => exact stateKept_of_command h (kept_query ..)
  | readGate => exact stateKept_of_command h (kept_query ..)
  | readDeadlock => exact stateKept_of_command h (kept_query ..)
  | readLink =>
    refine stateKept_of_command h (kept_plan_ite (fun _ => ?_) fun _ => kept_refused _)
    split <;> exact trackKept_refl s
  | readTransfer => exact stateKept_shiftBuffer h
  | unknownCommand => exact stateKept_unknownCommand h
  | estopNLevelChange => exact stateKept_estopNLevelChange h
  | hardReset =>
    cases h
    exact trackKept_empty
  | resetNRelease clrate =>
    change execResetNRelease clrate s = _ at h
    unfold execResetNRelease at h
    split at h
    · cases h
      exact trackKept_empty
    · cases h
      exact trackKept_refl s
  | tick => exact stateKept_tick h
  | clearanceCountdownExpiry =>
    simp only [exec, execClearanceCountdownExpiry] at h
    exact stateKept_of_event h fun h => kept_clearanceRun h
  | silenceLimit =>
    simp only [exec, execSilenceLimit] at h
    exact stateKept_of_event h fun h => kept_silenceReached h
  | lostLimit =>
    simp only [exec, execLostLimit] at h
    exact stateKept_of_event h fun h => kept_lostReached h
  | callTimerExpiry =>
    simp only [exec, execCallTimerExpiry] at h
    exact stateKept_of_event h fun h => kept_ite (fun _ => kept_gateFaults h) fun _ => h
  | holdOpenExpiry =>
    simp only [exec, execHoldOpenExpiry] at h
    exact stateKept_of_event h fun h => kept_ite (fun _ => kept_gateShut h) fun _ => h
  | readTimerExpiry => exact stateKept_of_event h fun h => kept_readTimerExpires h
  | readyChange => exact stateKept_readyChange h
  | pePerstNAsserted => exact stateKept_pePerstNAsserted h
  | pePerstNReleased =>
    cases h
    exact trackKept_refl s
  | ask =>
    simp only [exec, execAsk] at h
    exact stateKept_of_event h fun h => kept_goodFrame h
  | pass =>
    simp only [exec, execPass] at h
    exact stateKept_of_event h fun h => kept_goodFrame h
  | done =>
    simp only [exec, execDone] at h
    exact stateKept_of_event h fun h => kept_goodFrame h
  | frameFailure =>
    simp only [exec, execFrameFailure] at h
    exact stateKept_of_event h fun h => kept_setLink (kept_setLink h)
  | readCompletion =>
    simp only [exec, execReadCompletion] at h
    exact stateKept_of_event h fun h => kept_completionArrives h
  | serveFetch =>
    simp only [exec, execServeFetch] at h
    exact stateKept_of_event h fun h => kept_serveFetch h
  | serveWriteBack =>
    simp only [exec, execServeWriteBack] at h
    exact stateKept_of_event h fun h => kept_serveWriteBack h
  | transmissionStart =>
    simp only [exec, execTransmissionStart] at h
    exact stateKept_of_event h fun h => kept_setLink h
  | transmissionComplete =>
    simp only [exec, execTransmissionComplete] at h
    exact stateKept_of_event h fun h => kept_setLink h
  | characterReceived =>
    simp only [exec, execCharacterReceived] at h
    exact stateKept_of_event h fun h => kept_characterRun h

/-- A step takes the front of the queue, which neither law reads. -/
theorem stateKept_step (h : step s = .next t) : StateKept s t := by
  unfold step at h
  split at h
  · cases h
    exact trackKept_refl s
  next i rest _ =>
    obtain ⟨fourth, unlisted, pairs⟩ := stateKept_exec i h
    exact ⟨fourth, unlisted, pairs⟩

end

/-- Settles O7: every command and event keeps the fourth and fifth law, piece of work by piece of work; the acts of the
corridor unit and of the lane order are read off the one record, or the one chain of edges, that each changes. -/
theorem corridorAndGateLawsKept : Obligations.CorridorAndGateLawsKept :=
  ⟨fun _ _ law h => fourthLaw_of_trackKept (stateKept_step h) law,
    fun _ _ law h => fifthLaw_of_trackKept (stateKept_step h) law, corridorUnitActs, laneClosesUp_acts⟩

end Sys2Proof.Proofs
end

section
/-! How an event whose carrier waits for nothing comes to rest, piece by piece: claims given up quietly (R24, R32, R34, R71),
messages and fetches (R61, R110), and an attempt that meets a stop test at once (R45, R48, R54). -/

namespace Sys2Proof.Proofs

open Sys2Proof.Machine Sys2Proof.Laws

/-! ## The carriers and cells of the part an event leaves -/

theorem ctx_of_records {t : State} {v : Run} (h : t.records = v.records) (c : Nat) : t.ctx c = v.ctx c := by
  rw [State.ctx, h, Run.ctx]

theorem cell_of_records {t : State} {v : Run} (h : t.records = v.records) (x : Nat) : t.cell x = v.cell x := by
  rw [State.cell, h, Run.cell]

/-! ## Pieces of work in a row -/

section
variable {e : Setting} {v u w : Run}

/-- A run with no work of its own, outside every attempt and offer: what a piece of work starts from. -/
structure Calm (v : Run) : Prop where
  work : v.work = []
  deferring : v.deferring = false
  deferred : v.deferred = []

theorem calm_run (s : State) : Calm s.run := ⟨rfl, rfl, rfl⟩

theorem Calm.modCtx (h : Calm v) (c : Nat) (f : Context → Context) : Calm (v.modCtx c f) := ⟨h.work, h.deferring, h.deferred⟩

theorem Calm.setCell (h : Calm v) (x : Nat) (r : CellRun) : Calm (v.setCell x r) := ⟨h.work, h.deferring, h.deferred⟩

/-- A calm run is as it is with nothing deferred. -/
theorem Calm.undeferred (h : Calm v) : ({ v with deferring := false, deferred := [] } : Run) = v := by
  obtain ⟨-, deferring, deferred⟩ := h
  rw [← deferring, ← deferred]

theorem Calm.raise (h : Calm v) (f : AlertFlag) : Calm (v.raise f) := ⟨h.work, h.deferring, h.deferred⟩

theorem Calm.of_quiet (h : Calm v) (q : Quiet v u) : Calm u :=
  ⟨q.work.trans h.work, q.deferring.trans h.deferring, q.deferred.trans h.deferred⟩

theorem Calm.of_linksOnly (h : Calm v) (l : LinksOnly v u) : Calm u :=
  ⟨l.work.trans h.work, l.deferring.trans h.deferring, l.deferred.trans h.deferred⟩

theorem Calm.of_readsAs (h : Calm v) (r : ReadsAs v u) : Calm u :=
  ⟨r.work.trans h.work, r.deferring.trans h.deferring, r.deferred.trans h.deferred⟩

theorem Calm.fetchTrigger (h : Calm v) (c : Nat) : Calm (fetchTrigger v c) := by
  obtain ⟨g, hg⟩ := fetchTrigger_eq v c
  rw [hg]
  exact ⟨h.work, h.deferring, h.deferred⟩

theorem later_later (v : Run) (ts us : List Task) : (v.later ts).later us = v.later (ts ++ us) := by
  simp [Run.later]

/-- `n` pieces of the work of `v` leave `u`. -/
def Reaches (e : Setting) (n : Nat) (v u : Run) : Prop := ∀ m, settle (m + n) e v = settle m e u

theorem Reaches.refl (e : Setting) (v : Run) : Reaches e 0 v v := fun _ => rfl

theorem Reaches.trans {n m : Nat} (h : Reaches e n v u) (g : Reaches e m u w) : Reaches e (n + m) v w := fun k => by
  rw [show k + (n + m) = k + m + n by omega, h, g]

/-- The first piece of work done, its own work ahead of the rest. -/
theorem Reaches.run {a : Task} {rest : List Task} (h : runTask e a v = u) (hv : v.work = []) :
    Reaches e 1 (v.later (a :: rest)) (u.later rest) := fun m => by
  have bare : ({ v.later (a :: rest) with work := [] } : Run) = v := by
    rw [Run.later, ← hv]
  have begins : (v.later (a :: rest)).work = a :: rest := by simp [Run.later, hv]
  exact settle_cons m begins (by rw [bare]; exact h)

theorem Reaches.first {a : Task} {rest ts : List Task} (h : runTask e a v = u.later ts) (hv : v.work = []) :
    Reaches e 1 (v.later (a :: rest)) (u.later (ts ++ rest)) := by
  have done := Reaches.run (rest := rest) h hv
  rwa [later_later] at done

/-- An event whose work is done within the bound has come to rest. -/
theorem Reaches.settled {n : Nat} (h : Reaches e n v (u.later [])) (hu : u.work = []) (hn : n ≤ 16777216) :
    settled e v = some u.records :=
  settled_of_settle n (by
    have done := h 0
    rw [Nat.zero_add] at done
    rw [done, settle_later_nil 0 hu]) hn

end

/-! ## Runs that read the same, with the same cells -/

section
variable {v u w : Run}

theorem quiet_of_readsAs (h : ReadsAs v u) (cells : u.records.cells = v.records.cells) : Quiet v u where
  records := by rw [h.records, cells]
  work := h.work
  deferring := h.deferring
  deferred := h.deferred
  opening := h.opening
  ctx := h.ctx

theorem cells_of_quiet (h : Quiet v u) : u.records.cells = v.records.cells := by rw [h.records]

theorem quiet_sameRights (h : Quiet v u) : SameRights v u := (readsAs_of_quiet h).sameRights

theorem quiet_symm (h : Quiet v u) : Quiet u v := quiet_of_readsAs (readsAs_of_quiet h).symm (cells_of_quiet h).symm

theorem quiet_modCtx (h : Quiet v u) (c : Nat) (f : Context → Context) : Quiet (v.modCtx c f) (u.modCtx c f) :=
  quiet_of_readsAs ((readsAs_of_quiet h).modCtx c f) (cells_of_quiet (v := v) (u := u) h)

/-- One change of a context in place of two. -/
theorem quiet_modCtx_modCtx (v : Run) (c : Nat) {f g k : Context → Context} (h : k (v.ctx c) = g (f (v.ctx c))) :
    Quiet (v.modCtx c k) ((v.modCtx c f).modCtx c g) := quiet_of_readsAs (readsAs_modCtx_modCtx v c h) rfl

/-- Two changes of a context that come to the same. -/
theorem quiet_modCtx_congr (v : Run) (c : Nat) {f g : Context → Context} (h : f (v.ctx c) = g (v.ctx c)) :
    Quiet (v.modCtx c f) (v.modCtx c g) := by
  have same : v.modCtx c f = v.modCtx c g := by rw [Run.modCtx, Run.modCtx, h]
  rw [same]
  exact .refl _

theorem quiet_raise (h : Quiet v u) (f : AlertFlag) : Quiet (v.raise f) (u.raise f) :=
  quiet_of_readsAs ((readsAs_of_quiet h).raise f) (cells_of_quiet (v := v) (u := u) h)

theorem quiet_setEngine (h : Quiet v u) (g : Engine) : Quiet (v.setEngine g) (u.setEngine g) :=
  quiet_of_readsAs ((readsAs_of_quiet h).setEngine g) (cells_of_quiet (v := v) (u := u) h)

theorem cells_send (v : Run) (c : Nat) (p : Payload) : (send v c p).records.cells = v.records.cells := by
  rw [(send_linksOnly v c p).records]

theorem quiet_send (h : Quiet v u) (c : Nat) (p : Payload) : Quiet (send v c p) (send u c p) :=
  quiet_of_readsAs ((readsAs_of_quiet h).send c p) (by rw [cells_send, cells_send, cells_of_quiet h])

theorem cells_fetchTrigger (v : Run) (c : Nat) : (fetchTrigger v c).records.cells = v.records.cells := by
  obtain ⟨g, hg⟩ := fetchTrigger_eq v c
  rw [hg]
  rfl

theorem quiet_fetchTrigger (h : Quiet v u) (c : Nat) : Quiet (fetchTrigger v c) (fetchTrigger u c) :=
  quiet_of_readsAs ((readsAs_of_quiet h).fetchTrigger c) (by rw [cells_fetchTrigger, cells_fetchTrigger, cells_of_quiet h])

/-- What follows an attempt or an offer in which no gate has opened. -/
theorem quiet_of_deferring {b : Bool} (h : Quiet { v with deferring := b } u) (d : v.deferred = []) (k : v.deferring = false) :
    Quiet v { u with deferring := false, deferred := [] } :=
  ⟨h.records, h.work, k.symm, d.symm, h.opening, h.ctx⟩

end

/-! ## A carrier that waits for nothing -/

section
variable {e : Setting} {v u : Run} {c : Nat}

/-- A carrier of a run that stands in no queue, has no reservation, no wait record, no deadlock mark and no turn. -/
structure Unclaiming (v : Run) (c : Nat) : Prop where
  queue : v.queueOf c = none
  reservations : v.reservations c = []
  wait : (v.ctx c).wait = none
  mark : Table.find v.records.marks c = none
  turn : ∀ k ∈ Table.keys v.records.corridors, (v.corridor k).turnCarrier ≠ some c

theorem unclaiming_of_claimsNothing {s : State} (h : s.claimsNothing c) : Unclaiming s.run c := by
  obtain ⟨queue, reservations, wait, mark, turn⟩ := h
  exact ⟨queue, reservations, wait, mark, turn⟩

theorem Unclaiming.of_quiet (h : Unclaiming v c) (q : Quiet v u) : Unclaiming u c where
  queue := by
    rw [Run.queueOf, cells_of_quiet q]
    exact h.queue
  reservations := by
    rw [Run.reservations, q.records]
    exact h.reservations
  wait := by
    rw [q.ctx]
    exact h.wait
  mark := by
    rw [q.records]
    exact h.mark
  turn := by
    simp only [Run.corridor]
    rw [q.records]
    exact h.turn

/-- A change of a context that sets no wait record leaves its carrier waiting for nothing. -/
theorem Unclaiming.modCtx (h : Unclaiming v c) {f : Context → Context} (hf : (f (v.ctx c)).wait = none) :
    Unclaiming (v.modCtx c f) c :=
  ⟨h.queue, h.reservations, by rw [Run.ctx_modCtx_self]; exact hf, h.mark, h.turn⟩

theorem Unclaiming.raise (h : Unclaiming v c) (f : AlertFlag) : Unclaiming (v.raise f) c :=
  ⟨h.queue, h.reservations, h.wait, h.mark, h.turn⟩

theorem Unclaiming.of_linksOnly (h : Unclaiming v c) (l : LinksOnly v u) : Unclaiming u c where
  queue := by
    rw [Run.queueOf, l.records]
    exact h.queue
  reservations := by
    rw [Run.reservations, l.records]
    exact h.reservations
  wait := by
    rw [l.ctx]
    exact h.wait
  mark := by
    rw [l.records]
    exact h.mark
  turn := by
    simp only [Run.corridor]
    rw [l.records]
    exact h.turn

/-- A context with its pass-over count at 0 (R32, R34). -/
def unpassed (k : Context) : Context := { k with passOver := 0 }

/-- A carrier without reservations and turns has none to clear (R34, R71). -/
theorem clearClaims_reaches (calm : Calm v) (free : Unclaiming v c) (rest : List Task) :
    Reaches e 2 (v.later (.clearReservations c :: .cancelTurns c :: rest)) (v.later rest) := by
  have cleared : runTask e (.clearReservations c) v = v := by
    change clearReservations e v c (v.reservations c) = v
    rw [free.reservations, clearReservations_nil]
  have cancelled : runTask e (.cancelTurns c) v = v := cancelTurns_none e v c free.turn
  exact (Reaches.run cleared calm.work).trans (Reaches.run cancelled calm.work)

/-- A carrier that waits for nothing gives up nothing but its pass-over count (R24, R32, R34, R71). -/
theorem giveUpClaims_reaches (calm : Calm v) (free : Unclaiming v c) (rest : List Task) :
    ∃ u, Quiet (v.modCtx c unpassed) u ∧ Reaches e 2 ((giveUpClaims e v c).later rest) (u.later rest) := by
  have given : Quiet (v.modCtx c unpassed) ((leaveWaiting e v c).modCtx c unpassed) :=
    quiet_modCtx (leaveWaiting_quiet e v c free.queue free.wait) c unpassed
  have begun : giveUpClaims e v c = ((leaveWaiting e v c).modCtx c unpassed).later [.clearReservations c, .cancelTurns c] := rfl
  refine ⟨_, given, ?_⟩
  rw [begun, later_later]
  exact clearClaims_reaches ((calm.modCtx c unpassed).of_quiet given)
    ((free.modCtx (f := unpassed) free.wait).of_quiet given) rest

/-- The STOP notice of a carrier with a stop cause (R93). -/
theorem sendStop_eq {cause : StopCause} (h : (v.ctx c).stopCause = some cause) : sendStop v c = send v c (.stop cause) := by
  simp only [sendStop, h]

theorem stopNotice_reaches {cause : StopCause} (calm : Calm v) (h : (v.ctx c).stopCause = some cause) (rest : List Task) :
    Reaches e 1 (v.later (.stopNotice c :: rest)) ((send v c (.stop cause)).later rest) :=
  Reaches.run (sendStop_eq h) calm.work

theorem waitReply_reaches {r : Reason} (calm : Calm v) (rest : List Task) :
    Reaches e 1 (v.later (.waitReply c r :: rest)) ((send v c (.wait (v.ctx c).authorityEnd 0 r)).later rest) :=
  Reaches.run rfl calm.work

theorem fetchTrigger_reaches (calm : Calm v) (rest : List Task) :
    Reaches e 1 (v.later (.fetchTrigger c :: rest)) ((fetchTrigger v c).later rest) :=
  Reaches.run rfl calm.work

/-- The context of a RUNNING carrier after a halt (R93). -/
def haltedContext (cause : StopCause) (k : Context) : Context :=
  { k with state := .halting, stopCause := some cause, passOver := 0 }

/-- The halt of a RUNNING carrier that waits for nothing: HALTING with the cause, and a STOP notice (R93). -/
theorem halt_reaches (calm : Calm v) (free : Unclaiming v c) (running : (v.ctx c).state = .running) (cause : StopCause)
    (rest : List Task) :
    ∃ u, Quiet (send (v.modCtx c (haltedContext cause)) c (.stop cause)) u ∧
      Reaches e 3 ((halt e v c cause).later rest) (u.later rest) := by
  have halted : halt e v c cause = (giveUpClaims e
      (v.modCtx c (fun k => { k with state := .halting, stopCause := some cause })) c).later [.stopNotice c] := by
    simp only [halt, running]
  obtain ⟨u, given, reaches⟩ := giveUpClaims_reaches (e := e)
    (calm.modCtx c (fun k => { k with state := .halting, stopCause := some cause })) (free.modCtx free.wait)
    (.stopNotice c :: rest)
  have quiet := (quiet_modCtx_modCtx v c (k := haltedContext cause)
    (f := fun k => { k with state := .halting, stopCause := some cause }) (g := unpassed) rfl).trans
    given
  have caused : (u.ctx c).stopCause = some cause := by
    rw [quiet.ctx, Run.ctx_modCtx_self]
    rfl
  refine ⟨_, quiet_send quiet c (.stop cause), ?_⟩
  rw [halted, later_later]
  exact reaches.trans (stopNotice_reaches ((calm.modCtx c _).of_quiet quiet) caused rest)

end

/-! ## An attempt that meets a stop test at once -/

section
variable {e : Setting} {v u : Run} {c : Nat} {after : After} {r : Reason}

/-- An attempt of its own, outside an offer, asks for its round with gates' openings deferred (R45, R126). -/
theorem attemptStart_alone (h : attemptAllowed e v c = true) (alone : ∀ x left, after ≠ .offered x left) :
    attemptStart e v c after = { v with deferring := true }.later [.round c false after, .openDeferred] := by
  cases after with
  | offered x left => exact absurd rfl (alone x left)
  | reply => exact if_pos h
  | noticeAndReply => exact if_pos h
  | noticeAlways => exact if_pos h
  | noticeIfGranted => exact if_pos h

/-- An attempt of its own that may not be made does nothing (R45). -/
theorem attemptStart_barred (h : attemptAllowed e v c = false) (alone : ∀ x left, after ≠ .offered x left) :
    attemptStart e v c after = v := by
  have barred : ¬ attemptAllowed e v c = true := by simp [h]
  cases after with
  | offered x left => exact absurd rfl (alone x left)
  | reply => exact if_neg barred
  | noticeAndReply => exact if_neg barred
  | noticeAlways => exact if_neg barred
  | noticeIfGranted => exact if_neg barred

/-- The end of an attempt outside an offer: the wait state settled, the message, and the fetch where a run was granted. -/
theorem attemptEnd_alone (granted : Bool) (alone : ∀ x left, after ≠ .offered x left) :
    attemptEnd e v c r granted after =
      (let u := attemptMessage e (settleWait e (v.modCtx c (noted r)) c r) c granted after
       if granted then fetchTrigger u c else u) := by
  cases after with
  | offered x left => exact absurd rfl (alone x left)
  | reply => rfl
  | noticeAndReply => rfl
  | noticeAlways => rfl
  | noticeIfGranted => rfl

theorem SameRights.currentReply (h : SameRights v u) (e : Setting) (c : Nat) : currentReply e u c = currentReply e v c := by
  obtain ⟨w, hw⟩ := h.ctx c
  simp only [Machine.currentReply, h.permittedSpeed, hw]
  rfl

theorem attemptMessage_linksOnly (e : Setting) (v : Run) (c : Nat) (granted : Bool) (after : After) :
    LinksOnly v (attemptMessage e v c granted after) := by
  cases after with
  | reply => exact send_linksOnly ..
  | noticeAndReply => exact (send_linksOnly ..).trans (send_linksOnly ..)
  | noticeAlways => exact send_linksOnly ..
  | noticeIfGranted =>
    cases granted
    · exact .refl v
    · exact send_linksOnly ..
  | offered =>
    cases granted
    · exact .refl v
    · exact send_linksOnly ..

theorem ReadsAs.sendNotice (h : ReadsAs v u) (c : Nat) : ReadsAs (sendNotice e v c) (sendNotice e u c) := by
  rw [Machine.sendNotice, Machine.sendNotice, h.sameRights.authNotice e c]
  exact h.send c _

theorem ReadsAs.attemptMessage (h : ReadsAs v u) (c : Nat) (granted : Bool) (after : After) :
    ReadsAs (attemptMessage e v c granted after) (attemptMessage e u c granted after) := by
  cases after with
  | reply =>
    rw [Proofs.attemptMessage, Proofs.attemptMessage, h.sameRights.currentReply e c]
    exact h.send c _
  | noticeAndReply =>
    have noticed := h.sendNotice (e := e) c
    rw [Proofs.attemptMessage, Proofs.attemptMessage, noticed.sameRights.currentReply e c]
    exact noticed.send c _
  | noticeAlways => exact h.sendNotice c
  | noticeIfGranted =>
    cases granted
    · exact h
    · exact h.sendNotice c
  | offered =>
    cases granted
    · exact h
    · exact h.sendNotice c

theorem quiet_attemptMessage (h : Quiet v u) (c : Nat) (granted : Bool) (after : After) :
    Quiet (attemptMessage e v c granted after) (attemptMessage e u c granted after) :=
  quiet_of_readsAs ((readsAs_of_quiet h).attemptMessage c granted after) (by
    rw [(attemptMessage_linksOnly e u c granted after).records, (attemptMessage_linksOnly e v c granted after).records]
    exact cells_of_quiet h)

/-- Openings deferred while nothing opens change nothing of a message. -/
theorem attemptMessage_deferring (b : Bool) (v : Run) (c : Nat) (granted : Bool) (after : After) :
    attemptMessage e { v with deferring := b } c granted after =
      { attemptMessage e v c granted after with deferring := b } := by
  have sent (v : Run) (p : Payload) : send { v with deferring := b } c p = { send v c p with deferring := b } :=
    send_deferring b v c p
  have noticed (v : Run) : sendNotice e { v with deferring := b } c = { sendNotice e v c with deferring := b } := sent v _
  cases after with
  | reply => exact sent v _
  | noticeAndReply =>
    rw [attemptMessage, noticed]
    exact sent _ _
  | noticeAlways => exact noticed v
  | noticeIfGranted =>
    cases granted
    · rfl
    · exact noticed v
  | offered =>
    cases granted
    · rfl
    · exact noticed v

/-- The end of the attempt or offer in progress, no gate having opened in it. -/
theorem openDeferred_reaches (idle : u.work = []) (none : u.deferred = []) (rest : List Task) :
    Reaches e 1 (u.later (.openDeferred :: rest)) ({ u with deferring := false, deferred := [] }.later rest) :=
  Reaches.first (ts := []) (openDeferred_none none) idle

/-- The attempt of a carrier that waits for nothing, made on its own, that meets a stop test other than lane order at once:
its reason is noted and its message sent (R45, R48, R54). -/
theorem attempt_stops_reaches (calm : Calm v) (free : Unclaiming v c) (allowed : attemptAllowed e v c = true)
    (stops : stopTest e v c = some r) (hr : r ≠ .order) (alone : ∀ x left, after ≠ .offered x left) (rest : List Task) :
    ∃ u, Quiet (attemptMessage e (v.modCtx c (noted r)) c false after) u ∧
      Reaches e 4 (v.later (.attempt c after :: rest)) (u.later rest) := by
  have start : runTask e (.attempt c after) v = _ := attemptStart_alone allowed alone
  have halts : runTask e (.round c false after) { v with deferring := true } =
      { v with deferring := true }.later [.attemptEnd c r false after] := attemptRound_stops allowed stops
  have free' : Unclaiming (({ v with deferring := true } : Run).modCtx c (noted r)) c :=
    ⟨free.queue, free.reservations, by rw [Run.ctx_modCtx_self]; exact free.wait, free.mark, free.turn⟩
  have settles := settleWait_quiet (e := e) hr free'.queue free'.wait
  have told := quiet_attemptMessage (e := e) settles c false after
  have ends : runTask e (.attemptEnd c r false after) { v with deferring := true } = _ := attemptEnd_alone false alone
  have base : attemptMessage e (({ v with deferring := true } : Run).modCtx c (noted r)) c false after =
      { attemptMessage e (v.modCtx c (noted r)) c false after with deferring := true } :=
    attemptMessage_deferring true (v.modCtx c (noted r)) c false after
  rw [base] at told
  have calm' := (calm.modCtx c (noted r)).of_linksOnly (attemptMessage_linksOnly e (v.modCtx c (noted r)) c false after)
  have idle := told.work.trans calm'.work
  refine ⟨_, quiet_of_deferring told calm'.deferred calm'.deferring, ?_⟩
  exact (Reaches.first start calm.work).trans
    ((Reaches.first halts calm.work).trans
      ((Reaches.run ends calm.work).trans (openDeferred_reaches idle (told.deferred.trans calm'.deferred) rest)))

/-- An attempt of its own that may not be made is over at once (R45). -/
theorem attempt_barred_reaches (calm : Calm v) (barred : attemptAllowed e v c = false)
    (alone : ∀ x left, after ≠ .offered x left) (rest : List Task) :
    Reaches e 1 (v.later (.attempt c after :: rest)) (v.later rest) :=
  Reaches.run (attemptStart_barred barred alone) calm.work

end

end Sys2Proof.Proofs
end

section
/-! ENROL and ATTACH (R82, R83): commands whose changes are all their first effects. -/

namespace Sys2Proof.Proofs

open Sys2Proof.Machine Sys2Proof.Laws

section
variable {s : State} {v : Run}

/-! ## ENROL (R82) -/

/-- The run of an accepted ENROL: the recomputation of R31 between the holder list and the context of R82's table. -/
theorem enrolRun_eq (e : Setting) (v : Run) (c cls : Nat) (r : ClassRec) (x base size : Nat) :
    ∃ u, CausesOnly (v.setCell x { v.cell x with holders := (v.cell x).holders ++ [c] }) u ∧
      (∀ y, y ≠ x → u.cell y = v.cell y) ∧
      enrolRun e v c cls r x base size = u.modCtx c (fun k => k.enrolled cls r x (e.map.contribution x) base size) := by
  refine ⟨_, recompute_causesOnly e _ x, fun y hy => ?_, rfl⟩
  rw [recompute_other_cell e _ x hy, Run.cell_setCell_other _ _ hy]

/-- The generation is no part of a wait edge. -/
theorem generation_of_butEdge {k q : Context} (h : k.butEdge = q.butEdge) : k.generation = q.generation :=
  show k.butEdge.generation = q.butEdge.generation from congrArg Context.generation h

theorem windowTaken_of_apart {base size : Nat} (h : ∀ d, (s.ctx d).state ≠ .vacant →
    (s.ctx d).windowBase + (s.ctx d).windowSize ≤ base ∨ base + size ≤ (s.ctx d).windowBase) :
    s.windowTaken base size = false := (windowTaken_eq_false_iff s base size).mpr (fun d _ => h d)

/-- Settles O28: the checks of R82 in order, and what its run leaves but for the recomputation of the cell's waiters. -/
theorem enrolEnrols : Obligations.EnrolEnrols := by
  unfold Obligations.EnrolEnrols
  intro carrier cls cell base size r s hs op hc hk hx hz hm hb vacant found standing outside room still apart
  have enrols : s.setting.map.enrolCell cell.toNat = true := by simp [MapStore.enrolCell, standing, outside]
  have plan : exec (.enrol carrier cls cell base size) s = runCommand 0x0F 9 s (.acts s
      (enrolRun s.setting s.run carrier.toNat cls.toNat r cell.toNat base.toNat size.toNat)) := by
    rw [exec_enrol_of_fields op ⟨hc, hk, hx, hz, hm, hb⟩, enrolPlan_checked vacant found, if_pos enrols, if_pos]
    simp [room, still, windowTaken_of_apart apart]
  obtain ⟨u, causes, others, enrolled⟩ := enrolRun_eq s.setting s.run carrier.toNat cls.toNat r cell.toNat base.toNat
    size.toNat
  have edges (d : Nat) : (u.ctx d).butEdge = (s.ctx d).butEdge := causes.ctx d
  rw [plan, enrolled]
  refine ⟨_, runCommand_accept hs (settled_rest causes.work), ?_, ?_, others, fun d hd => ?_, ?_, ?_, ?_, ?_, rfl, rfl⟩
  · refine (ctx_of_records rfl _).trans ?_
    rw [Run.ctx_modCtx_self, Context.enrolled, generation_of_butEdge (edges carrier.toNat)]
  · refine (causes.cell cell.toNat).trans ?_
    rw [Run.cell_setCell_self]
    rfl
  · rw [ctx_of_records rfl d, Run.ctx_modCtx_other _ _ hd]
    exact edges d
  · change u.records.links = _
    rw [causes.records]
    rfl
  · change u.records.engine = _
    rw [causes.records]
    rfl
  · change u.records.gates = _
    rw [causes.records]
    rfl
  · change u.records.corridors = _
    rw [causes.records]
    rfl

/-! ## ATTACH (R83) -/

theorem attachRun_ctx_self (e : Setting) (v : Run) (c : Nat) (a : Address) :
    (attachRun e v c a).ctx c = (v.ctx c).attached (e.map.classOf (v.ctx c)) a := by
  rw [attachRun, Run.ctx_setEngine, Run.ctx_modCtx_self]

theorem attachRun_ctx_other (e : Setting) (v : Run) (a : Address) {c d : Nat} (h : d ≠ c) :
    (attachRun e v c a).ctx d = v.ctx d := by
  rw [attachRun, Run.ctx_setEngine, Run.ctx_modCtx_other _ _ h]

/-- What ATTACH checks of the carrier itself (R83). -/
theorem exec_attach {carrier : Half} {address : Address} (op : s.setting.op = .active) (hc : carrier.toNat ≤ 255)
    (h : address.toNat % 16 = 0) :
    exec (.attach carrier address) s = runCommand 0x10 11 s
      (if (s.ctx carrier.toNat).state = .idle && !s.records.engine.writeBackQueued carrier.toNat then
        .acts s (attachRun s.setting s.run carrier.toNat address)
      else .refused .conflict) := by
  change execAttach carrier address s = _
  rw [execAttach, carrierCommand_plan (by simp [op]) hc (by simp [h])]
  rfl

/-- Settles O30: R83's checks in order, and the context and the fetch request of an accepted ATTACH. -/
theorem attachAttaches : Obligations.AttachAttaches := by
  unfold Obligations.AttachAttaches
  intro carrier address s hs op hc
  refine ⟨fun aligned idle empty => ?_, fun odd => ?_, fun aligned taken => ?_⟩
  · rw [exec_attach op hc aligned, if_pos (by simp [idle, empty])]
    refine ⟨_, runCommand_accept hs (settled_rest rfl), ?_, fun d hd => ?_, rfl, ⟨rfl, rfl, rfl, rfl, rfl, rfl, rfl⟩,
      rfl, rfl, rfl, rfl⟩
    · exact (ctx_of_records rfl _).trans (attachRun_ctx_self ..)
    · exact (ctx_of_records rfl d).trans (attachRun_ctx_other _ _ _ hd)
  · change execAttach carrier address s = _
    exact carrierCommand_range hs (by simp [op]) (by simp [odd])
  · rw [exec_attach op hc aligned, if_neg (by simpa [imp_iff_not_or] using taken)]
    exact runCommand_refuse hs

end

end Sys2Proof.Proofs
end

section
/-! What a message, a halt and the end of a route change and what they keep (R61, R85, R93), for a carrier that waits for
nothing. -/

namespace Sys2Proof.Proofs

open Sys2Proof.Machine Sys2Proof.Laws

/-! ## The track -/

section
variable {r q p : Records} {v u : Run} {c : Nat}

theorem sameTrack_trans (h : Records.sameTrack r q) (g : Records.sameTrack q p) : Records.sameTrack r p := by
  obtain ⟨cells, reservations, corridors, gates, slots, deadlocks, marks⟩ := h
  obtain ⟨cells', reservations', corridors', gates', slots', deadlocks', marks'⟩ := g
  exact ⟨cells'.trans cells, reservations'.trans reservations, corridors'.trans corridors, gates'.trans gates,
    slots'.trans slots, deadlocks'.trans deadlocks, marks'.trans marks⟩

theorem sameTrack_modCtx (v : Run) (c : Nat) (f : Context → Context) :
    Records.sameTrack v.records (v.modCtx c f).records := ⟨rfl, rfl, rfl, rfl, rfl, rfl, rfl⟩

theorem sameTrack_of_quiet (h : Quiet v u) : Records.sameTrack v.records u.records := by
  rw [h.records]
  exact ⟨rfl, rfl, rfl, rfl, rfl, rfl, rfl⟩

theorem sameTrack_of_linksOnly (h : LinksOnly v u) : Records.sameTrack v.records u.records := by
  rw [h.records]
  exact ⟨rfl, rfl, rfl, rfl, rfl, rfl, rfl⟩

theorem engine_of_quiet (h : Quiet v u) : u.records.engine = v.records.engine := by rw [h.records]

theorem links_of_quiet (h : Quiet v u) : u.records.links = v.records.links := by rw [h.records]

theorem alerts_of_quiet (h : Quiet v u) : u.records.alerts = v.records.alerts := by rw [h.records]

/-! ## Messages (R61, R149) -/

/-- Where a message goes hangs on the home link and what the links hold. -/
theorem links_send_congr (home : (u.ctx c).homeLink = (v.ctx c).homeLink) (links : u.records.links = v.records.links)
    (p : Payload) : (send u c p).records.links = (send v c p).records.links := by
  have link (l : Nat) : u.link l = v.link l := by rw [Run.link, links, Run.link]
  simp only [send, home]
  split
  · simp only [placeOn, link, Run.setLink, Run.raise, links]
    split <;> rfl
  · exact links

/-- An alert raised before a message stands after it. -/
theorem send_raised (home : (u.ctx c).homeLink = (v.ctx c).homeLink) (links : u.records.links = v.records.links)
    {flags : BitVec 10} (alerts : u.records.alerts = v.records.alerts ||| flags) (p : Payload) :
    (send u c p).records.links = (send v c p).records.links ∧
      (send u c p).records.alerts = (send v c p).records.alerts ||| flags := by
  have link (l : Nat) : u.link l = v.link l := by rw [Run.link, links, Run.link]
  simp only [send, home]
  split
  · simp only [placeOn, link, Run.setLink, Run.raise, links]
    split
    · exact ⟨rfl, by simp only [alerts, BitVec.or_assoc, BitVec.or_comm]⟩
    · exact ⟨rfl, alerts⟩
  · exact ⟨links, alerts⟩

/-- A message goes by the home link and what the links hold. -/
theorem send_congr (home : (u.ctx c).homeLink = (v.ctx c).homeLink) (links : u.records.links = v.records.links)
    (alerts : u.records.alerts = v.records.alerts) (p : Payload) :
    (send u c p).records.links = (send v c p).records.links ∧ (send u c p).records.alerts = (send v c p).records.alerts := by
  simpa using send_raised (flags := 0) home links (by simpa using alerts) p

/-- A flag that has been raised is set. -/
theorem flag_of_alerts {a : BitVec 10} {f : AlertFlag} (h : r.alerts = a ||| f.mask) : r.flag f = true := by
  have set : f.mask.getLsbD f.bit = true := by cases f <;> decide
  simp [Records.flag, h, set]

theorem engine_send (v : Run) (c : Nat) (p : Payload) : (send v c p).records.engine = v.records.engine := by
  rw [(send_linksOnly v c p).records]

/-- What a message followed by the fetch trigger changes: links and alerts by the message, the engine by the trigger. -/
theorem fetchTrigger_send_leaves {w : Run} {p : Payload} (h : Quiet (fetchTrigger (send w c p) c) u) :
    (∀ d, u.ctx d = w.ctx d) ∧ Records.sameTrack w.records u.records ∧ u.records.links = (send w c p).records.links ∧
      u.records.alerts = (send w c p).records.alerts ∧ u.records.engine = (fetchTrigger w c).records.engine := by
  have sent := send_linksOnly w c p
  obtain ⟨g, fetched⟩ := fetchTrigger_eq (send w c p) c
  have engine := (engine_of_quiet h).trans (fetchTrigger_send_engine w c p)
  rw [fetched] at h
  have track : Records.sameTrack (send w c p).records ((send w c p).setEngine g).records := ⟨rfl, rfl, rfl, rfl, rfl, rfl, rfl⟩
  refine ⟨fun d => (h.ctx d).trans (sent.ctx d),
    sameTrack_trans (sameTrack_of_linksOnly sent) (sameTrack_trans track (sameTrack_of_quiet h)), ?_, ?_, engine⟩
  · rw [h.records]
    rfl
  · rw [h.records]
    rfl

end

section
variable {e : Setting} {v : Run} {c : Nat} {r : Reason}

/-- The attempt of a carrier that waits for nothing, made on its own, which meets a stop test other than lane order, and the
fetch trigger behind it: the reason noted, the message sent (R45, R48, R54, R110). -/
theorem attemptThenFetch_reaches {b : Run} {after : After} (same : Quiet b v) (calm : Calm b) (free : Unclaiming b c)
    (active : e.op = .active) (runs : (b.ctx c).runsLive) (stops : stopTest e b c = some r) (hr : r ≠ .order)
    (alone : ∀ x left, after ≠ .offered x left) :
    ∃ u, Quiet (fetchTrigger (attemptMessage e (b.modCtx c (noted r)) c false after) c) u ∧ u.work = [] ∧
      Reaches e 5 (v.later [.attempt c after, .fetchTrigger c]) (u.later []) := by
  have calm' := calm.of_quiet same
  obtain ⟨u, quiet, reaches⟩ := attempt_stops_reaches (after := after) calm' (free.of_quiet same)
    (attemptAllowed_of_runsLive active (by rw [same.ctx]; exact runs)) (((quiet_sameRights same).stopTest e c).trans stops)
    hr alone [.fetchTrigger c]
  have told := (quiet_attemptMessage (e := e) (quiet_modCtx same c (noted r)) c false after).trans quiet
  have calm'' : Calm u := ((calm'.modCtx c (noted r)).of_linksOnly (attemptMessage_linksOnly ..)).of_quiet quiet
  exact ⟨_, quiet_fetchTrigger told c, (calm''.fetchTrigger c).work, reaches.trans (fetchTrigger_reaches calm'' [])⟩

end

/-! ## The end of a route (R85) -/

section
variable {e : Setting} {v u : Run} {c : Nat}

theorem release_nil (e : Setting) (v : Run) (c : Nat) : release e v c [] = v := rfl

/-- The context of an enrolled carrier after steps 2 to 6 of R85: its pass-over count is 0 where it was RUNNING. -/
def routeEndedContext (result : RouteResult) (k : Context) : Context :=
  { k.endRoute result with passOver := if k.state = .running then 0 else k.passOver }

theorem routeEndedContext_of_running {k : Context} (h : k.state = .running) (result : RouteResult) :
    routeEndedContext result k = unpassed (k.endRoute result) := by
  simp only [routeEndedContext, h, if_true]
  rfl

theorem routeEndedContext_of_not_running {k : Context} (h : k.state ≠ .running) (result : RouteResult) :
    routeEndedContext result k = k.endRoute result := by
  simp only [routeEndedContext, if_neg h]
  rfl

/-- The engine after step 3 of R85: the write-back queued, the carrier's fetch removed. -/
def routeEndedEngine (v : Run) (c : Nat) (result : RouteResult) : Engine :=
  (queueWriteBack v c result).records.engine.dropFetch c

/-- A run after steps 2 to 7 of R85 for a carrier with no claims to give up. -/
def routeEndedRun (v : Run) (c : Nat) (result : RouteResult) : Run :=
  ((v.setEngine (routeEndedEngine v c result)).modCtx c (routeEndedContext result)).raise .routeEnd

theorem queueWriteBack_eq (v : Run) (c : Nat) (result : RouteResult) :
    ∃ g, queueWriteBack v c result = v.setEngine g := by
  cases h : (v.ctx c).routeAddr with
  | some a => exact ⟨_, by simp only [queueWriteBack, h]; rfl⟩
  | none => exact ⟨v.records.engine, by simp only [queueWriteBack, h]; rfl⟩

theorem queueWriteBack_dropFetch (v : Run) (c : Nat) (result : RouteResult) :
    (queueWriteBack v c result).setEngine ((queueWriteBack v c result).records.engine.dropFetch c) =
      v.setEngine (routeEndedEngine v c result) := by
  rw [routeEndedEngine]
  obtain ⟨g, hg⟩ := queueWriteBack_eq v c result
  rw [hg]
  rfl

/-- The engine queue after step 3 of R85, of a carrier with a route attached. -/
theorem routeEndedEngine_of_routed {a : Address} (h : (v.ctx c).routeAddr = some a) (result : RouteResult) :
    routeEndedEngine v c result = { v.records.engine with
      queue := queueAfterEnd v.records.engine.queue c a result (v.ctx c).stepReached (v.ctx c).used
        (v.ctx c).generation } := by
  simp only [routeEndedEngine, queueWriteBack, h]
  rfl

theorem routeEndedRun_ctx_self (v : Run) (c : Nat) (result : RouteResult) :
    (routeEndedRun v c result).ctx c = routeEndedContext result (v.ctx c) := by
  rw [routeEndedRun, Run.ctx_raise, Run.ctx_modCtx_self, Run.ctx_setEngine]

theorem routeEndedRun_ctx_other (v : Run) {c d : Nat} (h : d ≠ c) (result : RouteResult) :
    (routeEndedRun v c result).ctx d = v.ctx d := by
  rw [routeEndedRun, Run.ctx_raise, Run.ctx_modCtx_other _ _ h, Run.ctx_setEngine]

/-- A route's end that keeps everything held has its rest to do and nothing before it. -/
theorem routeEndKeeping_all {kept : Held → Bool} (h : ∀ x ∈ (v.ctx c).held, kept x = true) (result : RouteResult) :
    routeEndKeeping e v c result kept = v.later [.routeEndRest c result] := by
  have nothing : (v.ctx c).held.filter (fun x => !kept x) = [] :=
    List.filter_eq_nil_iff.mpr (fun x hx => by simp [h x hx])
  rw [routeEndKeeping, nothing, release_nil]

/-- A run after steps 2 to 4 of R85. -/
def routeEndCleared (v : Run) (c : Nat) (result : RouteResult) : Run :=
  (v.setEngine (routeEndedEngine v c result)).modCtx c (fun k => k.endRoute result)

/-- An alert raised with claims given up: the claims left to clear come after it. -/
theorem giveUpClaims_raise (e : Setting) (v : Run) (c : Nat) (f : AlertFlag) : (giveUpClaims e v c).raise f =
    (((leaveWaiting e v c).modCtx c unpassed).raise f).later [.clearReservations c, .cancelTurns c] := rfl

/-- Steps 2 to 7 of R85, for an enrolled carrier without a wait record that has no claims or was not RUNNING. -/
theorem routeEndRest_reaches (calm : Calm v) (enrolled : (v.ctx c).state ≠ .vacant) (waits : (v.ctx c).wait = none)
    (free : (v.ctx c).state = .running → Unclaiming v c) (result : RouteResult) (rest : List Task) :
    ∃ n u, n ≤ 3 ∧ Quiet (routeEndedRun v c result) u ∧
      Reaches e n (v.later (.routeEndRest c result :: rest)) (u.later rest) := by
  have unwaiting : ((routeEndCleared v c result).ctx c).wait = none := by
    rw [routeEndCleared, Run.ctx_modCtx_self]
    exact waits
  have cleared := clearWait_quiet e (routeEndCleared v c result) c unwaiting
  have calm' : Calm (routeEndCleared v c result) := ⟨calm.work, calm.deferring, calm.deferred⟩
  by_cases running : (v.ctx c).state = .running
  · have first : runTask e (.routeEndRest c result) v = (((leaveWaiting e (clearWait e (routeEndCleared v c result) c) c
        ).modCtx c unpassed).raise .routeEnd).later [.clearReservations c, .cancelTurns c] := by
      change routeEndRest e v c result = _
      simp only [routeEndRest, queueWriteBack_dropFetch, running]
      exact giveUpClaims_raise e _ c .routeEnd
    have free' : Unclaiming (routeEndCleared v c result) c :=
      ⟨(free running).queue, (free running).reservations, unwaiting, (free running).mark, (free running).turn⟩
    have left := leaveWaiting_quiet e _ c (free'.of_quiet cleared).queue (free'.of_quiet cleared).wait
    have quiet : Quiet (routeEndedRun v c result) (((leaveWaiting e (clearWait e (routeEndCleared v c result) c) c
        ).modCtx c unpassed).raise .routeEnd) := by
      refine quiet_raise (Quiet.trans ?_ (quiet_modCtx (cleared.trans left) c unpassed)) .routeEnd
      exact quiet_modCtx_modCtx _ c (routeEndedContext_of_running running result)
    have free'' : Unclaiming (routeEndedRun v c result) c :=
      ⟨free'.queue, free'.reservations, by rw [routeEndedRun, Run.ctx_raise, Run.ctx_modCtx_self]; exact waits, free'.mark,
        free'.turn⟩
    have calm'' : Calm (routeEndedRun v c result) := ⟨calm.work, calm.deferring, calm.deferred⟩
    exact ⟨3, _, by decide, quiet, (Reaches.first first calm.work).trans
      (clearClaims_reaches (calm''.of_quiet quiet) (free''.of_quiet quiet) rest)⟩
  · have first : runTask e (.routeEndRest c result) v = (clearWait e (routeEndCleared v c result) c).raise .routeEnd := by
      change routeEndRest e v c result = _
      have idle : ((v.ctx c).state == .running) = false := by simp [running]
      simp only [routeEndRest, if_neg enrolled, queueWriteBack_dropFetch, idle]
      rfl
    have quiet : Quiet (routeEndedRun v c result) ((clearWait e (routeEndCleared v c result) c).raise .routeEnd) := by
      refine (quiet_raise (Quiet.trans ?_ cleared) .routeEnd)
      exact quiet_modCtx_congr _ c (routeEndedContext_of_not_running running result)
    exact ⟨1, _, by decide, quiet, Reaches.run first calm.work⟩

end

end Sys2Proof.Proofs
end

section
/-! DETACH and STOP (R93, R98), and the silence and lost limits (R100, R101). -/

namespace Sys2Proof.Proofs

open Sys2Proof.Machine Sys2Proof.Laws

section
variable {s : State} {c : Half}

/-! ## DETACH of an ATTACHED carrier (R85, R98) -/

theorem exec_detach_attached (op : s.setting.op = .active ∨ s.setting.op = .allStop) (hc : c.toNat ≤ 255)
    (h : (s.ctx c.toNat).state = .attached) :
    exec (.detach c) s = runCommand 0x11 3 s (.acts s (routeEnd s.setting s.run c.toNat .detached)) := by
  change execDetach c s = _
  simp only [execDetach, carrierCommand_plan (accepts := OpState.moving) ((moving_iff _).mpr op) hc rfl, h]
  rfl

theorem exec_detach_running (op : s.setting.op = .active ∨ s.setting.op = .allStop) (hc : c.toNat ≤ 255)
    (h : (s.ctx c.toNat).state = .running) :
    exec (.detach c) s = runCommand 0x11 3 s (.acts s (halt s.setting s.run c.toNat .detach)) := by
  change execDetach c s = _
  simp only [execDetach, carrierCommand_plan (accepts := OpState.moving) ((moving_iff _).mpr op) hc rfl, h]
  rfl

/-- A resting entry is kept at every end of a route but a completed one (R85). -/
theorem keptAtEnd_resting {k : Context} {h : Held} (resting : h.step = none) : keptAtEnd k .detached h = true := by
  simp [keptAtEnd, Held.outside, resting]

/-- The end of a route of a carrier that holds resting entries alone leaves them and the front cell as they are. -/
theorem endRoute_resting {k : Context} (resting : ∀ h ∈ k.held, h.step = none) (result : RouteResult) :
    k.endRoute result = restedContext k result := by
  have held : k.held.map (fun h => { h with step := none }) = k.held := by
    conv_rhs => rw [← List.map_id k.held]
    exact List.map_congr_left (fun h hh => by rw [← resting h hh]; rfl)
  have front : k.held.find? (fun h => h.step == some k.front) = none :=
    List.find?_eq_none.mpr (fun h hh => by simp [resting h hh])
  simp only [Context.endRoute, held, front, Option.map_none, Option.getD_none]
  rfl

/-- Settles O31: nothing is released, and the rest of R85 finds no claims to give up. -/
theorem detachEndsRoute : Obligations.DetachEndsRoute := by
  unfold Obligations.DetachEndsRoute
  intro carrier a s hs op hc attached routed resting unwaiting
  have ends : routeEnd s.setting s.run carrier.toNat .detached = s.run.later [.routeEndRest carrier.toNat .detached] :=
    routeEndKeeping_all (v := s.run) (c := carrier.toNat) (fun h hh => keptAtEnd_resting (resting h hh)) .detached
  have idle : (s.ctx carrier.toNat).state ≠ .running := by simp [attached]
  have enrolled : (s.ctx carrier.toNat).state ≠ .vacant := by simp [attached]
  obtain ⟨n, u, hn, quiet, reaches⟩ := routeEndRest_reaches (e := s.setting) (c := carrier.toNat) (calm_run s)
    enrolled unwaiting (fun h => absurd h idle) .detached []
  rw [exec_detach_attached op hc attached, ends]
  refine ⟨_, runCommand_accept hs (reaches.settled quiet.work (by omega)), ?_, fun d hd => ?_, ?_,
    sameTrack_of_quiet quiet, links_of_quiet quiet, alerts_of_quiet quiet, rfl, rfl⟩
  · rw [ctx_of_records rfl, quiet.ctx, routeEndedRun_ctx_self]
    exact (routeEndedContext_of_not_running idle .detached).trans (endRoute_resting resting .detached)
  · rw [ctx_of_records rfl, quiet.ctx, routeEndedRun_ctx_other _ hd]
    rfl
  · refine (engine_of_quiet quiet).trans ((routeEndedEngine_of_routed (v := s.run) routed .detached).trans ?_)
    rw [Context.stepReached, if_pos (show (s.run.ctx carrier.toNat).state = .attached from attached)]
    rfl

/-! ## A halt (R93) -/

/-- What a halt of a carrier that waits for nothing leaves of a part: HALTING with the cause, and a STOP notice. -/
theorem halt_leaves (s : State) {c : Nat} (running : (s.ctx c).state = .running) (free : s.claimsNothing c)
    (cause : StopCause) :
    ∃ u, settled s.setting (halt s.setting s.run c cause) = some u ∧
      (∀ t : State, t.records = u → t.ctx c = haltedContext cause (s.ctx c) ∧ ∀ d, d ≠ c → t.ctx d = s.ctx d) ∧
      Records.sameTrack s.records u ∧ u.engine = s.records.engine ∧
      u.links = (send s.run c (.stop cause)).records.links ∧ u.alerts = (send s.run c (.stop cause)).records.alerts := by
  obtain ⟨u, quiet, reaches⟩ := halt_reaches (e := s.setting) (calm_run s) (unclaiming_of_claimsNothing free) running cause []
  have sent := send_linksOnly (s.run.modCtx c (haltedContext cause)) c (.stop cause)
  obtain ⟨links, alerts⟩ := send_congr (u := s.run.modCtx c (haltedContext cause)) (v := s.run) (c := c)
    (by rw [Run.ctx_modCtx_self]; rfl) rfl rfl (.stop cause)
  rw [later_nil] at reaches
  refine ⟨_, reaches.settled (quiet.work.trans sent.work) (by decide), fun t ht => ⟨?_, fun d hd => ?_⟩, ?_, ?_, ?_, ?_⟩
  · rw [ctx_of_records ht, quiet.ctx, sent.ctx, Run.ctx_modCtx_self]
    rfl
  · rw [ctx_of_records ht, quiet.ctx, sent.ctx, Run.ctx_modCtx_other _ _ hd]
    rfl
  · exact sameTrack_trans (sameTrack_of_linksOnly sent) (sameTrack_of_quiet quiet)
  · rw [engine_of_quiet quiet, engine_send]
    rfl
  · rw [links_of_quiet quiet, links]
  · rw [alerts_of_quiet quiet, alerts]

/-- Settles O32: both commands are halts, by `halt_leaves`. -/
theorem stopAndDetachHalt : Obligations.StopAndDetachHalt := by
  unfold Obligations.StopAndDetachHalt
  intro carrier s hs op hc
  have plan {p : Plan} : carrierCommand s OpState.moving carrier true p = p :=
    carrierCommand_plan ((moving_iff _).mpr op) hc rfl
  refine ⟨fun i code cause which running free => ?_, fun idle => ?_⟩
  · obtain ⟨u, rest, contexts, track, engine, links, alerts⟩ := halt_leaves s running free cause
    have halts : exec i s = runCommand code 3 s (.acts s (halt s.setting s.run carrier.toNat cause)) := by
      simp only [List.mem_cons, Prod.mk.injEq, List.not_mem_nil, or_false] at which
      obtain ⟨rfl, rfl, rfl⟩ | ⟨rfl, rfl, rfl⟩ := which
      · change execStop carrier s = _
        rw [execStop, plan, if_pos running]
        rfl
      · exact exec_detach_running op hc running
    rw [halts]
    exact ⟨_, runCommand_accept hs rest, (contexts _ rfl).1, (contexts _ rfl).2, track, engine, links, alerts, rfl, rfl⟩
  · change execStop carrier s = _
    rw [execStop, plan, if_neg idle]
    exact runCommand_refuse hs

/-! ## The silence limit and the lost limit (R100, R101) -/

section
variable {e : Setting} {v : Run} {c : Nat}

/-- A context with contact SILENT or LOST. -/
def withContact (contact : Contact) (k : Context) : Context := { k with contact := contact }

/-- A limit acts where the silence counter runs, contact is not yet what the limit makes it, and the counter has reached
it. -/
theorem silenceReached_eq (counts : (v.ctx c).state.counts = true) (live : (v.ctx c).contact = .live)
    (limit : (e.map.classOf (v.ctx c)).silence ≤ (v.ctx c).silence) :
    silenceReached e v c =
      if (v.ctx c).state = .running then giveUpClaims e (v.modCtx c (withContact .silent)) c
      else v.modCtx c (withContact .silent) := by
  simp only [silenceReached, counts, live, limit]
  rfl

theorem lostReached_eq (counts : (v.ctx c).state.counts = true) (here : (v.ctx c).contact ≠ .lost)
    (limit : (e.map.classOf (v.ctx c)).lost ≤ (v.ctx c).silence) :
    lostReached e v c =
      match (v.ctx c).state with
      | .running => (giveUpClaims e (becomeStopped (v.modCtx c (withContact .lost)) c .lost) c).later
          [.stopNotice c]
      | .halting => (becomeStopped (v.modCtx c (withContact .lost)) c .lost).later [.stopNotice c]
      | _ => v.modCtx c (withContact .lost) := by
  have test : ((v.ctx c).state.counts && (v.ctx c).contact != .lost &&
      decide ((e.map.classOf (v.ctx c)).lost ≤ (v.ctx c).silence)) = true := by simp [counts, here, limit]
  unfold lostReached
  rw [if_pos test]
  cases (v.ctx c).state <;> rfl

/-- The context of a carrier after its lost limit (R101). -/
def lostContext (k : Context) : Context :=
  { k with
    contact := .lost, state := .stopped, stopCause := some .lost
    passOver := if k.state = .running then 0 else k.passOver }

/-- The run of a HALTING or RUNNING carrier lost, before its claims and its notice. -/
def lostRun (v : Run) (c : Nat) : Run := becomeStopped (v.modCtx c (withContact .lost)) c .lost

/-- A STOPPED context with contact and cause LOST. -/
def lostAtLimit (k : Context) : Context := { k with contact := .lost, state := .stopped, stopCause := some .lost }

theorem lostRun_quiet (v : Run) (c : Nat) : Quiet ((v.modCtx c lostAtLimit).raise .stopped) (lostRun v c) :=
  quiet_raise (quiet_modCtx_modCtx v c rfl) .stopped

/-- A lost carrier is STOPPED untrimmed, gives up its claims where it was RUNNING, and has its STOP notice (R101). -/
theorem lostReached_reaches (calm : Calm v) (counts : (v.ctx c).state.counts = true) (here : (v.ctx c).contact ≠ .lost)
    (limit : (e.map.classOf (v.ctx c)).lost ≤ (v.ctx c).silence)
    (h : (v.ctx c).state = .halting ∨ ((v.ctx c).state = .running ∧ Unclaiming v c)) :
    ∃ n u, n ≤ 3 ∧ Quiet (send ((v.modCtx c lostContext).raise .stopped) c (.stop .lost)) u ∧
      Reaches e n (lostReached e v c) (u.later []) := by
  have calm' : Calm (lostRun v c) := ((calm.modCtx c _).modCtx c _).raise .stopped
  have told {u : Run} (q : Quiet ((v.modCtx c lostContext).raise .stopped) u) : (u.ctx c).stopCause = some .lost := by
    rw [q.ctx, Run.ctx_raise, Run.ctx_modCtx_self]
    rfl
  rw [lostReached_eq counts here limit]
  obtain halting | ⟨running, free⟩ := h
  · have quiet : Quiet ((v.modCtx c lostContext).raise .stopped) (lostRun v c) :=
      (quiet_raise (quiet_modCtx_congr v c (by simp [lostContext, lostAtLimit, halting])) .stopped).trans (lostRun_quiet v c)
    rw [halting]
    exact ⟨1, _, by decide, quiet_send quiet c (.stop .lost), stopNotice_reaches calm' (told quiet) []⟩
  · have free' : Unclaiming (lostRun v c) c :=
      ((free.modCtx free.wait).modCtx (by rw [Run.ctx_modCtx_self]; exact free.wait)).raise .stopped
    obtain ⟨u, given, reaches⟩ := giveUpClaims_reaches (e := e) calm' free' [.stopNotice c]
    have quiet : Quiet ((v.modCtx c lostContext).raise .stopped) u :=
      ((quiet_raise (quiet_modCtx_modCtx v c (f := lostAtLimit) (g := unpassed) (by
        simp [lostContext, lostAtLimit, running, unpassed])) .stopped).trans
        (quiet_modCtx (lostRun_quiet v c) c unpassed)).trans given
    rw [running]
    refine ⟨3, _, by decide, quiet_send quiet c (.stop .lost), ?_⟩
    exact reaches.trans (stopNotice_reaches ((calm'.modCtx c unpassed).of_quiet given) (told quiet) [])

end

theorem silenceLimit_of_settled {c : Fin 256} {r : Records} (hs : s.inService)
    (h : settled s.setting (silenceReached s.setting s.run c) = some r) :
    exec (.silenceLimit c) s = .next { s with records := r } :=
  runEvent_of_settled (f := fun e v => silenceReached e v c) hs h

theorem lostLimit_of_settled {c : Fin 256} {r : Records} (hs : s.inService)
    (h : settled s.setting (lostReached s.setting s.run c) = some r) :
    exec (.lostLimit c) s = .next { s with records := r } :=
  runEvent_of_settled (f := fun e v => lostReached e v c) hs h

/-- The context of a carrier after its silence limit (R100). -/
def silentContext (k : Context) : Context :=
  { k with contact := .silent, passOver := if k.state = .running then 0 else k.passOver }

/-- What the silence limit leaves of a carrier that is not RUNNING, or waits for nothing (R100). -/
theorem silenceLimit_leaves (hs : s.inService) (c : Fin 256) (counts : (s.ctx c).state.counts = true)
    (live : (s.ctx c).contact = .live) (limit : (s.setting.map.classOf (s.ctx c)).silence ≤ (s.ctx c).silence)
    (free : (s.ctx c).state = .running → s.claimsNothing c) :
    ∃ u, exec (.silenceLimit c) s = .next { s with records := u.records } ∧ Quiet (s.run.modCtx c silentContext) u := by
  have reached := silenceReached_eq (v := s.run) (c := c) counts live limit
  by_cases running : (s.run.ctx c).state = .running
  · obtain ⟨queue, reservations, unwaiting, mark, turn⟩ := free running
    obtain ⟨u, given, reaches⟩ := giveUpClaims_reaches (e := s.setting) (c := c) ((calm_run s).modCtx c (withContact .silent))
      ⟨queue, reservations, by rw [Run.ctx_modCtx_self]; exact unwaiting, mark, turn⟩ []
    rw [later_nil] at reaches
    rw [if_pos running] at reached
    refine ⟨u, silenceLimit_of_settled hs ?_, (quiet_modCtx_modCtx s.run c ?_).trans given⟩
    · rw [reached]
      exact reaches.settled given.work (by decide)
    · simp only [silentContext, unpassed, withContact, running, if_true]
  · rw [if_neg running] at reached
    refine ⟨_, silenceLimit_of_settled hs ?_, quiet_modCtx_congr s.run c (g := withContact .silent) ?_⟩
    · rw [reached]
      exact settled_rest rfl
    · simp only [silentContext, if_neg running]
      rfl

/-- Settles O43: by the state of the carrier, which gives up its claims where it is RUNNING. -/
theorem contactLimitsAct : Obligations.ContactLimitsAct := by
  unfold Obligations.ContactLimitsAct
  refine ⟨fun c s hs live limit state => ?_, fun c s hs here limit => ⟨fun attached => ?_, fun state => ?_⟩⟩
  · have counts : (s.ctx c).state.counts = true := by
      obtain h | h | ⟨h, -⟩ := state <;> rw [h] <;> rfl
    have free (running : (s.ctx c).state = .running) : s.claimsNothing c := by
      obtain h | h | ⟨-, h⟩ := state
      · simp [running] at h
      · simp [running] at h
      · exact h
    obtain ⟨u, done, quiet⟩ := silenceLimit_leaves hs c counts live limit free
    refine ⟨_, done, ?_, fun d hd => ?_, sameTrack_of_quiet quiet, links_of_quiet quiet, engine_of_quiet quiet,
      alerts_of_quiet quiet, rfl, rfl⟩
    · rw [ctx_of_records rfl, quiet.ctx, Run.ctx_modCtx_self]
      rfl
    · rw [ctx_of_records rfl, quiet.ctx, Run.ctx_modCtx_other _ _ hd]
      rfl
  · have reached := lostReached_eq (e := s.setting) (v := s.run) (c := c) (by
      rw [show (s.run.ctx c).state = .attached from attached]; rfl) here limit
    rw [show (s.run.ctx c).state = .attached from attached] at reached
    refine ⟨_, lostLimit_of_settled hs (by rw [reached]; exact settled_rest rfl), ?_, fun d hd => ?_,
      sameTrack_modCtx s.run c _, rfl, rfl, rfl, rfl, rfl⟩
    · rw [ctx_of_records rfl, Run.ctx_modCtx_self]
      rfl
    · rw [ctx_of_records rfl, Run.ctx_modCtx_other _ _ hd]
      rfl
  · have counts : (s.run.ctx c).state.counts = true := by
      obtain h | ⟨h, -⟩ := state <;> rw [show (s.run.ctx c).state = _ from h] <;> rfl
    obtain ⟨n, u, hn, quiet, reaches⟩ := lostReached_reaches (e := s.setting) (calm_run s) counts here limit
      (state.imp_right (And.imp_right unclaiming_of_claimsNothing))
    have sent := send_linksOnly ((s.run.modCtx c lostContext).raise .stopped) c (.stop .lost)
    obtain ⟨links, alerts⟩ := send_raised (u := (s.run.modCtx c lostContext).raise .stopped) (v := s.run) (c := c)
      (flags := AlertFlag.stopped.mask) (by rw [Run.ctx_raise, Run.ctx_modCtx_self]; rfl) rfl rfl (.stop .lost)
    have engine : (send ((s.run.modCtx c lostContext).raise .stopped) c (.stop .lost)).records.engine = s.records.engine := by
      rw [engine_send]
      rfl
    refine ⟨_, lostLimit_of_settled hs (reaches.settled (quiet.work.trans sent.work) (by omega)), ?_, fun d hd => ?_,
      sameTrack_trans (sameTrack_of_linksOnly sent) (sameTrack_of_quiet quiet), (links_of_quiet quiet).trans links,
      flag_of_alerts ((alerts_of_quiet quiet).trans alerts), (engine_of_quiet quiet).trans engine, rfl, rfl⟩
    · rw [ctx_of_records rfl, quiet.ctx, sent.ctx, Run.ctx_raise, Run.ctx_modCtx_self]
      rfl
    · rw [ctx_of_records rfl, quiet.ctx, sent.ctx, Run.ctx_raise, Run.ctx_modCtx_other _ _ hd]
      rfl

end

end Sys2Proof.Proofs
end

section
/-! RECOVER (R95, R98). -/

namespace Sys2Proof.Proofs

open Sys2Proof.Machine Sys2Proof.Laws

section
variable {s : State} {e : Setting} {v : Run} {c : Nat} {r : Reason}

/-- A context after a trim that released nothing (R95). -/
def trimmedContext (k : Context) : Context := { k with grantMark := k.front + 1, holdLifted := false }

/-- A context after step 2 of RECOVER (R98). -/
def recoveringContext (m : MapStore) (k : Context) : Context :=
  { k with
    allowance := (m.classOf k).allowance, contact := .live, silence := 0, stopCause := none, state := .running }

theorem recoveringContext_trimmedContext (m : MapStore) (k : Context) :
    recoveredContext m k = recoveringContext m (trimmedContext k) := rfl

/-- A trim of a carrier with no step entry outside its rear and front steps releases nothing (R95). -/
theorem trim_of_nothing_outside (h : ∀ x ∈ (v.ctx c).held, x.outside (v.ctx c).rear (v.ctx c).front = false) :
    trim e v c = v.modCtx c trimmedContext := by
  have nothing : (v.ctx c).held.filter (fun x => x.outside (v.ctx c).rear (v.ctx c).front) = [] :=
    List.filter_eq_nil_iff.mpr (fun x hx => by simp [h x hx])
  rw [trim, nothing, release_nil]
  rfl

/-- The rest of RECOVER, in ACTIVE (R98). -/
theorem recoverRest_active (active : e.op = .active) (stopped : (v.ctx c).state = .stopped) :
    recoverRest e v c = (v.modCtx c (recoveringContext e.map)).later [.attempt c .noticeAlways, .fetchTrigger c] := if_pos ⟨active, stopped⟩

theorem exec_recover_stopped {carrier : Half} (active : s.setting.op = .active) (hc : carrier.toNat ≤ 255)
    (stopped : (s.ctx carrier.toNat).state = .stopped) :
    exec (.recover carrier) s = runCommand 0x13 3 s (.acts s ((trim s.setting s.run carrier.toNat).later
      [.recoverRest carrier.toNat])) := by
  change execRecover carrier s = _
  rw [execRecover, carrierCommand_plan (by simp [active]) hc rfl, if_pos stopped]
  rfl

/-- The work of a RECOVER with nothing to trim, whose attempt meets a stop test other than lane order. -/
theorem recover_settles (active : s.setting.op = .active) (stopped : (s.ctx c).state = .stopped) (free : s.claimsNothing c)
    (inside : ∀ h ∈ (s.ctx c).held, h.outside (s.ctx c).rear (s.ctx c).front = false) (hr : r ≠ .order)
    (stops : stopTest s.setting (s.run.modCtx c (fun _ => recoveredContext s.setting.map (s.ctx c))) c = some r) :
    let w := s.run.modCtx c (fun _ => noted r (recoveredContext s.setting.map (s.ctx c)))
    ∃ u, Quiet (fetchTrigger (send w c (authNotice s.setting w c)) c) u ∧
      settled s.setting ((trim s.setting s.run c).later [.recoverRest c]) = some u.records := by
  intro w
  have trims : trim s.setting s.run c = s.run.modCtx c trimmedContext := trim_of_nothing_outside inside
  have starts := quiet_modCtx_modCtx s.run c (k := fun _ => recoveredContext s.setting.map (s.ctx c))
    (recoveringContext_trimmedContext s.setting.map (s.ctx c))
  have claimless := unclaiming_of_claimsNothing free
  have begins : runTask s.setting (.recoverRest c) (s.run.modCtx c trimmedContext) = _ :=
    recoverRest_active active (by rw [Run.ctx_modCtx_self]; exact stopped)
  obtain ⟨u, quiet, idle, reaches⟩ := attemptThenFetch_reaches (after := .noticeAlways) starts
    ((calm_run s).modCtx c _) (claimless.modCtx claimless.wait) active (by rw [Run.ctx_modCtx_self]; exact ⟨rfl, rfl⟩) stops hr
    (by simp)
  have noticed := quiet_modCtx_modCtx s.run c (k := fun _ => noted r (recoveredContext s.setting.map (s.ctx c)))
    (f := fun _ => recoveredContext s.setting.map (s.ctx c)) (g := noted r) rfl
  rw [trims]
  have told : Quiet _ u :=
    (quiet_fetchTrigger (quiet_attemptMessage (e := s.setting) noticed c false .noticeAlways) c).trans quiet
  have first : Reaches s.setting 1 ((s.run.modCtx c trimmedContext).later [.recoverRest c]) _ := Reaches.first begins rfl
  exact ⟨u, told, (first.trans reaches).settled idle (by decide)⟩

/-- Settles O33: a trim that releases nothing, and an attempt that meets a stop test at once. -/
theorem recoverRecovers : Obligations.RecoverRecovers := by
  unfold Obligations.RecoverRecovers
  intro carrier s hs hc c k
  refine ⟨fun r active stopped free inside hr stops => ?_, fun active running => ?_, fun idle => ?_⟩
  · intro w
    obtain ⟨u, quiet, rest⟩ := recover_settles active stopped free inside hr stops
    obtain ⟨contexts, track, links, -, engine⟩ := fetchTrigger_send_leaves quiet
    rw [exec_recover_stopped active hc stopped]
    refine ⟨_, runCommand_accept hs rest, ?_, fun d hd => ?_, sameTrack_trans (sameTrack_modCtx s.run c _) track, links,
      engine, rfl, rfl⟩
    · rw [ctx_of_records rfl, contexts, Run.ctx_modCtx_self]
      rfl
    · rw [ctx_of_records rfl, contexts, Run.ctx_modCtx_other _ _ hd]
      rfl
  · change execRecover carrier s = _
    rw [execRecover, carrierCommand_plan (by simp [active]) hc rfl, if_neg running]
    exact runCommand_refuse hs
  · change execRecover carrier s = _
    exact carrierCommand_state hs (by simpa using idle)

end

end Sys2Proof.Proofs
end

section
/-! RETIRE (R99, R103): the release of one cell that leads to nothing more (R35), the write-back, and the messages
removed. -/

namespace Sys2Proof.Proofs

open Sys2Proof.Machine Sys2Proof.Laws

section
variable {e : Setting} {v u : Run} {c : Nat}

/-! ## One cell released (R35 to R38) -/

/-- An offer of a cell without waiters takes nobody (R38, R39). -/
theorem offer_reaches_of_no_waiter {x : Nat} (calm : Calm v) (empty : (v.cell x).queue = []) (rest : List Task) :
    ∃ n ≤ 3, Reaches e n (v.later (.offer x :: rest)) (v.later rest) := by
  by_cases active : e.op = .active
  · have start : runTask e (.offer x) v = _ := offerStart_active active
    have nobody : runTask e (.offerNext x ((v.cell x).queue.map Waiter.carrier)) { v with deferring := true } =
        { v with deferring := true } := offerNext_no_waiter _ empty
    have opens := openDeferred_reaches (e := e) (u := { v with deferring := true }) calm.work calm.deferred rest
    rw [show ({ ({ v with deferring := true } : Run) with deferring := false, deferred := [] } : Run) = v from
      calm.undeferred] at opens
    exact ⟨3, le_rfl, (Reaches.first start calm.work).trans
      ((Reaches.run nobody calm.work).trans opens)⟩
  · exact ⟨1, by decide, Reaches.run (if_neg active) calm.work⟩

/-- A released cell that is no LANE, PORTAL or corridor member and has no waiter leads to nothing more (R35). -/
theorem freed_reaches_of_alone {x : Nat} {m : CellStatic} (calm : Calm v) (found : Table.find e.map.cells x = some m)
    (lane : m.kind ≠ .lane) (portal : m.kind ≠ .portal) (corridor : m.corridor = none) (empty : (v.cell x).queue = [])
    (wasOldest : Bool) (behind : Option Nat) (rest : List Task) :
    ∃ n ≤ 5, Reaches e n (v.later (.freed c x true wasOldest behind :: rest)) (v.later rest) := by
  have noLane : e.map.isLane x = false := by simp [MapStore.isLane, MapStore.kindOf, found, lane]
  have noCorridor : e.map.corridorOf x = none := by simp [MapStore.corridorOf, found, corridor]
  have noGate : e.map.gateOf x = none := by simp [MapStore.gateOf, found, portal]
  have first : runTask e (.freed c x true wasOldest behind) v = v.later [.freedSettle x ((v.cell x).countdown == 0)] := by
    change freed e v c x true wasOldest behind = _
    simp [freed, noLane, leaveCorridorOf, noCorridor, noGate]
  have second (offers : Bool) : runTask e (.freedSettle x offers) v = v.later (if offers then [.offer x] else []) := by
    change freedSettle e v x offers = _
    rw [freedSettle, recompute_of_no_waiter e v x empty]
    cases offers
    · exact (later_nil v).symm
    · rfl
  have begun := (Reaches.first (rest := rest) first calm.work).trans
    (Reaches.first (second ((v.cell x).countdown == 0)) calm.work)
  cases offers : (v.cell x).countdown == 0 with
  | false =>
    rw [offers] at begun
    exact ⟨2, by decide, begun⟩
  | true =>
    rw [offers] at begun
    obtain ⟨n, hn, offered⟩ := offer_reaches_of_no_waiter (e := e) calm empty rest
    exact ⟨2 + n, by omega, begun.trans offered⟩

/-- The record of a cell of the map whose only holder has left (R35, R37). -/
def clearedCell (m : CellStatic) (r : CellRun) : CellRun :=
  if m.clearance = 0 then { r with holders := [] } else { r with holders := [], countdown := m.clearance, due := false }

theorem clearedCell_queue (m : CellStatic) (r : CellRun) : (clearedCell m r).queue = r.queue := by
  unfold clearedCell
  split <;> rfl

/-- A carrier's only entry released: its cell cleared, and nothing held any more (R35, R108). -/
theorem release_only {h : Held} {m : CellStatic} (held : (v.ctx c).held = [h])
    (found : Table.find e.map.cells h.cell = some m) (alone : (v.cell h.cell).holders = [c]) :
    ∃ u, Quiet ((v.setCell h.cell (clearedCell m (v.cell h.cell))).modCtx c (fun k => { k with held := [] })) u ∧
      release e v c [h] = u.later [.freed c h.cell true true none] := by
  have entry : releaseEntry e c v h = ((v.setCell h.cell (clearedCell m (v.cell h.cell))).modCtx c
      (fun k => { k with held := k.held.erase h })).later [.freed c h.cell true true none] := by
    have left : (v.cell h.cell).holders.filter (· != c) = [] := by simp [alone]
    have behind : behindIn (v.cell h.cell).holders c = none := by simp [alone, behindIn]
    have first : ((v.cell h.cell).holders.head? == some c) = true := by simp [alone]
    have cleared : (if ([] : List Nat).isEmpty ∧ m.clearance ≠ 0 then
        { v.cell h.cell with holders := [], countdown := m.clearance, due := false }
        else { v.cell h.cell with holders := [] }) = clearedCell m (v.cell h.cell) := by
      by_cases free : m.clearance = 0 <;> simp [clearedCell, free]
    simp only [releaseEntry, left, behind, first, found, Option.map_some, Option.getD_some, cleared]
    rfl
  refine ⟨freeWindow ((v.setCell h.cell (clearedCell m (v.cell h.cell))).modCtx c
    (fun k => { k with held := k.held.erase h })) c, quiet_modCtx_modCtx _ c ?_, ?_⟩
  · simp [held]
  · change freeWindow (releaseEntry e c v h) c = _
    rw [entry]
    rfl

/-! ## The rest of RETIRE (R99) -/

/-- Messages removed from links one after another leave every link without the carrier's. -/
theorem removeMessages_from (ls : List Nat) (v : Run) : ∃ links,
    ls.foldl (fun v l => v.setLink l ((v.link l).remove c)) v = { v with records := { v.records with links := links } } ∧
      ∀ l, Table.at links Link.reset l = if l ∈ ls then (v.link l).remove c else v.link l := by
  induction ls generalizing v with
  | nil => exact ⟨v.records.links, rfl, fun l => rfl⟩
  | cons a ls ih =>
    obtain ⟨links, removed, each⟩ := ih (v.setLink a ((v.link a).remove c))
    refine ⟨links, removed, fun l => ?_⟩
    have again : ((v.link a).remove c).remove c = (v.link a).remove c := by simp [Link.remove]
    rw [each]
    by_cases ha : l = a
    · subst ha
      have own : (v.setLink l ((v.link l).remove c)).link l = (v.link l).remove c := by simp
      simp [own, again]
    · have other : (v.setLink a ((v.link a).remove c)).link l = v.link l := by simp [ha]
      simp [other, ha]

theorem removeMessages_eq (v : Run) (c : Nat) : ∃ links,
    removeMessages v c = { v with records := { v.records with links := links } } ∧
      ∀ l, Table.at links Link.reset l = if l < Config.links then (v.link l).remove c else v.link l := by
  obtain ⟨links, removed, each⟩ := removeMessages_from (c := c) (List.range Config.links) v
  exact ⟨links, removed, fun l => by rw [each]; simp only [List.mem_range]⟩

/-- The engine after steps 3 and 4 of RETIRE (R99). -/
def retiredEngine (v : Run) (c : Nat) : Engine :=
  (queueWriteBack (v.setEngine (v.records.engine.dropFetch c)) c .retired).records.engine

/-- Steps 3 to 7 of RETIRE, for a carrier with nothing held, no claims and no deadlock mark. -/
theorem retireRest_eq (held : (v.ctx c).held = []) (free : Unclaiming v c) : ∃ links,
    retireRest v c = (({ v with records := { v.records with links := links } } : Run).setEngine (retiredEngine v c)).modCtx c
      Context.vacated ∧
      ∀ l, Table.at links Link.reset l = if l < Config.links then (v.link l).remove c else v.link l := by
  obtain ⟨g, queued⟩ := queueWriteBack_eq (v.setEngine (v.records.engine.dropFetch c)) c .retired
  have engine : retiredEngine v c = g := by rw [retiredEngine, queued]; rfl
  obtain ⟨links, removed, each⟩ := removeMessages_eq (v.setEngine g) c
  have test : ((v.ctx c).held.isEmpty && (v.queueOf c).isNone && (v.reservations c).isEmpty) = true := by
    simp [held, free.queue, free.reservations]
  have written : queueWriteBack (v.setEngine (v.records.engine.dropFetch c)) c .retired = v.setEngine g := queued
  have unmarked : Run.retireMark { v.setEngine g with records := { (v.setEngine g).records with links := links } } c =
      { v.setEngine g with records := { (v.setEngine g).records with links := links } } := by
    have mark : Table.find (v.setEngine g).records.marks c = none := free.mark
    simp only [Run.retireMark, mark]
  refine ⟨links, ?_, each⟩
  unfold retireRest
  rw [if_pos test]
  simp only [written, removed, unmarked, engine]
  rfl

/-! ## RETIRE -/

theorem quiet_setCell (h : Quiet v u) (x : Nat) (r : CellRun) : Quiet (v.setCell x r) (u.setCell x r) := by
  refine ⟨?_, h.work, h.deferring, h.deferred, h.opening, h.ctx⟩
  simp only [Run.setCell]
  rw [h.records]

/-- A run after steps 1 and 2 of RETIRE of a carrier whose one cell `x` leads to nothing more (R99, R35). -/
def emptyHanded (v : Run) (c x : Nat) (m : CellStatic) : Run :=
  (v.setCell x (clearedCell m (v.cell x))).modCtx c (fun k => { k with held := [], passOver := 0 })

variable {s : State} {h : Held} {m : CellStatic}

/-- The work of RETIRE for a carrier that waits for nothing and whose one cell leads to nothing more. -/
theorem retire_settles (free : s.claimsNothing c) (held : (s.ctx c).held = [h])
    (found : Table.find s.setting.map.cells h.cell = some m) (lane : m.kind ≠ .lane) (portal : m.kind ≠ .portal)
    (corridor : m.corridor = none) (empty : (s.cell h.cell).queue = []) (alone : (s.cell h.cell).holders = [c]) :
    ∃ u, Quiet (emptyHanded s.run c h.cell m) u ∧ (u.ctx c).held = [] ∧ Unclaiming u c ∧
      settled s.setting (retireRun s.setting s.run c) = some (retireRest u c).records := by
  have claimless := unclaiming_of_claimsNothing free
  obtain ⟨u₁, given, gives⟩ := giveUpClaims_reaches (e := s.setting) (calm_run s) claimless [.retireRelease c, .retireRest c]
  have calm₁ := ((calm_run s).modCtx c unpassed).of_quiet given
  have same (x : Nat) : u₁.cell x = s.cell x := by
    rw [Run.cell, cells_of_quiet given]
    rfl
  have held₁ : (u₁.ctx c).held = [h] := by
    rw [given.ctx, Run.ctx_modCtx_self]
    exact held
  obtain ⟨u₂, emptied, releases⟩ := release_only held₁ found ((congrArg CellRun.holders (same h.cell)).trans alone)
  have quiet : Quiet (emptyHanded s.run c h.cell m) u₂ := by
    refine Quiet.trans ?_ emptied
    rw [same h.cell]
    exact (quiet_modCtx_modCtx (s.run.setCell h.cell (clearedCell m (s.cell h.cell))) c rfl).trans
      (quiet_modCtx (quiet_setCell given h.cell _) c (fun k => { k with held := [] }))
  have calm₂ : Calm u₂ := ((calm₁.setCell h.cell _).modCtx c _).of_quiet emptied
  have empty₂ : (u₂.cell h.cell).queue = [] := by
    have cell : u₂.cell h.cell = clearedCell m (u₁.cell h.cell) := by
      rw [Run.cell, cells_of_quiet emptied]
      exact Run.cell_setCell_self ..
    rw [cell, clearedCell_queue, same, empty]
  have first : runTask s.setting (.retireRelease c) u₁ = u₂.later [.freed c h.cell true true none] := by
    change release s.setting u₁ c (u₁.ctx c).held = _
    rw [held₁, releases]
  obtain ⟨n, hn, freed⟩ := freed_reaches_of_alone (c := c) calm₂ found lane portal corridor empty₂ true none [.retireRest c]
  have claimless₂ : Unclaiming u₂ c := by
    refine Unclaiming.of_quiet (v := emptyHanded s.run c h.cell m)
      ⟨?_, claimless.reservations, ?_, claimless.mark, claimless.turn⟩ quiet
    · exact queueOf_setCell_none (x := h.cell) claimless.queue ((clearedCell_queue m _).trans empty)
    · rw [emptyHanded, Run.ctx_modCtx_self]
      exact claimless.wait
  have none₂ : (u₂.ctx c).held = [] := by
    rw [quiet.ctx, emptyHanded, Run.ctx_modCtx_self]
  obtain ⟨links, rest, -⟩ := retireRest_eq none₂ claimless₂
  have last : Reaches s.setting 1 (u₂.later [.retireRest c]) ((retireRest u₂ c).later []) :=
    Reaches.run rfl calm₂.work
  refine ⟨u₂, quiet, none₂, claimless₂, ?_⟩
  have begins : retireRun s.setting s.run c = (giveUpClaims s.setting s.run c).later [.retireRelease c, .retireRest c] := by
    rw [giveUpClaims, later_later]
    rfl
  rw [begins]
  have all := (gives.trans ((Reaches.first first calm₁.work).trans freed)).trans last
  exact all.settled (by rw [rest]; exact calm₂.work) (by omega)

end

section
variable {s : State} {c : Nat} {h : Held} {m : CellStatic}

theorem exec_retire {carrier : Half} (loaded : s.setting.op.loaded = true) (hc : carrier.toNat ≤ 255) :
    exec (.retire carrier) s = runCommand 0x14 3 s (if (s.ctx carrier.toNat).state = .vacant then .refused .conflict
      else .acts s (retireRun s.setting s.run carrier.toNat)) := by
  change execRetire carrier s = _
  rw [execRetire, carrierCommand_plan loaded hc rfl]
  rfl

/-- The write-back a RETIRE queues, where a route was attached (R99). -/
theorem retiredEngine_eq (v : Run) (c : Nat) : retiredEngine v c = { v.records.engine with
    queue := v.records.engine.queue.filter (fun r => match r with
        | .fetch d _ => d != c
        | .writeBack _ _ _ _ _ _ => true) ++
      (match (v.ctx c).routeAddr with
        | some a => [EngineRequest.writeBack c a .retired (v.ctx c).stepReached (v.ctx c).used (v.ctx c).generation]
        | none => []) } := by
  cases routed : (v.ctx c).routeAddr with
  | some a => simp only [retiredEngine, queueWriteBack, Run.ctx_setEngine, routed]; rfl
  | none =>
    simp only [retiredEngine, queueWriteBack, Run.ctx_setEngine, routed, List.append_nil]
    rfl

/-- Settles O34: R99 step by step, none of which leads to anything more. -/
theorem retireRemoves : Obligations.RetireRemoves := by
  unfold Obligations.RetireRemoves
  intro carrier h m s hs loaded hc c k
  refine ⟨fun enrolled free held found lane portal corridor empty alone => ?_, fun vacant => ?_⟩
  · obtain ⟨u, quiet, none, claimless, rest⟩ := retire_settles free held found lane portal corridor empty alone
    obtain ⟨links, retired, each⟩ := retireRest_eq none claimless
    rw [retired] at rest
    rw [exec_retire loaded hc, if_neg enrolled]
    obtain ⟨cells, reservations, corridors, gates, slots, deadlocks, marks⟩ := sameTrack_of_quiet quiet
    have cell (x : Nat) : u.cell x = (s.run.setCell h.cell (clearedCell m (s.cell h.cell))).cell x := by
      rw [Run.cell, cells]
      rfl
    have own : u.ctx c = { k with held := [], passOver := 0 } := by
      rw [quiet.ctx, emptyHanded, Run.ctx_modCtx_self]
      rfl
    refine ⟨_, runCommand_accept hs rest, ?_, fun d hd => ?_, ?_, fun x hx => ?_, fun d => ?_, ?_, ?_, ?_, ?_, ?_, ?_, ?_,
      fun l => (each l).trans ?_, rfl, rfl, rfl⟩
    · rw [ctx_of_records rfl, Run.ctx_modCtx_self]
      change (u.ctx c).vacated = _
      rw [own]
      rfl
    · rw [ctx_of_records rfl, Run.ctx_modCtx_other _ _ hd]
      refine (quiet.ctx d).trans ?_
      rw [emptyHanded, Run.ctx_modCtx_other _ _ hd]
      rfl
    · exact (cell h.cell).trans (Run.cell_setCell_self ..)
    · exact (cell x).trans (Run.cell_setCell_other _ _ hx)
    · exact congrArg (fun r => Table.at r [] d) reservations
    · exact corridors
    · exact gates
    · exact slots
    · exact deadlocks
    · exact marks
    · exact alerts_of_quiet quiet
    · refine (retiredEngine_eq u c).trans ?_
      rw [own, engine_of_quiet quiet]
      rfl
    · rw [show u.link l = s.link l by rw [Run.link, links_of_quiet quiet]; rfl]
      rfl
  · rw [exec_retire loaded hc, if_pos vacant]
    exact runCommand_refuse hs

end

end Sys2Proof.Proofs
end

section
/-! A good frame of an enrolled carrier (R86, R144, R148): the run it leaves before its carrier's state decides. -/

namespace Sys2Proof.Proofs

open Sys2Proof.Machine Sys2Proof.Laws

section
variable {s : State} {l c : Nat} {q : Request}

theorem setHome_ctx_self (v : Run) (c l : Nat) : (setHome v c l).ctx c = { v.ctx c with homeLink := some l } := by
  simp only [setHome]
  rw [Run.ctx_modCtx_self]
  split
  · split <;> rfl
  · rfl

theorem setHome_ctx_other (v : Run) {c d : Nat} (l : Nat) (h : d ≠ c) : (setHome v c l).ctx d = v.ctx d := by
  simp only [setHome]
  rw [Run.ctx_modCtx_other _ _ h]
  split
  · split <;> rfl
  · rfl

/-- The home link step sets links and a home link alone (R148). -/
theorem setHome_eq (v : Run) (c l : Nat) : ∃ links, setHome v c l =
    ({ v with records := { v.records with links := links } } : Run).modCtx c (fun k => { k with homeLink := some l }) := by
  unfold setHome
  split
  · split
    · exact ⟨v.records.links, rfl⟩
    · exact ⟨_, rfl⟩
  · exact ⟨v.records.links, rfl⟩

/-- A change of a context that comes to the same is the same. -/
theorem modCtx_congr (v : Run) (c : Nat) {f g : Context → Context} (h : f (v.ctx c) = g (v.ctx c)) :
    v.modCtx c f = v.modCtx c g := by
  rw [Run.modCtx, Run.modCtx, h]

/-- A good frame restores contact and sets the home link (R86, R148). -/
theorem restoreContact_setHome (s : State) (l c : Nat) :
    restoreContact (setHome (s.run.setReceiver l Receiver.hunting) c l) c =
      heardRun s l c (heardContext (s.ctx c) l) := by
  refine modCtx_congr _ c ?_
  rw [setHome_ctx_self]
  rfl

theorem heardRun_ctx_self (s : State) (l c : Nat) (k : Context) : (heardRun s l c k).ctx c = k := Run.ctx_modCtx_self ..

theorem heardRun_ctx_other (s : State) (l : Nat) {c d : Nat} (k : Context) (h : d ≠ c) :
    (heardRun s l c k).ctx d = s.ctx d := by
  rw [heardRun, Run.ctx_modCtx_other _ _ h, setHome_ctx_other _ _ h]
  rfl

/-- What a good frame itself leaves as it was: every record but links and contexts. -/
theorem heardRun_eq (s : State) (l c : Nat) (k : Context) : ∃ links carriers, heardRun s l c k =
    { s.run with records := { s.records with links := links, carriers := carriers } } := by
  obtain ⟨links, home⟩ := setHome_eq (s.run.setReceiver l Receiver.hunting) c l
  exact ⟨links, _, by rw [heardRun, home]; rfl⟩

theorem heardRun_quiet (s : State) (l c : Nat) (k : Context) (f : Context → Context) :
    Quiet (heardRun s l c (f k)) ((heardRun s l c k).modCtx c f) :=
  quiet_modCtx_modCtx _ c (f := fun _ => k) (k := fun _ => f k) rfl

theorem calm_heardRun (s : State) (l c : Nat) (k : Context) : Calm (heardRun s l c k) := by
  obtain ⟨links, carriers, heard⟩ := heardRun_eq s l c k
  rw [heard]
  exact ⟨rfl, rfl, rfl⟩

theorem sameTrack_heardRun (s : State) (l c : Nat) (k : Context) :
    Records.sameTrack s.records (heardRun s l c k).records := by
  obtain ⟨links, carriers, heard⟩ := heardRun_eq s l c k
  rw [heard]
  exact ⟨rfl, rfl, rfl, rfl, rfl, rfl, rfl⟩

theorem engine_heardRun (s : State) (l c : Nat) (k : Context) : (heardRun s l c k).records.engine = s.records.engine := by
  obtain ⟨links, carriers, heard⟩ := heardRun_eq s l c k
  rw [heard]

theorem alerts_heardRun (s : State) (l c : Nat) (k : Context) : (heardRun s l c k).records.alerts = s.records.alerts := by
  obtain ⟨links, carriers, heard⟩ := heardRun_eq s l c k
  rw [heard]

/-- A carrier that waits for nothing still does when its frame has arrived. -/
theorem unclaiming_heardRun {k : Context} (free : s.claimsNothing c) (waits : k.wait = none) :
    Unclaiming (heardRun s l c k) c := by
  have own := heardRun_ctx_self s l c k
  obtain ⟨queue, reservations, -, mark, turn⟩ := free
  obtain ⟨links, carriers, heard⟩ := heardRun_eq s l c k
  rw [heard] at own ⊢
  exact ⟨queue, reservations, by rw [own]; exact waits, mark, turn⟩

/-- The step a context names in a heard run is that of the part, where the window is as it was. -/
theorem heardRun_step {k : Context} (l j : Nat) (base : k.windowBase = (s.ctx c).windowBase)
    (size : k.windowSize = (s.ctx c).windowSize) (next : k.nextStep = (s.ctx c).nextStep)
    (count : k.windowCount = (s.ctx c).windowCount) : (heardRun s l c k).step c j = s.run.step c j := by
  have own := heardRun_ctx_self s l c k
  have slot (n : Nat) : (heardRun s l c k).slot n = s.run.slot n := by
    obtain ⟨links, carriers, heard⟩ := heardRun_eq s l c k
    rw [heard]
    rfl
  simp only [Run.step, own, slot, Context.inWindow, Context.slotNumber, Context.oldest, base, size, next, count]
  rfl

/-! ## The hand-over to the carrier table (R86) -/

theorem goodFrame_enrolled (enrolled : (s.ctx c).state ≠ .vacant) :
    goodFrame s.setting s.run l c q =
      carrierRequest s.setting (setHome (s.run.setReceiver l Receiver.hunting) c l) c q := if_neg enrolled

theorem goodFrame_running (running : (s.ctx c).state = .running) (active : s.setting.op = .active) :
    goodFrame s.setting s.run l c q = runningRequest s.setting (heardRun s l c (heardContext (s.ctx c) l)) c q
      ((s.ctx c).contact == .silent) := by
  have contact : ((setHome (s.run.setReceiver l Receiver.hunting) c l).ctx c).contact = (s.ctx c).contact := by
    rw [setHome_ctx_self]
    rfl
  have state : ((heardRun s l c (heardContext (s.ctx c) l)).ctx c).state = .running := by
    rw [heardRun_ctx_self]
    exact running
  rw [goodFrame_enrolled (by simp [running])]
  simp only [carrierRequest, restoreContact_setHome, contact, state, active, if_true]

theorem goodFrame_halting (halting : (s.ctx c).state = .halting) :
    goodFrame s.setting s.run l c q = haltingRequest s.setting (heardRun s l c (heardContext (s.ctx c) l)) c q := by
  have state : ((heardRun s l c (heardContext (s.ctx c) l)).ctx c).state = .halting := by
    rw [heardRun_ctx_self]
    exact halting
  rw [goodFrame_enrolled (by simp [halting])]
  simp only [carrierRequest, restoreContact_setHome, state]

end

end Sys2Proof.Proofs
end

section
/-! The bound on one event's work (log entry 2) against statements about any number of released cells: a carrier that rests
on more cells than the bound has pieces of work releases one piece of work per cell, and the event stops with a fault. -/

namespace Sys2Proof.Proofs

open Sys2Proof.Machine Sys2Proof.Laws

section
variable {e : Setting} {v : Run} {c : Nat} {s : State}

/-! ## An event with more work than the bound -/

/-- A piece of work takes at most itself off the work. -/
theorem length_work_le_advance (e : Setting) (v : Run) : v.work.length ≤ (v.advance e).work.length + 1 := by
  cases h : v.work with
  | nil => simp
  | cons a rest =>
    rw [advance_next h, List.length_append, List.length_cons]
    omega

/-- Work that comes to rest within a bound was no longer than the bound. -/
theorem length_work_le_of_settle {r : Records} {n : Nat} (h : settle n e v = some r) : v.work.length ≤ n := by
  induction n generalizing v with
  | zero =>
    simp only [settle] at h
    split at h
    · rename_i idle
      simp [List.isEmpty_iff.mp idle]
    · cases h
  | succ n ih =>
    simp only [settle] at h
    split at h
    · rename_i idle
      simp [List.isEmpty_iff.mp idle]
    · have rest := ih h
      have step := length_work_le_advance e v
      omega

theorem settled_none_of_work (h : 16777216 < v.work.length) : settled e v = none := by
  cases rest : settled e v with
  | none => rfl
  | some r =>
    have bound : v.work.length ≤ 16777216 := length_work_le_of_settle rest
    omega

/-! ## Releases are work -/

/-- Every released entry leaves a piece of work (R35). -/
theorem length_work_foldl_releaseEntry (hs : List Held) (v : Run) :
    (hs.foldl (releaseEntry e c) v).work.length = v.work.length + hs.length := by
  induction hs generalizing v with
  | nil => rfl
  | cons h hs ih =>
    have one : (releaseEntry e c v h).work.length = v.work.length + 1 := by simp [releaseEntry, Run.later]
    rw [List.foldl_cons, ih, one, List.length_cons]
    omega

theorem length_work_release (hs : List Held) (v : Run) : (release e v c hs).work.length = v.work.length + hs.length := by
  cases hs with
  | nil => rfl
  | cons h hs => exact length_work_foldl_releaseEntry (h :: hs) v

/-- An accepted PASS of a carrier that rests on everything it holds leaves a piece of work per entry (R88). -/
theorem length_work_movePosition (f r x : Nat) (resting : ∀ h ∈ (v.ctx c).held, h.step = none) :
    (movePosition e v c f r x).work.length = v.work.length + (v.ctx c).held.length := by
  have held : ((v.modCtx c (fun k => { k with front := f, rear := r, frontCell := x })).ctx c).held = (v.ctx c).held := by
    rw [Run.ctx_modCtx_self]
  simp only [movePosition, held]
  rw [length_work_release, List.filter_eq_self.mpr]
  · rfl
  · intro h hh
    simp [resting h hh]

/-- A consistent PASS from the front step on, below the grant mark, is accepted (R87). -/
theorem sortPass_accepted {f r x : Nat} (front : (v.ctx c).front ≤ f) (mark : f < (v.ctx c).grantMark)
    (cell : (v.step c f).map Slot.cell = some x) (low : r ≤ f) (high : f ≤ r + 2) (rear : (v.ctx c).rear ≤ r) :
    sortPass v c f r x = .accepted := by
  simp only [sortPass]
  rw [if_neg (by omega), if_neg (by omega), if_neg]
  rintro (h | h | h | h)
  · exact h cell
  all_goals omega

/-- A PASS of a HALTING or RUNNING carrier that rests on more cells than the bound allows has no end. -/
theorem pass_endless {l : Fin 4} {c : Byte} {front rear cell : Half} {speed : Byte} (hs : s.inService)
    (state : (s.ctx c.toNat).state = .halting ∨ ((s.ctx c.toNat).state = .running ∧ s.setting.op = .active))
    (ahead : (s.ctx c.toNat).front ≤ front.toNat) (mark : front.toNat < (s.ctx c.toNat).grantMark)
    (consistent : PassConsistent s c.toNat front.toNat rear.toNat cell.toNat)
    (resting : ∀ h ∈ (s.ctx c.toNat).held, h.step = none) (many : 16777216 < (s.ctx c.toNat).held.length) :
    exec (.pass l c front rear cell speed) s = .fault .endlessEvent := by
  have own := heardRun_ctx_self s l c.toNat (heardContext (s.ctx c.toNat) l)
  obtain ⟨named, low, high, behind⟩ := consistent
  have accepted : sortPass (heardRun s l c.toNat (heardContext (s.ctx c.toNat) l)) c.toNat front.toNat rear.toNat cell.toNat =
      .accepted := by
    refine sortPass_accepted (by rw [own]; exact ahead) (by rw [own]; exact mark) ?_ low high (by rw [own]; exact behind)
    rw [heardRun_step (k := heardContext (s.ctx c.toNat) l) l front.toNat rfl rfl rfl rfl]
    exact named
  have spoken : (((heardRun s l c.toNat (heardContext (s.ctx c.toNat) l)).recordSpeed c.toNat speed.toNat).ctx c.toNat).held =
      (s.ctx c.toNat).held := by
    rw [Run.recordSpeed, Run.ctx_modCtx_self, own]
    rfl
  have moved := length_work_movePosition (e := s.setting) (c := c.toNat)
    (v := (heardRun s l c.toNat (heardContext (s.ctx c.toNat) l)).recordSpeed c.toNat speed.toNat) front.toNat rear.toNat
    cell.toNat (by rw [spoken]; exact resting)
  rw [spoken] at moved
  have long : 16777216 < (goodFrame s.setting s.run l c.toNat
      (.pass front.toNat rear.toNat cell.toNat speed.toNat)).work.length := by
    obtain halting | ⟨running, active⟩ := state
    · rw [goodFrame_halting halting]
      simp only [haltingRequest, haltingPass, accepted, Run.later, List.length_append, moved]
      omega
    · rw [goodFrame_running running active]
      simp only [runningRequest, runningPass, accepted, Run.later, List.length_append, moved]
      omega
  change runEvent s (fun e v => goodFrame e v l c.toNat (.pass front.toNat rear.toNat cell.toNat speed.toNat)) = _
  unfold State.inService at hs
  simp only [runEvent, hs]
  rw [if_neg (by decide), finish, show settled s.setting (goodFrame s.setting (Run.start s.records) l c.toNat _) = none from
    settled_none_of_work long]

/-! ## A part with any number of cells -/

theorem find_map_range {α : Type} (a : α) {n x : Nat} (h : x < n) :
    Table.find ((List.range n).map (fun y => (y, a))) x = some a := by
  have among (l : List Nat) (hx : x ∈ l) : Table.find (l.map (fun y => (y, a))) x = some a := by
    induction l with
    | nil => cases hx
    | cons y l ih =>
      by_cases hy : y = x
      · simp [Table.find, hy]
      · simp only [List.map_cons, Table.find, hy, if_false]
        exact ih ((List.mem_cons.mp hx).resolve_left (Ne.symm hy))
  exact among _ (List.mem_range.mpr h)

/-- A TRACK cell without a clearance. -/
def plainTrack : CellStatic :=
  { kind := .track, length := 1, limit := 1, clearance := 0, ports := [], capacity := none, entryPort := none
    exitPort := none, gate := none, corridor := none }

/-- The resting entries of a carrier on the cells below `n`. -/
def restingOn (n : Nat) : List Held := (List.range n).map (fun x => { cell := x, step := none, distance := 0 })

/-- A carrier that rests on `n` cells, its route cut at its front step. -/
def crowdedContext (n : Nat) (state : CarrierState) : Context :=
  { Context.vacant with
    state := state, stopCause := some .overrun, windowCount := 1, nextStep := 1, cutPoint := some 0
    cutResult := some .bus, routeAddr := some 0, held := restingOn n }

/-- A part in ACTIVE whose one carrier holds each of its `n` cells alone. -/
def crowdedPart (n : Nat) (state : CarrierState) : State :=
  { State.reset with
    setting := { Setting.reset with
      op := .active, map := { MapStore.empty with cells := (List.range n).map (fun x => (x, plainTrack)) } }
    records := { Records.reset with
      cells := (List.range n).map (fun x => (x, { CellRun.free with holders := [0] }))
      carriers := [(0, crowdedContext n state)] } }

section
variable (n : Nat) (state : CarrierState)

theorem crowdedPart_ctx : (crowdedPart n state).ctx 0 = crowdedContext n state := rfl

theorem mem_restingOn {n : Nat} {h : Held} (hh : h ∈ restingOn n) : h.step = none ∧ h.cell < n := by
  obtain ⟨x, hx, rfl⟩ := List.mem_map.mp hh
  exact ⟨rfl, List.mem_range.mp hx⟩

theorem leftBehind_restingOn (b : Nat) : (restingOn n).filter (leftBehind b) = restingOn n :=
  List.filter_eq_self.mpr (fun h hh => by simp [leftBehind, (mem_restingOn hh).1])

theorem not_leftBehind_restingOn (b : Nat) : (restingOn n).filter (fun h => !leftBehind b h) = [] :=
  List.filter_eq_nil_iff.mpr (fun h hh => by simp [leftBehind, (mem_restingOn hh).1])

theorem gone_crowdedPart (b : Nat) : ((crowdedPart n state).ctx 0).held.filter (leftBehind b) = restingOn n :=
  leftBehind_restingOn n b

theorem restingOn_ne_nil {n : Nat} (h : 0 < n) : restingOn n ≠ [] := by
  intro none
  have length := congrArg List.length none
  simp only [restingOn, List.length_map, List.length_range, List.length_nil] at length
  omega

/-- Every cell of the crowded part is freed alone. -/
theorem freedAlone_crowdedPart : FreedAlone (crowdedPart n state) 0 (restingOn n) := by
  have cells : (restingOn n).map Held.cell = List.range n := by simp [restingOn, Function.comp_def]
  refine ⟨by rw [cells]; exact List.nodup_range, fun h hh => ?_⟩
  have below := (mem_restingOn hh).2
  have cell : (crowdedPart n state).cell h.cell = { CellRun.free with holders := [0] } := by
    change (Table.find _ h.cell).getD _ = _
    rw [crowdedPart, find_map_range _ below]
    rfl
  rw [cell]
  exact ⟨rfl, rfl, plainTrack, find_map_range _ below, by decide, by decide, rfl⟩

theorem passConsistent_crowdedPart : PassConsistent (crowdedPart n state) 0 0 0 0 := ⟨rfl, le_rfl, by decide, le_rfl⟩

/-- The one carrier of the crowded part waits for nothing. -/
theorem claimsNothing_crowdedPart : (crowdedPart n state).claimsNothing 0 := by
  refine ⟨?_, rfl, rfl, rfl, fun k hk => by cases hk⟩
  rw [queueOf_eq_none_iff]
  intro p hp w hw
  obtain ⟨x, -, rfl⟩ := List.mem_map.mp hp
  cases hw

/-- The crowded carrier keeps nothing when it passes: no window slot is freed (R88, R108). -/
theorem passedContext_crowdedContext : passedContext (crowdedContext n state) 0 0 0 0 0 =
    { heardContext (crowdedContext n state) 0 with held := [] } := by
  have kept : (crowdedContext n state).held.filter (fun h => !leftBehind 0 h) = [] := not_leftBehind_restingOn n 0
  simp only [passedContext, kept]
  rfl

/-- A PASS of the carrier has no end where it rests on more cells than the bound has pieces of work. -/
theorem crowdedPart_pass_endless {n : Nat} {state : CarrierState} (many : 16777216 < n)
    (moves : state = .halting ∨ state = .running) (speed : Byte) :
    exec (.pass 0 0 0 0 0 speed) (crowdedPart n state) = .fault .endlessEvent :=
  pass_endless (s := crowdedPart n state) (c := 0) rfl (moves.imp_right (fun h => ⟨h, rfl⟩)) le_rfl (by decide : 0 < 1)
    (passConsistent_crowdedPart n state) (fun h hh => (mem_restingOn hh).1) (by
      change 16777216 < (restingOn n).length
      rwa [restingOn, List.length_map, List.length_range])

/-- A FAULT is no next state. -/
theorem not_next_of_fault {i : Instr} {s : State} {P : State → Prop} (h : exec i s = .fault .endlessEvent)
    (ex : ∃ t, exec i s = .next t ∧ P t) : False := by
  obtain ⟨t, next, -⟩ := ex
  rw [h] at next
  cases next

/-- Refutes O50: an accepted PASS of a HALTING carrier that rests on more cells than one event has pieces of work stops the
part with the fault of an event without an end, where the statement has it answered (R88, R94; log entry 2). -/
theorem not_framesOutsideRunning : ¬ Obligations.FramesOutsideRunning := by
  unfold Obligations.FramesOutsideRunning
  rintro ⟨halting, -⟩
  obtain ⟨n, many⟩ : ∃ n, 16777216 < n := ⟨16777217, by decide⟩
  have faults := crowdedPart_pass_endless (state := .halting) many (.inl rfl) 1
  obtain ⟨-, -, -, -, -, passes, -⟩ := halting 0 0 (crowdedPart n .halting) rfl .overrun rfl rfl
  obtain ⟨moving, -⟩ := passes 0 0 0 1 le_rfl (show 0 < 1 by decide) (passConsistent_crowdedPart n .halting)
    (show ((crowdedPart n .halting).ctx 0).held.filter (leftBehind 0) ≠ [] by
      rw [gone_crowdedPart]
      exact restingOn_ne_nil (by omega))
    (show FreedAlone (crowdedPart n .halting) 0 (((crowdedPart n .halting).ctx 0).held.filter (leftBehind 0)) by
      rw [gone_crowdedPart]
      exact freedAlone_crowdedPart n .halting)
  exact not_next_of_fault faults (moving (by decide))

/-- Refutes O52: an accepted PASS at the cut point, of a RUNNING carrier that rests on more cells than one event has pieces
of work, stops the part with the fault of an event without an end, where the statement has its route end (R88, R89; log
entry 2). -/
theorem not_passIsSorted : ¬ Obligations.PassIsSorted := by
  unfold Obligations.PassIsSorted
  rintro ⟨running, -⟩
  obtain ⟨n, many⟩ : ∃ n, 16777216 < n := ⟨16777217, by decide⟩
  have faults := crowdedPart_pass_endless (state := .running) many (.inr rfl) 0
  obtain ⟨accepted, -⟩ := running 0 0 0 0 0 0 (crowdedPart n .running) rfl rfl
  have alone : FreedAlone (crowdedPart n .running) 0 (((crowdedPart n .running).ctx 0).held.filter (leftBehind 0)) := by
    rw [gone_crowdedPart]
    exact freedAlone_crowdedPart n .running
  have some : ((crowdedPart n .running).ctx (0 : Byte).toNat).held.filter (leftBehind (0 : Half).toNat) ≠ [] := by
    change ((crowdedPart n .running).ctx 0).held.filter (leftBehind 0) ≠ []
    rw [gone_crowdedPart]
    exact restingOn_ne_nil (by omega)
  obtain ⟨cuts, -⟩ := accepted rfl (claimsNothing_crowdedPart n .running) le_rfl (show 0 < 1 by decide)
    (passConsistent_crowdedPart n .running) alone
  have ends := cuts ⟨rfl, rfl⟩
  rw [if_neg some] at ends
  change CutEnds _ _ _ _ (passedContext (crowdedContext n .running) 0 0 0 0 0) _ at ends
  rw [passedContext_crowdedContext] at ends
  exact not_next_of_fault faults (ends 0 .bus (claimsNothing_crowdedPart n .running) rfl rfl (.inr rfl) rfl
    (List.forall_mem_nil _) (List.forall_mem_nil _) alone)

end

end

end Sys2Proof.Proofs
end

section
/-! A frame answered by one message (R61, R86): what a halt, a route's end, a current reply and an attempt that meets a stop
test leave of the part, and DONE (R91, R92). -/

namespace Sys2Proof.Proofs

open Sys2Proof.Machine Sys2Proof.Laws

section
variable {s : State} {l c : Nat} {k : Context} {v u w : Run}

/-! ## What a frame leaves -/

/-- A run that differs from the heard run in alerts and the engine, after the one message that answers the frame. -/
theorem answeredAt_of_quiet {p : Payload} {flags : BitVec 10} (own : w.ctx c = k) (others : ∀ d, d ≠ c → w.ctx d = s.ctx d)
    (track : Records.sameTrack s.records w.records) (links : w.records.links = (heardRun s l c k).records.links)
    (alerts : w.records.alerts = s.records.alerts ||| flags) (quiet : Quiet (send w c p) u) :
    AnsweredAt s { s with records := u.records } l c k p flags ∧ u.records.engine = w.records.engine := by
  have sent := send_linksOnly w c p
  obtain ⟨links', alerts'⟩ := send_raised (u := w) (v := heardRun s l c k) (c := c)
    (by rw [own, heardRun_ctx_self]) links (by rw [alerts, alerts_heardRun]) p
  refine ⟨⟨?_, fun d hd => ?_, sameTrack_trans track (sameTrack_trans (sameTrack_of_linksOnly sent) (sameTrack_of_quiet quiet)),
    (links_of_quiet quiet).trans links', (alerts_of_quiet quiet).trans alerts', rfl, rfl⟩,
    (engine_of_quiet quiet).trans (engine_send ..)⟩
  · rw [ctx_of_records rfl, quiet.ctx, sent.ctx, own]
  · rw [ctx_of_records rfl, quiet.ctx, sent.ctx, others d hd]

/-- The answer of a heard run itself. -/
theorem answeredAt_of_heard {p : Payload} (quiet : Quiet (send (heardRun s l c k) c p) u) :
    AnsweredAt s { s with records := u.records } l c k p 0 ∧ u.records.engine = s.records.engine := by
  have answered := answeredAt_of_quiet (flags := 0) (heardRun_ctx_self s l c k) (fun d hd => heardRun_ctx_other s l k hd)
    (sameTrack_heardRun s l c k) rfl (by rw [alerts_heardRun]; simp) quiet
  rwa [engine_heardRun] at answered

/-- A halt of a heard carrier that waits for nothing (R93). -/
theorem halt_answers (same : Quiet (heardRun s l c k) v) (running : k.state = .running) (free : s.claimsNothing c)
    (waits : k.wait = none) (cause : StopCause) :
    ∃ r, settled s.setting (v.later [.halt c cause]) = some r ∧
      AnsweredAt s { s with records := r } l c (haltedContext cause k) (.stop cause) 0 ∧ r.engine = s.records.engine := by
  have own : v.ctx c = k := by rw [same.ctx, heardRun_ctx_self]
  obtain ⟨u, quiet, reaches⟩ := halt_reaches (e := s.setting) ((calm_heardRun s l c k).of_quiet same)
    ((unclaiming_heardRun free waits).of_quiet same) (by rw [own]; exact running) cause []
  have told : Quiet (send (heardRun s l c (haltedContext cause k)) c (.stop cause)) u :=
    (quiet_send ((heardRun_quiet s l c k _).trans (quiet_modCtx same c _)) c _).trans quiet
  obtain ⟨answered, engine⟩ := answeredAt_of_heard told
  have first : Reaches s.setting 1 (v.later [.halt c cause]) ((halt s.setting v c cause).later []) :=
    Reaches.run rfl ((calm_heardRun s l c k).of_quiet same).work
  refine ⟨_, (first.trans reaches).settled (quiet.work.trans (LinksOnly.work (send_linksOnly ..)) |>.trans ?_) (by decide),
    answered, engine⟩
  exact ((calm_heardRun s l c k).of_quiet same).work

/-- The context a route's end leaves has authority end 0 (R60, R85). -/
theorem authorityEnd_routeEndedContext (result : RouteResult) (k : Context) :
    (routeEndedContext result k).authorityEnd = 0 := by
  simp [Context.authorityEnd, routeEndedContext, Context.endRoute]

/-- The end of a heard carrier's route with nothing released, and the WAIT NO-ROUTE that answers the frame (R85, R89, R91). -/
theorem routeEnd_answers (same : Quiet (heardRun s l c k) v) (running : k.state = .running) (free : s.claimsNothing c)
    (waits : k.wait = none) {a : Address} (routed : k.routeAddr = some a) (result : RouteResult) :
    ∃ r, settled s.setting ((v.later [.routeEndRest c result]).later [.waitReply c .noRoute]) = some r ∧
      AnsweredAt s { s with records := r } l c (routeEndedContext result k) (.wait 0 0 .noRoute) AlertFlag.routeEnd.mask ∧
      r.engine = { s.records.engine with
        queue := queueAfterEnd s.records.engine.queue c a result k.front k.used k.generation } := by
  have own : v.ctx c = k := by rw [same.ctx, heardRun_ctx_self]
  have calm := (calm_heardRun s l c k).of_quiet same
  have claimless : Unclaiming v c := (unclaiming_heardRun free waits).of_quiet same
  obtain ⟨n, u, hn, quiet, reaches⟩ := routeEndRest_reaches (e := s.setting) calm (by simp [own, running])
    (by rw [own]; exact waits) (fun _ => claimless) result [.waitReply c .noRoute]
  have ended : (u.ctx c) = routeEndedContext result k := by rw [quiet.ctx, routeEndedRun_ctx_self, own]
  have calm' : Calm u := Calm.of_quiet (v := routeEndedRun v c result) ⟨calm.work, calm.deferring, calm.deferred⟩ quiet
  have reply := waitReply_reaches (e := s.setting) (c := c) (r := .noRoute) calm' []
  rw [ended, authorityEnd_routeEndedContext] at reply
  have told := quiet_send quiet c (.wait 0 0 .noRoute)
  have links := links_of_quiet same
  obtain ⟨answered, engine⟩ := answeredAt_of_quiet (s := s) (l := l) (k := routeEndedContext result k) (w := routeEndedRun v c result)
    (flags := AlertFlag.routeEnd.mask) (by rw [routeEndedRun_ctx_self, own])
    (fun d hd => by rw [routeEndedRun_ctx_other _ hd, same.ctx, heardRun_ctx_other _ _ _ hd])
    (sameTrack_trans (sameTrack_heardRun s l c k) (sameTrack_trans (sameTrack_of_quiet same) ⟨rfl, rfl, rfl, rfl, rfl, rfl, rfl⟩))
    links (congrArg (· ||| AlertFlag.routeEnd.mask) ((alerts_of_quiet same).trans (alerts_heardRun ..))) told
  refine ⟨_, ?_, answered, engine.trans ?_⟩
  · rw [later_later]
    exact (reaches.trans reply).settled (LinksOnly.work (send_linksOnly ..) |>.trans calm'.work) (by omega)
  · refine (routeEndedEngine_of_routed (by rw [own]; exact routed) result).trans ?_
    rw [own, engine_of_quiet same, engine_heardRun, Context.stepReached, running]
    rfl

/-- An attempt of a heard carrier that waits for nothing, which meets a stop test other than lane order, with its reply (R45,
R48, R60). -/
theorem attempt_repliedAt {r : Reason} (same : Quiet (heardRun s l c k) v) (active : s.setting.op = .active)
    (runs : k.runsLive) (free : s.claimsNothing c) (waits : k.wait = none) (hr : r ≠ .order)
    (stops : stopTest s.setting (heardRun s l c k) c = some r) :
    ∃ q, settled s.setting (v.later [.attempt c .reply, .fetchTrigger c]) = some q ∧
      RepliedAt s { s with records := q } l c k r := by
  obtain ⟨u, quiet, idle, reaches⟩ := attemptThenFetch_reaches (after := .reply) same (calm_heardRun s l c k)
    (unclaiming_heardRun free waits) active (by rw [heardRun_ctx_self]; exact runs) stops hr (by simp)
  have noticed := quiet_attemptMessage (e := s.setting) (heardRun_quiet s l c k (noted r)) c false .reply
  obtain ⟨contexts, track, links, alerts, engine⟩ := fetchTrigger_send_leaves ((quiet_fetchTrigger noticed c).trans quiet)
  refine ⟨_, reaches.settled idle (by decide), ?_, fun d hd => ?_, sameTrack_trans (sameTrack_heardRun ..) track, links, alerts,
    engine, rfl, rfl⟩
  · rw [ctx_of_records rfl, contexts, heardRun_ctx_self]
    rfl
  · rw [ctx_of_records rfl, contexts, heardRun_ctx_other _ _ _ hd]

/-- The current reply to a frame that brings about no attempt (R60). -/
theorem currentReply_answers (same : Quiet (heardRun s l c k) v) :
    ∃ r, settled s.setting (replyAfterRestore s.setting v c false) = some r ∧
      AnsweredAt s { s with records := r } l c k (currentReply s.setting (heardRun s l c k) c) 0 ∧
      r.engine = s.records.engine := by
  have replies : replyAfterRestore s.setting v c false = send v c (currentReply s.setting (heardRun s l c k) c) := by
    rw [← (quiet_sameRights same).currentReply]
    rfl
  obtain ⟨answered, engine⟩ := answeredAt_of_heard (quiet_send same c (currentReply s.setting (heardRun s l c k) c))
  rw [replies]
  exact ⟨_, settled_rest ((send_linksOnly ..).work.trans ((calm_heardRun ..).of_quiet same).work), answered, engine⟩

/-! ## Fault allowance (R92) -/

/-- A context that has been charged one unit of fault allowance by a frame at a speed (R92). -/
def chargedContext (speed : Nat) (k : Context) : Context :=
  { k with lastSpeed := speed, allowance := k.allowance - 1, used := min 255 (k.used + 1) }

/-- A frame whose hand-over is a charge of its RUNNING carrier is a charge of the part (R92, R93, R100). -/
theorem charged_of_charge {i : Instr} {l : Fin 4} {c speed : Byte} (active : s.setting.op = .active)
    (running : (s.ctx c.toNat).state = .running)
    (done : ∀ r, settled s.setting (charge s.setting ((heardRun s l c.toNat (heardContext (s.ctx c.toNat) l)).recordSpeed
      c.toNat speed.toNat) c.toNat ((s.ctx c.toNat).contact == .silent)) = some r →
      exec i s = .next { s with records := r }) :
    Charged i l c speed s := by
  let k := heardContext (s.ctx c.toNat) l
  let v := ((heardRun s l c.toNat k).recordSpeed c.toNat speed.toNat).modCtx c.toNat
    (fun k => { k with allowance := k.allowance - 1, used := min 255 (k.used + 1) })
  have same : Quiet (heardRun s l c.toNat (chargedContext speed.toNat k)) v :=
    (heardRun_quiet s l c.toNat k (chargedContext speed.toNat)).trans (quiet_modCtx_modCtx _ c.toNat rfl)
  have own : v.ctx c.toNat = chargedContext speed.toNat k := by rw [same.ctx, heardRun_ctx_self]
  have charges (b : Bool) : charge s.setting ((heardRun s l c.toNat k).recordSpeed c.toNat speed.toNat) c.toNat b =
      if (s.ctx c.toNat).allowance - 1 = 0 then v.later [.halt c.toNat .faults]
      else replyAfterRestore s.setting v c.toNat b := by
    have allowance : (v.ctx c.toNat).allowance = (s.ctx c.toNat).allowance - 1 := by rw [own]; rfl
    rw [← allowance]
    rfl
  refine ⟨fun spent free => ?_, fun left live => ?_, fun r left silent free hr stops => ?_⟩
  · obtain ⟨q, rest, answered, engine⟩ := halt_answers same running free free.2.2.1 .faults
    refine ⟨_, done q ?_, answered, engine⟩
    rw [charges, if_pos (by omega)]
    exact rest
  · obtain ⟨q, rest, answered, engine⟩ := currentReply_answers same
    refine ⟨_, done q ?_, answered, engine⟩
    have kept : ((s.ctx c.toNat).contact == .silent) = false := by simp [live]
    rw [charges, if_neg (by omega), kept]
    exact rest
  · obtain ⟨q, rest, replied⟩ := attempt_repliedAt same active ⟨running, rfl⟩ free free.2.2.1 hr stops
    refine ⟨_, done q ?_, replied⟩
    have lifted : ((s.ctx c.toNat).contact == .silent) = true := by simp [silent]
    rw [charges, if_neg (by omega), lifted]
    exact rest

end

/-! ## DONE (R91) -/

section
variable {s : State} {l : Fin 4} {c speed : Byte} {front : Half}

/-- The end of a route of a carrier that holds its front step's entry alone: it rests on it. -/
theorem endRoute_only {k : Context} {x d : Nat} (held : k.held = [{ cell := x, step := some k.front, distance := d }])
    (result : RouteResult) : k.endRoute result =
      { restedContext k result with frontCell := x, held := [{ cell := x, step := none, distance := d }] } := by
  simp only [Context.endRoute, held, List.find?_cons, beq_self_eq_true, Option.map_some, Option.getD_some, List.map_cons,
    List.map_nil]
  rfl

/-- When a DONE completes the route (R91). -/
theorem arrived_iff (k : Context) (f speed : Nat) :
    k.arrived f speed = true ↔ k.stepCount = some (f + 1) ∧ k.front = f ∧ k.rear = f ∧ speed = 0 := by
  cases h : k.stepCount with
  | none => simp [Context.arrived, h]
  | some n =>
    simp only [Context.arrived, h, Bool.and_eq_true, beq_iff_eq, Option.some.injEq]
    omega

theorem runningDone_eq (e : Setting) (v : Run) (c f speed : Nat) (wasSilent : Bool) :
    runningDone e v c f speed wasSilent = if ((v.recordSpeed c speed).ctx c).arrived f speed then
      (routeEnd e (v.recordSpeed c speed) c .complete).later [.waitReply c .noRoute]
    else charge e (v.recordSpeed c speed) c wasSilent := rfl

/-- A context with its last reported speed (R87, R90, R91). -/
def spokenContext (speed : Nat) (k : Context) : Context := { k with lastSpeed := speed }

theorem recordSpeed_heardRun_ctx (s : State) (l c speed : Nat) (k : Context) :
    ((heardRun s l c k).recordSpeed c speed).ctx c = spokenContext speed k := by
  rw [Run.recordSpeed, Run.ctx_modCtx_self, heardRun_ctx_self]
  rfl

/-- A DONE that completes the route, from a carrier that waits for nothing (R91, R85). -/
theorem goodFrame_done_arrived {s : State} {l c f x d : Nat} {a : Address} (active : s.setting.op = .active)
    (running : (s.ctx c).state = .running) (free : s.claimsNothing c) (count : (s.ctx c).stepCount = some (f + 1))
    (front : (s.ctx c).front = f) (rear : (s.ctx c).rear = f)
    (held : (s.ctx c).held = [{ cell := x, step := some f, distance := d }]) (routed : (s.ctx c).routeAddr = some a) :
    ∃ r, settled s.setting (goodFrame s.setting s.run l c (.done f 0)) = some r ∧
      AnsweredAt s { s with records := r } l c
        { restedContext (heardContext (s.ctx c) l) .complete with
          lastSpeed := 0, passOver := 0, frontCell := x, held := [{ cell := x, step := none, distance := d }] }
        (.wait 0 0 .noRoute) AlertFlag.routeEnd.mask ∧
      r.engine = { s.records.engine with
        queue := queueAfterEnd s.records.engine.queue c a .complete f (s.ctx c).used (s.ctx c).generation } := by
  have arrived : (spokenContext 0 (heardContext (s.ctx c) l)).arrived f 0 = true :=
    (arrived_iff _ _ _).mpr ⟨count, front, rear, rfl⟩
  have only : (spokenContext 0 (heardContext (s.ctx c) l)).held =
      [{ cell := x, step := some (spokenContext 0 (heardContext (s.ctx c) l)).front, distance := d }] := by
    change (s.ctx c).held = [{ cell := x, step := some (s.ctx c).front, distance := d }]
    rw [held, front]
  have ends : routeEnd s.setting ((heardRun s l c (heardContext (s.ctx c) l)).recordSpeed c 0) c .complete =
      ((heardRun s l c (heardContext (s.ctx c) l)).recordSpeed c 0).later [.routeEndRest c .complete] := by
    refine routeEndKeeping_all ?_ .complete
    rw [recordSpeed_heardRun_ctx, only]
    simp [keptAtEnd]
  obtain ⟨q, rest, answered, engine⟩ := routeEnd_answers (heardRun_quiet s l c (heardContext (s.ctx c) l) (spokenContext 0))
    running free free.2.2.1 routed .complete
  rw [routeEndedContext_of_running (k := spokenContext 0 (heardContext (s.ctx c) l)) running, endRoute_only only] at answered
  refine ⟨q, ?_, answered, engine.trans ?_⟩
  · rw [goodFrame_running running active, runningRequest, runningDone_eq, recordSpeed_heardRun_ctx, if_pos arrived, ends]
    exact rest
  · rw [show (spokenContext 0 (heardContext (s.ctx c) l)).front = f from front]
    rfl

theorem done_of_settled {r : Records} (hs : s.inService)
    (h : settled s.setting (goodFrame s.setting s.run l c.toNat (.done front.toNat speed.toNat)) = some r) :
    exec (.done l c front speed) s = .next { s with records := r } :=
  runEvent_of_settled (f := fun e v => goodFrame e v l c.toNat (.done front.toNat speed.toNat)) hs h

theorem toNat_eq_zero_iff (b : Byte) : b.toNat = 0 ↔ b = 0 := BitVec.toNat_inj (y := 0)

/-- Settles O53: a DONE that has arrived ends the route on the one entry it keeps; any other is a charge. -/
theorem doneCompletes : Obligations.DoneCompletes := by
  unfold Obligations.DoneCompletes
  intro l c front x d a s hs active
  refine ⟨fun running free count front' rear held routed => ?_, fun speed running other => ?_⟩
  · obtain ⟨q, rest, ⟨own, others, track, links, alerts, setting, -⟩, engine⟩ :=
      goodFrame_done_arrived active running free count front' rear held routed
    exact ⟨_, done_of_settled hs rest, own, others, track, engine, links, flag_of_alerts alerts, setting⟩
  · refine charged_of_charge active running (fun r rest => done_of_settled hs ?_)
    rw [goodFrame_running running active]
    have short : ¬(spokenContext speed.toNat (heardContext (s.ctx c.toNat) l)).arrived front.toNat speed.toNat = true := by
      rw [arrived_iff, toNat_eq_zero_iff]
      exact other
    rw [runningRequest, runningDone_eq, recordSpeed_heardRun_ctx, if_neg short]
    exact rest

end

end Sys2Proof.Proofs
end

section
/-! The attempt a frame asks for (R45, R60): how it goes to its reply whatever its rounds do, and the run an ASK or a PASS
hands to it. -/

namespace Sys2Proof.Proofs

open Sys2Proof.Machine Sys2Proof.Laws

/-! ## Contexts written twice -/

section
variable {α : Type}

theorem Table.erase_set (t : Table α) (n : Nat) (a : α) : Table.erase (Table.set t n a) n = Table.erase t n := by
  induction t with
  | nil => simp [Table.set, Table.erase]
  | cons p rest ih =>
    obtain ⟨k, r⟩ := p
    simp only [Table.erase] at ih ⊢
    by_cases low : n < k
    · simp [Table.set, low]
    · by_cases same : k = n
      · simp [Table.set, same]
      · simp [Table.set, low, same, ih]

theorem Table.put_put [DecidableEq α] (t : Table α) (d : α) (n : Nat) {a : α} (b : α) (h : a ≠ d) :
    Table.put (Table.put t d n a) d n b = Table.put t d n b := by
  have first : Table.put t d n a = Table.set t n a := if_neg h
  rw [first, Table.put, Table.put, Table.erase_set, Table.set_set]

end

section
variable {e : Setting} {v w y z u : Run} {c : Nat}

/-- Two changes of the context of an enrolled carrier are one. -/
theorem modCtx_modCtx (v : Run) (c : Nat) {f : Context → Context} (g : Context → Context) (h : (f (v.ctx c)).state ≠ .vacant) :
    (v.modCtx c f).modCtx c g = v.modCtx c (fun k => g (f k)) := by
  have enrolled : f (v.ctx c) ≠ Context.vacant := fun same => h (by rw [same]; rfl)
  have own : (v.modCtx c f).ctx c = f (v.ctx c) := Run.ctx_modCtx_self ..
  rw [Run.modCtx, own]
  simp only [Run.modCtx, Table.put_put _ _ _ _ enrolled]

theorem heardRun_modCtx (s : State) (l c : Nat) {k : Context} (f : Context → Context) (h : k.state ≠ .vacant) :
    (heardRun s l c k).modCtx c f = heardRun s l c (f k) := modCtx_modCtx _ c (f := fun _ => k) f h

/-! ## The reply -/

/-- A fetch that has been asked for is not asked for again (R110). -/
theorem fetchTrigger_fetchTrigger (v : Run) (c : Nat) : fetchTrigger (fetchTrigger v c) c = fetchTrigger v c := by
  by_cases wanted : fetchWanted v c = true
  · have once : fetchTrigger v c = v.setEngine (v.records.engine.enqueue (.fetch c false)) := if_pos wanted
    have queued : ((v.setEngine (v.records.engine.enqueue (.fetch c false))).records.engine.fetchQueued c) = true := by
      simp [Engine.fetchQueued, Engine.enqueue]
    rw [once]
    refine if_neg ?_
    simp only [fetchWanted, queued]
    simp
  · rw [show fetchTrigger v c = v from if_neg wanted, show fetchTrigger v c = v from if_neg wanted]

theorem fetchTrigger_flow (v : Run) (c : Nat) (b : Bool) (gs : List Nat) :
    fetchTrigger { v with deferring := b, deferred := gs } c = { fetchTrigger v c with deferring := b, deferred := gs } := by
  by_cases wanted : fetchWanted v c = true
  · rw [show fetchTrigger v c = _ from if_pos wanted]
    exact if_pos wanted
  · rw [show fetchTrigger v c = v from if_neg wanted]
    exact if_neg wanted

/-- The current reply is read off the carrier's context and the slots (R60). -/
theorem currentReply_congr (e : Setting) {w : Option WaitRec} (ctx : u.ctx c = { v.ctx c with wait := w })
    (slots : u.records.slots = v.records.slots) : currentReply e u c = currentReply e v c := by
  have slot (n : Nat) : u.slot n = v.slot n := by rw [Run.slot, slots, Run.slot]
  have step (j : Nat) : u.step c j = v.step c j := by
    simp only [Run.step, ctx, slot]
    rfl
  have caps : heldCaps u c = heldCaps v c := by
    simp only [heldCaps, ctx]
    congr 2
    funext h
    exact congrArg h.step.bind (funext step)
  simp only [currentReply, permittedSpeed, caps, ctx]
  rfl

/-- The records an attempt ends with whose wait state is settled in `y`: the reply sent, the fetch triggered. -/
def repliedRun (e : Setting) (y : Run) (c : Nat) : Run := fetchTrigger (send y c (currentReply e y c)) c

/-- An attempt a frame asks for, whose rounds end with a reason in the run `z`: the wait state is settled, the reply sent and
the fetch triggered (R45, R54, R60, R110). -/
theorem replyAttempt_settles {reason : Reason} {granted : Bool} {n : Nat} (calm : Calm w)
    (allowed : attemptAllowed e w c = true) (hn : n ≤ 16)
    (rounds : ∀ rest, Reaches e n ({ w with deferring := true }.later (.round c false .reply :: rest))
      (z.later (.attemptEnd c reason granted .reply :: rest)))
    (idle : z.work = []) (settles : settleWait e (z.modCtx c (noted reason)) c reason = y) (busy : y.work = [])
    (opened : y.deferred = []) :
    settled e (w.later [.attempt c .reply, .fetchTrigger c]) = some (repliedRun e y c).records := by
  have start : runTask e (.attempt c .reply) w = { w with deferring := true }.later [.round c false .reply, .openDeferred] :=
    attemptStart_alone (after := .reply) allowed (by simp)
  have sent := send_linksOnly y c (currentReply e y c)
  obtain ⟨q, ended, again, work, deferred⟩ : ∃ q, runTask e (.attemptEnd c reason granted .reply) z = q ∧
      fetchTrigger q c = repliedRun e y c ∧ q.work = [] ∧ q.deferred = [] := by
    have ends : runTask e (.attemptEnd c reason granted .reply) z =
        if granted then repliedRun e y c else send y c (currentReply e y c) := by
      refine (attemptEnd_alone (after := .reply) granted (by simp)).trans ?_
      rw [settles]
      rfl
    cases granted with
    | false => exact ⟨_, ends, rfl, sent.work.trans busy, sent.deferred.trans opened⟩
    | true =>
      obtain ⟨g, fetched⟩ := fetchTrigger_eq (send y c (currentReply e y c)) c
      refine ⟨_, ends, fetchTrigger_fetchTrigger .., ?_, ?_⟩
      · exact (congrArg Run.work fetched).trans (sent.work.trans busy)
      · exact (congrArg Run.deferred fetched).trans (sent.deferred.trans opened)
  obtain ⟨g, fetched⟩ := fetchTrigger_eq q c
  have all := (Reaches.first (rest := [.fetchTrigger c]) start calm.work).trans ((rounds [.openDeferred, .fetchTrigger c]).trans
    ((Reaches.run ended idle).trans ((openDeferred_reaches work deferred [.fetchTrigger c]).trans (Reaches.run rfl work))))
  have last : runTask e (.fetchTrigger c) { q with deferring := false, deferred := [] } =
      { fetchTrigger q c with deferring := false, deferred := [] } := fetchTrigger_flow q c false []
  rw [last] at all
  rw [← again]
  refine all.settled ?_ (by omega)
  rw [fetched]
  exact work

/-! ## What the reply leaves -/

/-- The reply and the fetch hang on the carrier's context but for its wait record, the slots, the links and the engine. -/
theorem repliedRun_congr (e : Setting) {r : Option WaitRec} (ctx : y.ctx c = { u.ctx c with wait := r })
    (slots : y.records.slots = u.records.slots) (links : y.records.links = u.records.links)
    (engine : y.records.engine = u.records.engine) :
    (repliedRun e y c).records.links = (send u c (currentReply e u c)).records.links ∧
      (repliedRun e y c).records.engine = (fetchTrigger u c).records.engine := by
  obtain ⟨-, -, sent, -, triggered⟩ := fetchTrigger_send_leaves (Quiet.refl (repliedRun e y c))
  have wanted : fetchWanted y c = fetchWanted u c := by
    simp only [fetchWanted, ctx, engine]
    rfl
  refine ⟨?_, triggered.trans ?_⟩
  · rw [sent, currentReply_congr e ctx slots]
    exact links_send_congr (by rw [ctx]) links _
  · simp only [fetchTrigger, wanted]
    split
    · rw [engine]
      rfl
    · exact engine

/-- The run `y`, whose attempt has ended and whose reply is still to be sent, holds the contexts, cells, reservations, links
and engine of `u` and the rest of the track of the part `s`. -/
structure Leads (s : State) (y u : Run) : Prop where
  ctx : ∀ d, y.ctx d = u.ctx d
  cell : ∀ x, y.cell x = u.cell x
  reservations : ∀ d, y.reservations d = u.reservations d
  corridors : y.records.corridors = s.records.corridors
  gates : y.records.gates = s.records.gates
  slots : y.records.slots = s.records.slots
  kept : u.records.slots = s.records.slots
  links : y.records.links = u.records.links
  engine : y.records.engine = u.records.engine

theorem attemptLeaves_of_leads {s : State} (h : Leads s y u) {t : State} (ht : t.records = (repliedRun e y c).records)
    (setting : t.setting = s.setting) : AttemptLeaves s t u c (currentReply e u c) := by
  obtain ⟨contexts, ⟨cells, reservations, corridors, gates, slots, -, -⟩, -, -, -⟩ :=
    fetchTrigger_send_leaves (Quiet.refl (repliedRun e y c))
  obtain ⟨links, engine⟩ := repliedRun_congr e (h.ctx c) (h.slots.trans h.kept.symm) h.links h.engine
  rw [← ht] at cells reservations corridors gates slots links engine
  refine ⟨fun d => ?_, fun x => ?_, fun d => ?_, corridors.trans h.corridors, gates.trans h.gates, slots.trans h.slots, links,
    engine, setting⟩
  · rw [ctx_of_records ht]
    exact (contexts d).trans (h.ctx d)
  · rw [State.cell, cells]
    exact h.cell x
  · rw [State.reservations, reservations]
    exact h.reservations d

/-- The monitor is as before where the attempt has left its records, and the alerts, as they were. -/
theorem monitorKept_of_leads {s : State} (h : Leads s y u) (deadlocks : y.records.deadlocks = s.records.deadlocks)
    (marks : y.records.marks = s.records.marks) (alerts : y.records.alerts = u.records.alerts) {t : State}
    (ht : t.records = (repliedRun e y c).records) : MonitorKept s t u c (currentReply e u c) := by
  obtain ⟨-, ⟨-, -, -, -, -, deadlocks', marks'⟩, -, alerts', -⟩ :=
    fetchTrigger_send_leaves (Quiet.refl (repliedRun e y c))
  have same := currentReply_congr e (h.ctx c) (h.slots.trans h.kept.symm)
  rw [← ht] at deadlocks' marks' alerts'
  refine ⟨deadlocks'.trans deadlocks, marks'.trans marks, alerts'.trans ?_⟩
  rw [same]
  exact (send_congr (by rw [h.ctx]) h.links alerts _).2

end

end Sys2Proof.Proofs
end

section
/-! An attempt that grants one plain run, and one that meets the order of a lane (R48, R53, R74). -/

namespace Sys2Proof.Proofs

open Sys2Proof.Machine Sys2Proof.Laws

/-- The frame `i` has handed its carrier `c`, which waits for nothing, to an attempt that is answered: the run `w` has the
track and the order of seniority of the part `s`, and what the attempt settles to is what the event leaves (R45, R60). -/
structure Asks (i : Instr) (s : State) (w : Run) (c : Nat) : Prop where
  active : s.setting.op = .active
  calm : Calm w
  free : Unclaiming w c
  runs : (w.ctx c).runsLive
  track : Records.sameTrack s.records w.records
  seniority : w.records.seniority = s.records.seniority
  done : ∀ r, settled s.setting (w.later [.attempt c .reply, .fetchTrigger c]) = some r → exec i s = .next { s with records := r }

section
variable {i : Instr} {s : State} {e : Setting} {v w y u : Run} {c : Nat}

/-- An asked attempt whose rounds end in the run `z` with a reason, and whose wait state is settled in `y`. -/
theorem Asks.exec_of_rounds (h : Asks i s w c) {z : Run} {reason : Reason} {granted : Bool} {n : Nat} (hn : n ≤ 16)
    (rounds : ∀ rest, Reaches s.setting n ({ w with deferring := true }.later (.round c false .reply :: rest))
      (z.later (.attemptEnd c reason granted .reply :: rest)))
    (idle : z.work = []) (settles : settleWait s.setting (z.modCtx c (noted reason)) c reason = y) (busy : y.work = [])
    (opened : y.deferred = []) :
    ∃ t : State, exec i s = .next t ∧ t.records = (repliedRun s.setting y c).records ∧ t.setting = s.setting :=
  ⟨_, h.done _ (replyAttempt_settles h.calm (attemptAllowed_of_runsLive h.active h.runs) hn rounds idle settles busy opened),
    rfl, rfl⟩

/-- A run that reads as `u` leads there, where `u` has the track of the part. -/
theorem leads_of_readsAs {b : Bool} (h : ReadsAs { u with deferring := b } y)
    (corridors : u.records.corridors = s.records.corridors) (gates : u.records.gates = s.records.gates)
    (slots : u.records.slots = s.records.slots) : Leads s y u := by
  refine ⟨h.ctx, h.cell, fun d => ?_, ?_, ?_, ?_, slots, ?_, ?_⟩
  · simp only [Run.reservations]
    rw [h.records]
  · rw [h.records, ← corridors]
  · rw [h.records, ← gates]
  · rw [h.records, ← slots]
  · rw [h.records]
  · rw [h.records]

/-- The same with the monitor's records. -/
theorem monitorKept_of_readsAs {b : Bool} (h : ReadsAs { u with deferring := b } y) (leads : Leads s y u)
    (deadlocks : u.records.deadlocks = s.records.deadlocks) (marks : u.records.marks = s.records.marks) {t : State}
    (ht : t.records = (repliedRun e y c).records) : MonitorKept s t u c (currentReply e u c) := by
  refine monitorKept_of_leads leads ?_ ?_ ?_ ht
  · rw [h.records, ← deadlocks]
  · rw [h.records, ← marks]
  · rw [h.records]

/-! ## A plain run granted (R53) -/

/-- An asked attempt that grants one plain run and then meets a stop test other than lane order. -/
theorem Asks.grants (h : Asks i s w c) : AttemptGrants i s w c := by
  intro run r e u goes next plain stops hr
  let w' : Run := { w with deferring := true }
  have edgeless : w'.edge c = none := by
    change (w.ctx c).wait.bind WaitRec.edge = none
    rw [h.free.wait]
    rfl
  obtain ⟨reads, unqueued⟩ := grantRun_plain (v := w') plain h.free.queue edgeless
  have told : ReadsAs { u with deferring := true } ((grantRun e w' c run).modCtx c (noted r)) := by
    have same : ({ u with deferring := true } : Run) = grantedWith e w' c run r := by
      rw [grantedWith, grantedRun_deferring]
      rfl
    rw [same]
    exact reads.modCtx c _
  have waitless : (((grantRun e w' c run).modCtx c (noted r)).ctx c).wait = none := by
    rw [Run.ctx_modCtx_self, reads.ctx, grantedRun_ctx_self]
    rfl
  have ended := told.trans (readsAs_of_quiet (settleWait_quiet (e := e) hr unqueued waitless))
  obtain ⟨cells, carriers, granted⟩ := grantedWith_eq (e := e) (v := w) (c := c) (run := run) (reason := r)
  obtain ⟨-, -, corridors, gates, slots, deadlocks, marks⟩ := h.track
  have kept : u.records = { w.records with cells := cells, carriers := carriers } := congrArg Run.records granted
  have busy : u.work = [] := (congrArg Run.work granted).trans h.calm.work
  have grants : runTask e (.round c false .reply) w' = (grantRun e w' c run).later [.round c true .reply] :=
    attemptRound_grants (attemptAllowed_of_runsLive h.active h.runs) goes next plain
  have runs : ((grantRun e w' c run).ctx c).runsLive := by
    rw [reads.ctx, grantedRun_ctx_self]
    exact h.runs
  have stops' : stopTest e (grantRun e w' c run) c = some r := by
    rw [reads.sameRights.stopTest, grantedRun_deferring]
    exact stops
  have halts : runTask e (.round c true .reply) (grantRun e w' c run) =
      (grantRun e w' c run).later [.attemptEnd c r true .reply] :=
    attemptRound_stops (attemptAllowed_of_runsLive h.active runs) stops'
  have idle : (grantRun e w' c run).work = [] := told.work.trans busy
  obtain ⟨t, exec, ht, setting⟩ := h.exec_of_rounds (by decide) (fun rest => (Reaches.first grants h.calm.work).trans (Reaches.first halts idle))
    idle rfl (ended.work.trans busy) (ended.deferred.trans ((congrArg Run.deferred granted).trans h.calm.deferred))
  have leads : Leads s _ u := leads_of_readsAs ended (by rw [kept]; exact corridors) (by rw [kept]; exact gates)
    (by rw [kept]; exact slots)
  exact ⟨t, exec, attemptLeaves_of_leads leads ht setting,
    monitorKept_of_readsAs ended leads (by rw [kept]; exact deadlocks) (by rw [kept]; exact marks) ht⟩

/-! ## The order of a lane (R74) -/

/-- The edge of a carrier without one, left absent (R29, R133). -/
theorem setEdge_absent {t : Option Nat} (edgeless : v.edge c = none) (absent : targetFor c t = none) :
    setEdge e v c t = v.putEdge c none := by
  simp only [setEdge, edgeless, absent, reportEdge]

/-- A first edge of an unmarked carrier, to a carrier that has none: nothing closes (R133, R136, R137). -/
theorem setEdge_first {d : Nat} (edgeless : v.edge c = none) (unmarked : Table.find v.records.marks c = none) (hd : d ≠ c)
    (free : v.edge d = none) : setEdge e v c (some d) = v.putEdge c (some d) := by
  have target : targetFor c (some d) = some d := by simp [targetFor, hd]
  have unmarked' : (v.putEdge c (some d)).retireMark c = v.putEdge c (some d) := by
    have mark : Table.find (v.putEdge c (some d)).records.marks c = none := unmarked
    simp only [Run.retireMark, mark]
  have onward : (v.putEdge c (some d)).edge d = none := by
    rw [Run.edge, Run.putEdge, Run.ctx_modCtx_other _ _ hd]
    exact free
  have walk : chainWalk (v.putEdge c (some d)).edge c Config.walkHops [c] d = none := by
    simp [chainWalk, hd, onward]
  simp only [setEdge, edgeless, target, reportEdge, unmarked', walkFrom, walk]
  simp

theorem aheadIn_of_split {ahead behind : List Nat} {d : Nat} (h : c ∉ ahead) (hd : d ≠ c) :
    aheadIn (ahead ++ d :: c :: behind) c = some d := by
  have before : (ahead ++ d :: c :: behind).takeWhile (· != c) = ahead ++ [d] := by
    rw [show ahead ++ d :: c :: behind = (ahead ++ [d]) ++ c :: behind by simp,
      List.takeWhile_append_of_pos (by
        intro x hx
        simp only [List.mem_append, List.mem_singleton] at hx
        obtain hx | rfl := hx
        · simpa using fun same : x = c => h (same ▸ hx)
        · simpa using hd)]
    simp
  rw [aheadIn, before]
  simp

/-- A context with a wait record since the tick `n`. -/
def waits (reason : WaitReason) (x : Nat) (n : Tick) (edge : Option Nat) (k : Context) : Context :=
  { k with wait := some { reason := reason, cell := x, since := n, edge := edge } }

/-- The edge of a carrier that waits, set: its wait record has it and no other context changes. -/
theorem ctx_setEdge_waiting {reason : WaitReason} {x : Nat} {n : Tick} {edge t : Option Nat} {k : Context}
    (h : v.ctx c = waits reason x n edge k) (d : Nat) :
    (setEdge e v c t).ctx d = if d = c then waits reason x n (targetFor c t) k else v.ctx d := by
  rw [ctx_setEdge, Run.putEdge]
  split
  next same =>
    subst same
    rw [Run.ctx_modCtx_self, h]
    rfl
  next other => rw [Run.ctx_modCtx_other _ _ other]

/-- A carrier that waited for nothing, stopped by its order in a lane (R74). -/
theorem waitInLane_fresh {x : Nat} (queue : v.queueOf c = none) (wait : (v.ctx c).wait = none) :
    waitInLane e v c x =
      setEdge e ((v.dropSeniority c).modCtx c (waits .order x e.tick none)) c (aheadIn (v.cell x).holders c) := by
  have left : leaveQueue e v c = v.dropSeniority c := by simp only [leaveQueue, queue]
  have same : ((v.dropSeniority c).ctx c).wait = none := wait
  simp only [waitInLane, left]
  rw [modCtx_congr (g := waits .order x e.tick none) _ c (by simp only [same]; rfl)]
  rfl


/-- The part of an attempt's end that edges do not touch. -/
theorem leads_of_edgesOnly {b : Run} (only : EdgesOnly b y) (ctx : ∀ d, y.ctx d = u.ctx d) (cell : ∀ x, b.cell x = u.cell x)
    (reservations : ∀ d, b.reservations d = u.reservations d) (corridors : b.records.corridors = s.records.corridors)
    (gates : b.records.gates = s.records.gates) (slots : b.records.slots = s.records.slots)
    (kept : u.records.slots = s.records.slots) (links : b.records.links = u.records.links)
    (engine : b.records.engine = u.records.engine) : Leads s y u := by
  refine ⟨ctx, fun x => ?_, fun d => ?_, ?_, ?_, ?_, kept, ?_, ?_⟩
  · rw [Run.cell, only.records]
    exact cell x
  · rw [Run.reservations, only.records]
    exact reservations d
  · rw [only.records]
    exact corridors
  · rw [only.records]
    exact gates
  · rw [only.records]
    exact slots
  · rw [only.records]
    exact links
  · rw [only.records]
    exact engine

/-- An asked attempt stopped by its order in a lane (R74). -/
theorem Asks.lane (h : Asks i s w c) : AttemptWaitsInLane i s w c := by
  intro x d ahead behind e u stops lane holders first hd
  have target : targetFor c (some d) = some d := by simp [targetFor, hd]
  have order : aheadIn (w.cell x).holders c = some d := by
    rw [holders]
    exact aheadIn_of_split first hd
  let z : Run := { w with deferring := true }
  let b : Run := ((z.modCtx c (noted .order)).dropSeniority c).modCtx c (waits .order x e.tick none)
  have own : b.ctx c = waits .order x e.tick none (noted .order (w.ctx c)) := by
    rw [Run.ctx_modCtx_self]
    exact congrArg _ (Run.ctx_modCtx_self ..)
  have other {d : Nat} (hd : d ≠ c) : b.ctx d = w.ctx d := by
    rw [Run.ctx_modCtx_other _ _ hd]
    exact Run.ctx_modCtx_other _ _ hd
  have before : laneBefore e (z.modCtx c (noted .order)) c = some x := by
    rw [← lane]
    simp only [laneBefore, Run.ctx_modCtx_self]
    rfl
  have settles : settleWait e (z.modCtx c (noted .order)) c .order = setEdge e b c (some d) := by
    have waiting : ((z.modCtx c (noted .order)).ctx c).wait = none := by
      rw [Run.ctx_modCtx_self]
      exact h.free.wait
    simp only [settleWait, before]
    rw [waitInLane_fresh (v := z.modCtx c (noted .order)) h.free.queue waiting]
    exact congrArg _ order
  have only := setEdge_edgesOnly e b c (some d)
  have halts : runTask e (.round c false .reply) z = z.later [.attemptEnd c .order false .reply] :=
    attemptRound_stops (attemptAllowed_of_runsLive h.active h.runs) stops
  obtain ⟨t, exec, ht, setting⟩ := h.exec_of_rounds (z := z) (by decide) (fun rest => Reaches.first halts h.calm.work) h.calm.work settles (only.work.trans h.calm.work) (only.deferred.trans h.calm.deferred)
  obtain ⟨-, -, corridors, gates, slots, deadlocks, marks⟩ := h.track
  have ctx (d' : Nat) : (setEdge e b c (some d)).ctx d' = u.ctx d' := by
    rw [ctx_setEdge_waiting own, target]
    by_cases same : d' = c
    · rw [if_pos same, same, Run.ctx_modCtx_self]
      rfl
    · rw [if_neg same, other same, Run.ctx_modCtx_other _ _ same]
  have leads : Leads s (setEdge e b c (some d)) u :=
    leads_of_edgesOnly only ctx (fun _ => rfl) (fun _ => rfl) corridors gates slots slots rfl rfl
  refine ⟨t, exec, attemptLeaves_of_leads leads ht setting, fun edgeless => ?_⟩
  have put : setEdge e b c (some d) = b.putEdge c (some d) := by
    have mark : Table.find b.records.marks c = none := h.free.mark
    have own' : b.edge c = none := by
      rw [Run.edge, own]
      rfl
    have other' : b.edge d = none := by
      rw [Run.edge, other hd]
      exact edgeless
    exact setEdge_first own' mark hd other'
  have kept : (setEdge e b c (some d)).records.deadlocks = s.records.deadlocks ∧
      (setEdge e b c (some d)).records.marks = s.records.marks ∧
      (setEdge e b c (some d)).records.alerts = u.records.alerts := by
    rw [put]
    exact ⟨deadlocks, marks, rfl⟩
  obtain ⟨deadlocks, marks, alerts⟩ := kept
  exact monitorKept_of_leads leads deadlocks marks alerts ht

end

end Sys2Proof.Proofs
end

section
/-! The failure of a run for a carrier that waited for nothing (R29, R32, R33): where it stands in the queue, its wait
record and edge, its pass-over count and what is reserved for it. -/

namespace Sys2Proof.Proofs

open Sys2Proof.Machine Sys2Proof.Laws

/-! ## The place in the queue (R23, R29) -/

theorem Table.mem_of_find {α : Type} {t : Table α} {n : Nat} {a : α} (h : Table.find t n = some a) : (n, a) ∈ t := by
  induction t with
  | nil => cases h
  | cons p rest ih =>
    obtain ⟨k, b⟩ := p
    simp only [Table.find] at h
    split at h
    next same =>
      obtain rfl := same
      cases h
      exact List.mem_cons_self ..
    next => exact List.mem_cons_of_mem _ (ih h)

/-- A queue with a waiter behind every entry of its own or a more urgent priority. -/
def behind (q : List Waiter) (o : Waiter) : List Waiter :=
  q.takeWhile (fun p => decide (p.priority ≤ o.priority)) ++ o :: q.dropWhile (fun p => decide (p.priority ≤ o.priority))

/-- A waiter junior to every entry stands behind those of its own priority. -/
theorem insertWaiter_junior (l : List Nat) (o : Waiter) (q : List Waiter)
    (senior : ∀ p ∈ q, p.carrier ∈ l ∧ p.carrier ≠ o.carrier) :
    insertWaiter (l.filter (· != o.carrier) ++ [o.carrier]) o q = behind q o := by
  induction q with
  | nil => rfl
  | cons p rest ih =>
    obtain ⟨listed, other⟩ := senior p (List.mem_cons_self ..)
    have before : p.carrier ∈ l.filter (· != o.carrier) := by simp [listed, other]
    have last : o.carrier ∉ l.filter (· != o.carrier) := by simp
    have junior : ¬ (l.filter (· != o.carrier) ++ [o.carrier]).idxOf o.carrier <
        (l.filter (· != o.carrier) ++ [o.carrier]).idxOf p.carrier := by
      rw [List.idxOf_append_of_notMem last, List.idxOf_append_of_mem before]
      have := List.idxOf_lt_length_of_mem before
      omega
    by_cases urgent : o.priority < p.priority
    · have ahead : aheadOf (l.filter (· != o.carrier) ++ [o.carrier]) o p = true := by simp [aheadOf, urgent]
      have later : ¬p.priority ≤ o.priority := by omega
      simp [insertWaiter, ahead, behind, later]
    · have after : aheadOf (l.filter (· != o.carrier) ++ [o.carrier]) o p = false := by simp [aheadOf, urgent, junior]
      have sooner : p.priority ≤ o.priority := by omega
      have rest := ih (fun r hr => senior r (List.mem_cons_of_mem _ hr))
      simp [insertWaiter, after, rest, behind, sooner]

section
variable {e : Setting} {v w p q : Run} {c y j : Nat} {cause : BlockCause} {target : Option Nat}

/-- A waiter of an unlisted cell is none. -/
theorem carrier_ne_of_queueOf (h : v.queueOf c = none) {o : Waiter} (ho : o ∈ (v.cell y).queue) : o.carrier ≠ c := by
  rw [Run.cell, Table.at] at ho
  cases listed : Table.find v.records.cells y with
  | none =>
    rw [listed] at ho
    cases ho
  | some r =>
    rw [listed] at ho
    exact (queueOf_eq_none_iff v c).mp h _ (Table.mem_of_find listed) o ho

/-- The entry of a carrier whose run fails at a step. -/
def entryFor (e : Setting) (k : Context) (c j : Nat) (cause : BlockCause) : Waiter :=
  { carrier := c, priority := (e.map.classOf k).priority, step := j, cause := cause }

/-- A carrier stands in a queue, junior to all (R23, R29). -/
def queuedRun (e : Setting) (v : Run) (c y j : Nat) (cause : BlockCause) : Run :=
  (v.joinSeniority c).setCell y { v.cell y with queue := behind (v.cell y).queue (entryFor e (v.ctx c) c j cause) }

/-- A carrier in no queue takes its place in one; the gate of a PORTAL is told where it is the first (R24, R29). -/
theorem placeWaiter_fresh (queue : v.queueOf c = none) (senior : ∀ o ∈ (v.cell y).queue, o.carrier ∈ v.records.seniority) :
    placeWaiter e v c y j cause none = if (v.cell y).queue.isEmpty then queueFilled e (queuedRun e v c y j cause) y
      else queuedRun e v c y j cause := by
  have placed : insertWaiter (v.joinSeniority c).records.seniority (entryFor e (v.ctx c) c j cause) (v.cell y).queue =
      behind (v.cell y).queue (entryFor e (v.ctx c) c j cause) :=
    insertWaiter_junior v.records.seniority (entryFor e (v.ctx c) c j cause) (v.cell y).queue
      (fun o ho => ⟨senior o ho, carrier_ne_of_queueOf queue ho⟩)
  rw [queuedRun, ← placed]
  simp [placeWaiter, queue]
  rfl

/-- The wait record of a carrier that had none (R29). -/
theorem recordWait_fresh (wait : (p.ctx c).wait = none) (kept : Bool) :
    recordWait e p c y kept = p.modCtx c (waits .cell y e.tick none) := by
  refine modCtx_congr p c ?_
  simp only [wait]
  rfl

/-! ## Reservations (R33) -/

/-- A cell that a free run cell's failed run reserves: of capacity 1, no LANE, not reserved. -/
def reservable (e : Setting) (v : Run) (p : Nat × Nat) : Bool :=
  e.map.capacity p.1 == 1 && !e.map.isLane p.1 && (v.cell p.1).reservedFor == none

/-- A cell's record reserved for a carrier. -/
def markReserved (c : Nat) (v : Run) (p : Nat × Nat) : Run := v.setCell p.1 { v.cell p.1 with reservedFor := some c }

/-- `q` is `v` with the cells `kept` reserved for a carrier, at the tail of its reservation list. -/
structure Reserved (v q : Run) (c : Nat) (kept : List (Nat × Nat)) : Prop where
  records : q.records = { v.records with cells := q.records.cells, reservations := q.records.reservations }
  work : q.work = v.work
  deferring : q.deferring = v.deferring
  deferred : q.deferred = v.deferred
  cell : ∀ x, q.cell x = if x ∈ kept.map Prod.fst then { v.cell x with reservedFor := some c } else v.cell x
  reservations : ∀ d, q.reservations d = if d = c then v.reservations c ++ kept else v.reservations d

theorem Reserved.refl (v : Run) (c : Nat) : Reserved v v c [] :=
  ⟨rfl, rfl, rfl, rfl, fun x => by simp, fun d => by
    by_cases same : d = c
    · simp [same]
    · simp [same]⟩

theorem reserve_reservable {x : Nat × Nat} (h : reservable e v x = true) (alone : (v.cell x.1).queue = []) :
    reserve e c v x = (markReserved c v x).setReservations c (v.reservations c ++ [x]) := by
  have may : e.map.capacity x.1 = 1 ∧ ¬e.map.isLane x.1 ∧ (v.cell x.1).reservedFor = none := by
    simpa [reservable, and_assoc] using h
  rw [reserve, if_pos may]
  refine recompute_of_no_waiter e _ x.1 ?_
  rw [Run.cell_setReservations, Run.cell_setCell_self]
  exact alone

theorem reserve_not_reservable {x : Nat × Nat} (h : reservable e v x = false) : reserve e c v x = v := by
  refine if_neg (fun may => ?_)
  obtain ⟨single, track, free⟩ := may
  simp [reservable, single, track, free] at h

/-- What a failed run reserves, in route order (R33). -/
theorem foldl_reserve (free : List (Nat × Nat)) (v : Run) (nodup : (free.map Prod.fst).Nodup)
    (alone : ∀ p ∈ free.filter (reservable e v), (v.cell p.1).queue = []) :
    Reserved v (free.foldl (reserve e c) v) c (free.filter (reservable e v)) := by
  induction free generalizing v with
  | nil => exact .refl v c
  | cons p rest ih =>
    obtain ⟨fresh, nodup⟩ := List.nodup_cons.mp nodup
    cases may : reservable e v p with
    | false =>
      have same : (p :: rest).filter (reservable e v) = rest.filter (reservable e v) := by simp [may]
      rw [same] at alone ⊢
      rw [List.foldl_cons, reserve_not_reservable may]
      exact ih v nodup alone
    | true =>
      have first : (p :: rest).filter (reservable e v) = p :: rest.filter (reservable e v) := by simp [may]
      rw [first] at alone ⊢
      rw [List.foldl_cons, reserve_reservable may (alone p (List.mem_cons_self ..))]
      have cell {x : Nat} (hx : x ≠ p.1) :
          ((markReserved c v p).setReservations c (v.reservations c ++ [p])).cell x = v.cell x := by
        rw [Run.cell_setReservations, markReserved, Run.cell_setCell_other _ _ hx]
      have apart {r : Nat × Nat} (hr : r ∈ rest) : r.1 ≠ p.1 := fun same => fresh (List.mem_map.mpr ⟨r, hr, same⟩)
      have others : rest.filter (reservable e ((markReserved c v p).setReservations c (v.reservations c ++ [p]))) =
          rest.filter (reservable e v) :=
        List.filter_congr (fun r hr => by simp only [reservable, cell (apart hr)])
      obtain ⟨records, work, deferring, deferred, cells, reservations⟩ := ih
        ((markReserved c v p).setReservations c (v.reservations c ++ [p])) nodup (by
          rw [others]
          intro r hr
          rw [cell (apart (List.mem_of_mem_filter hr))]
          exact alone r (List.mem_cons_of_mem _ hr))
      rw [others] at cells reservations
      refine ⟨by rw [records]; rfl, work, deferring, deferred, fun x => ?_, fun d => ?_⟩
      · rw [cells]
        by_cases same : x = p.1
        · subst same
          have once : p.1 ∉ (rest.filter (reservable e v)).map Prod.fst := fun listed => by
            obtain ⟨r, hr, eq⟩ := List.mem_map.mp listed
            exact apart (List.mem_of_mem_filter hr) eq
          rw [if_neg once, if_pos (by simp), Run.cell_setReservations, markReserved, Run.cell_setCell_self]
        · have listed : x ∈ (p :: rest.filter (reservable e v)).map Prod.fst ↔
              x ∈ (rest.filter (reservable e v)).map Prod.fst := by simp [same]
          simp only [listed, cell same]
      · rw [reservations]
        by_cases same : d = c
        · subst same
          simp
        · rw [if_neg same, if_neg same]
          exact Run.reservations_setReservations_other _ _ same

/-- The records reserved one after the other. -/
theorem foldl_markReserved (kept : List (Nat × Nat)) (v : Run) :
    (∃ cells, kept.foldl (markReserved c) v = { v with records := { v.records with cells := cells } }) ∧
      ∀ x, (kept.foldl (markReserved c) v).cell x =
        if x ∈ kept.map Prod.fst then { v.cell x with reservedFor := some c } else v.cell x := by
  induction kept generalizing v with
  | nil => exact ⟨⟨_, rfl⟩, fun x => by simp⟩
  | cons p rest ih =>
    obtain ⟨⟨cells, marked⟩, cell⟩ := ih (markReserved c v p)
    refine ⟨⟨cells, marked⟩, fun x => ?_⟩
    rw [List.foldl_cons, cell]
    by_cases same : x = p.1
    · subst same
      simp [markReserved]
    · have kept : (markReserved c v p).cell x = v.cell x := Run.cell_setCell_other _ _ same
      have listed : x ∈ (p :: rest).map Prod.fst ↔ x ∈ rest.map Prod.fst := by simp [same]
      simp only [listed, kept]

/-! ## The pass-over count (R32) -/

/-- A context with its pass-over count. -/
def counted (count : Nat) (k : Context) : Context := { k with passOver := count }

/-- The pass-over count of a context after a failed run with the free run cells `free` (R32). -/
def countAfter (k : Context) (free : List (Nat × Nat)) : Nat := if free = [] then k.passOver else min 3 (k.passOver + 1)

/-- The cells reserved after a failed run with the free run cells `free` (R33). -/
def keptCells (e : Setting) (v : Run) (c : Nat) (free : List (Nat × Nat)) : List (Nat × Nat) :=
  if free ≠ [] ∧ countAfter (v.ctx c) free = 3 then free.filter (reservable e v) else []

/-- `q` is `v` with the pass-over count of a carrier at `count` and the cells `kept` reserved for it. -/
structure PassedOver (v q : Run) (c count : Nat) (kept : List (Nat × Nat)) : Prop where
  records : q.records = { v.records with
    cells := q.records.cells, carriers := q.records.carriers, reservations := q.records.reservations }
  work : q.work = v.work
  deferring : q.deferring = v.deferring
  deferred : q.deferred = v.deferred
  ctx : ∀ d, q.ctx d = if d = c then counted count (v.ctx c) else v.ctx d
  cell : ∀ x, q.cell x = if x ∈ kept.map Prod.fst then { v.cell x with reservedFor := some c } else v.cell x
  reservations : ∀ d, q.reservations d = if d = c then v.reservations c ++ kept else v.reservations d

theorem passedOver_of_reserved {count : Nat} {kept : List (Nat × Nat)}
    (h : Reserved (v.modCtx c (counted count)) q c kept) : PassedOver v q c count kept := by
  obtain ⟨records, work, deferring, deferred, cell, reservations⟩ := h
  refine ⟨by rw [records]; rfl, work, deferring, deferred, fun d => ?_, cell, reservations⟩
  have same : q.ctx d = (v.modCtx c (counted count)).ctx d := by
    rw [Run.ctx, records]
    rfl
  rw [same]
  split
  next own =>
    subst own
    exact Run.ctx_modCtx_self ..
  next other => exact Run.ctx_modCtx_other _ _ other

/-- A failed run passes its free run cells over, and reserves them at the third time (R32, R33). -/
theorem passOver_passedOver {free run : List (Nat × Nat)} (nodup : (run.map Prod.fst).Nodup)
    (hfree : freeRunCells e v c y run = free) (alone : ∀ p ∈ keptCells e v c free, (v.cell p.1).queue = []) :
    PassedOver v (passOver e v c y run) c (countAfter (v.ctx c) free) (keptCells e v c free) := by
  have once : (free.map Prod.fst).Nodup := by
    rw [← hfree]
    exact nodup.sublist ((List.filter_sublist (l := run)).map _)
  by_cases none : free = []
  · have same : passOver e v c y run = v := by simp [passOver, hfree, none]
    have count : countAfter (v.ctx c) free = (v.ctx c).passOver := if_pos none
    have kept : keptCells e v c free = [] := if_neg (fun some => some.1 none)
    rw [same, count, kept]
    refine ⟨rfl, rfl, rfl, rfl, fun d => ?_, fun x => by simp, fun d => by
      by_cases same : d = c
      · simp [same]
      · simp [same]⟩
    split
    next same =>
      rw [same]
      rfl
    next => rfl
  · have count : countAfter (v.ctx c) free = min 3 ((v.ctx c).passOver + 1) := if_neg none
    have passes : passOver e v c y run = if countAfter (v.ctx c) free = 3 then
        free.foldl (reserve e c) (v.modCtx c (counted (countAfter (v.ctx c) free)))
        else v.modCtx c (counted (countAfter (v.ctx c) free)) := by
      rw [count]
      have some : ¬free.isEmpty = true := by simp [none]
      simp only [passOver, hfree, if_neg some]
      rfl
    rw [passes]
    refine passedOver_of_reserved ?_
    by_cases third : countAfter (v.ctx c) free = 3
    · have kept : keptCells e v c free = free.filter (reservable e v) := if_pos ⟨none, third⟩
      rw [kept] at alone ⊢
      rw [if_pos third]
      exact foldl_reserve free _ once alone
    · have kept : keptCells e v c free = [] := if_neg (fun some => third some.2)
      rw [kept, if_neg third]
      exact .refl _ c

/-! ## The carrier that waits (R29) -/

/-- A gate table in place of another. -/
def withGates (v : Run) (t : Table GateRun) : Run := { v with records := { v.records with gates := t } }

/-- The run `q` is `w` with carrier `c` waiting at cell `y` with an edge, the queue there, the pass-over count and the cells
reserved for it given, and the gates `gates` (R29, R32, R33). -/
structure Stands (e : Setting) (w q : Run) (c y : Nat) (queue : List Waiter) (count : Nat) (kept : List (Nat × Nat))
    (edge : Option Nat) (gates : Table GateRun) : Prop where
  ctx : ∀ d, q.ctx d = if d = c then waits .cell y e.tick edge (counted count (w.ctx c)) else w.ctx d
  cell : ∀ x, q.cell x = if x = y then { w.cell y with queue := queue }
    else if x ∈ kept.map Prod.fst then { w.cell x with reservedFor := some c } else w.cell x
  reservations : ∀ d, q.reservations d = if d = c then w.reservations c ++ kept else w.reservations d
  records : q.records = { w.records with
    cells := q.records.cells, carriers := q.records.carriers, reservations := q.records.reservations
    seniority := w.records.seniority.filter (· != c) ++ [c], gates := gates
    deadlocks := q.records.deadlocks, marks := q.records.marks, alerts := q.records.alerts }
  monitor : edge = none → q.records.deadlocks = w.records.deadlocks ∧ q.records.marks = w.records.marks ∧
    q.records.alerts = w.records.alerts
  work : q.work = w.work
  deferring : q.deferring = w.deferring
  deferred : q.deferred = w.deferred

/-- A carrier that stands in a queue, with its wait record and its edge. -/
def waitingRun (e : Setting) (p : Run) (c y : Nat) (target : Option Nat) : Run :=
  setEdge e (p.modCtx c (waits .cell y e.tick none)) c target

theorem sameRights_queuedRun (e : Setting) (w : Run) (c y j : Nat) (cause : BlockCause) :
    SameRights w (queuedRun e w c y j cause) := by
  refine ⟨fun d => ⟨_, rfl⟩, fun x => ?_, fun _ => rfl, fun _ => rfl, fun _ => rfl⟩
  by_cases same : x = y
  · subst same
    exact ⟨_, by rw [queuedRun, Run.cell_setCell_self]⟩
  · exact ⟨(w.cell x).queue, by rw [queuedRun, Run.cell_setCell_other _ _ same]; rfl⟩

section
variable {gates : Table GateRun}

theorem waitingRun_ctx (w : Run) (j : Nat) (cause : BlockCause) (d : Nat) :
    (waitingRun e (withGates (queuedRun e w c y j cause) gates) c y target).ctx d =
      if d = c then waits .cell y e.tick (targetFor c target) (w.ctx c) else w.ctx d := by
  have own : ((withGates (queuedRun e w c y j cause) gates).modCtx c (waits .cell y e.tick none)).ctx c =
      waits .cell y e.tick none (w.ctx c) := Run.ctx_modCtx_self ..
  rw [waitingRun, ctx_setEdge_waiting own]
  split
  next => rfl
  next other => exact Run.ctx_modCtx_other _ _ other

theorem waitingRun_cell (w : Run) (j : Nat) (cause : BlockCause) (x : Nat) :
    (waitingRun e (withGates (queuedRun e w c y j cause) gates) c y target).cell x = if x = y then
      { w.cell y with queue := behind (w.cell y).queue (entryFor e (w.ctx c) c j cause) } else w.cell x := by
  have same : (waitingRun e (withGates (queuedRun e w c y j cause) gates) c y target).cell x =
      (queuedRun e w c y j cause).cell x := by
    rw [Run.cell, waitingRun, (setEdge_edgesOnly ..).records]
    rfl
  rw [same, queuedRun]
  split
  next own => rw [own, Run.cell_setCell_self]
  next other => rw [Run.cell_setCell_other _ _ other]; rfl

/-- The carrier of a failed run waits, with its pass-over count and its reservations (R29, R32, R33). -/
theorem stands_of_failed {free run : List (Nat × Nat)} (nodup : (run.map Prod.fst).Nodup)
    (hfree : freeRunCells e w c y run = free)
    (same : ∀ x i, grantTest e (waitingRun e (withGates (queuedRun e w c y j cause) gates) c y target) c x i =
      grantTest e w c x i)
    (alone : ∀ p ∈ keptCells e w c free, (w.cell p.1).queue = []) :
    Stands e w (passOver e (waitingRun e (withGates (queuedRun e w c y j cause) gates) c y target) c y run) c y
      (behind (w.cell y).queue (entryFor e (w.ctx c) c j cause)) (countAfter (w.ctx c) free) (keptCells e w c free)
      (targetFor c target) gates := by
  have only : EdgesOnly ((withGates (queuedRun e w c y j cause) gates).modCtx c (waits .cell y e.tick none))
      (waitingRun e (withGates (queuedRun e w c y j cause) gates) c y target) := setEdge_edgesOnly ..
  have contexts := waitingRun_ctx (e := e) (y := y) (target := target) (gates := gates) (c := c) w j cause
  have cells := waitingRun_cell (e := e) (y := y) (target := target) (gates := gates) (c := c) w j cause
  have own := contexts c
  have still : targetFor c target = none →
      waitingRun e (withGates (queuedRun e w c y j cause) gates) c y target =
        ((withGates (queuedRun e w c y j cause) gates).modCtx c (waits .cell y e.tick none)).putEdge c none := fun absent => by
    refine setEdge_absent ?_ absent
    rw [Run.edge, Run.ctx_modCtx_self]
    rfl
  rw [if_pos rfl] at own
  generalize waitingRun e (withGates (queuedRun e w c y j cause) gates) c y target = a at *
  have reservations (d : Nat) : a.reservations d = w.reservations d := by
    rw [Run.reservations, only.records]
    rfl
  have passed : freeRunCells e a c y run = free := by
    rw [← hfree]
    simp only [freeRunCells, same]
  have apart {p : Nat × Nat} (hp : p ∈ free) : p.1 ≠ y := by
    rw [← hfree] at hp
    have test := List.of_mem_filter hp
    simp only [Bool.and_eq_true, bne_iff_ne, ne_eq] at test
    exact test.1
  have count : countAfter (a.ctx c) free = countAfter (w.ctx c) free := by
    rw [own]
    rfl
  have kept : keptCells e a c free = keptCells e w c free := by
    have reserves : free.filter (reservable e a) = free.filter (reservable e w) :=
      List.filter_congr (fun p hp => by simp only [reservable, cells, if_neg (apart hp)])
    rw [keptCells, count, reserves]
    rfl
  have inFree {p : Nat × Nat} (hp : p ∈ keptCells e w c free) : p ∈ free := by
    rw [keptCells] at hp
    split at hp
    · exact List.mem_of_mem_filter hp
    · cases hp
  have unqueued : ∀ p ∈ keptCells e a c free, (a.cell p.1).queue = [] := by
    rw [kept]
    intro p hp
    rw [cells, if_neg (apart (inFree hp))]
    exact alone p hp
  have passes := passOver_passedOver (v := a) nodup passed unqueued
  rw [count, kept] at passes
  have elsewhere : y ∉ (keptCells e w c free).map Prod.fst := fun listed => by
    obtain ⟨p, hp, eq⟩ := List.mem_map.mp listed
    exact apart (inFree hp) eq
  refine ⟨fun d => ?_, fun x => ?_, fun d => ?_, ?_, fun absent => ?_, passes.work.trans only.work,
    passes.deferring.trans only.deferring, passes.deferred.trans only.deferred⟩
  · rw [passes.ctx, own, contexts]
    split <;> rfl
  · rw [passes.cell, cells]
    by_cases here : x = y
    · subst here
      rw [if_neg elsewhere, if_pos rfl, if_pos rfl]
    · rw [if_neg here, if_neg here]
  · rw [passes.reservations, reservations, reservations]
  · rw [passes.records, only.records]
    rfl
  · rw [passes.records, still absent]
    exact ⟨rfl, rfl, rfl⟩

end

end

end Sys2Proof.Proofs
end

section
/-! An attempt whose run fails (R29 to R33, R53, R69): the round, what the carrier gives up and the reply as it waits. -/

namespace Sys2Proof.Proofs

open Sys2Proof.Machine Sys2Proof.Laws

section
variable {i : Instr} {s : State} {e : Setting} {v w u q : Run} {c y j : Nat} {cause : BlockCause} {target : Option Nat}

/-! ## The round that fails -/

theorem firstFailing_of_split {before rest : List (Nat × Nat)} (h : ∀ p ∈ before, grantTest e v c p.1 p.2 = none)
    (fails : grantTest e v c y j = some (cause, target)) :
    firstFailing e v c (before ++ (y, j) :: rest) = some ((y, j), cause, target) := by
  induction before with
  | nil => simp only [List.nil_append, firstFailing, fails]
  | cons p before ih =>
    rw [List.cons_append, firstFailing, h p (List.mem_cons_self ..)]
    exact ih (fun q hq => h q (List.mem_cons_of_mem _ hq))

/-- A round whose run fails at a cell ends the attempt with reason CELL (R26, R29, R53). -/
theorem attemptRound_fails {before rest : List (Nat × Nat)} (allowed : attemptAllowed e v c = true)
    (goes : stopTest e v c = none) (next : nextRun e v c = some (before ++ (y, j) :: rest))
    (nodup : ((before ++ (y, j) :: rest).map Prod.fst).Nodup) (h : ∀ p ∈ before, grantTest e v c p.1 p.2 = none)
    (fails : grantTest e v c y j = some (cause, target)) :
    attemptRound e v c false .reply =
      (runFails e v c (before ++ (y, j) :: rest) y j (recordedFailure e v y cause target).1
        (recordedFailure e v y cause target).2 none).later [.attemptEnd c .cell false .reply] := by
  have once := repeatedCell_of_nodup _ [] nodup (fun _ _ => List.not_mem_nil)
  have first := firstFailing_of_split (rest := rest) h fails
  simp only [attemptRound, allowed, not_true_eq_false, if_false, goes, next, Option.getD_some, once, first]
  rfl

/-- The run of a carrier that has failed: it waits, with its pass-over count and its reservations (R29, R32, R33). -/
def heldUpRun (e : Setting) (v : Run) (c : Nat) (run : List (Nat × Nat)) (y j : Nat) (cause : BlockCause)
    (target : Option Nat) (gates : Table GateRun) : Run :=
  passOver e (waitingRun e (withGates (queuedRun e v c y j cause) gates) c y target) c y run

/-- A failed run of a carrier that waited for nothing, at a cell that is no PORTAL (R29). -/
theorem runFails_inside {run : List (Nat × Nat)} (queue : v.queueOf c = none) (wait : (v.ctx c).wait = none)
    (senior : ∀ o ∈ (v.cell y).queue, o.carrier ∈ v.records.seniority) (inside : e.map.gateOf y = none) :
    runFails e v c run y j cause target none =
      if cause = .corridor then
        match e.map.corridorOf y with
        | some (k, _) => corridorFailed e (heldUpRun e v c run y j cause target v.records.gates) k c
        | none => heldUpRun e v c run y j cause target v.records.gates
      else heldUpRun e v c run y j cause target v.records.gates := by
  have placed : placeWaiter e v c y j cause none = withGates (queuedRun e v c y j cause) v.records.gates := by
    rw [placeWaiter_fresh queue senior, queueFilled, inside]
    exact ite_self _
  have waiting : ((withGates (queuedRun e v c y j cause) v.records.gates).ctx c).wait = none := wait
  simp only [runFails, placed, recordWait_fresh waiting, inside]
  rfl

/-! ## What the failure leaves -/

/-- The records of a carrier that stands that only its place in the order of seniority and its gate can change. -/
theorem Stands.kept {queue : List Waiter} {count : Nat} {kept : List (Nat × Nat)} {edge : Option Nat}
    {gates : Table GateRun} (h : Stands e w q c y queue count kept edge gates) :
    q.records.seniority = w.records.seniority.filter (· != c) ++ [c] ∧ q.records.corridors = w.records.corridors ∧
      q.records.gates = gates ∧ q.records.slots = w.records.slots ∧ q.records.links = w.records.links ∧
      q.records.engine = w.records.engine := by
  rw [h.records]
  exact ⟨rfl, rfl, rfl, rfl, rfl, rfl⟩

/-- A carrier that stands and has its reason noted leads to a run with the same contexts, cells and reservations. -/
theorem leads_of_stands {queue : List Waiter} {count : Nat} {kept : List (Nat × Nat)} {edge : Option Nat}
    {gates : Table GateRun} (h : Stands e w q c y queue count kept edge gates)
    (ctx : ∀ d, u.ctx d = if d = c then noted .cell (waits .cell y e.tick edge (counted count (w.ctx c))) else w.ctx d)
    (cell : ∀ x, u.cell x = if x = y then { w.cell y with queue := queue }
      else if x ∈ kept.map Prod.fst then { w.cell x with reservedFor := some c } else w.cell x)
    (reservations : ∀ d, u.reservations d = if d = c then w.reservations c ++ kept else w.reservations d)
    (corridors : w.records.corridors = s.records.corridors) (door : gates = s.records.gates)
    (slots : w.records.slots = s.records.slots) (same : u.records.slots = w.records.slots)
    (links : u.records.links = w.records.links) (engine : u.records.engine = w.records.engine) :
    Leads s (q.modCtx c (noted .cell)) u := by
  obtain ⟨-, corridors', gates', slots', links', engine'⟩ := h.kept
  refine ⟨fun d => ?_, fun x => ?_, fun d => ?_, corridors'.trans corridors, gates'.trans door, slots'.trans slots,
    same.trans slots, links'.trans links.symm, engine'.trans engine.symm⟩
  · rw [ctx]
    by_cases own : d = c
    · rw [if_pos own, own, Run.ctx_modCtx_self, h.ctx, if_pos rfl]
    · rw [if_neg own, Run.ctx_modCtx_other _ _ own, h.ctx, if_neg own]
  · rw [Run.cell_modCtx, h.cell, cell]
  · rw [Run.reservations_modCtx, h.reservations, reservations]

/-- The order of seniority once the reply is sent. -/
theorem seniority_repliedRun {t : State} (ht : t.records = (repliedRun e q c).records) :
    t.records.seniority = q.records.seniority := by
  obtain ⟨g, fetched⟩ := fetchTrigger_eq (send q c (currentReply e q c)) c
  rw [ht, repliedRun, fetched, Run.setEngine, (send_linksOnly q c (currentReply e q c)).records]

theorem grantTest_withGates {gates : Table GateRun} (h : ∀ g, (withGates v gates).gateState g = v.gateState g) (x : Nat) :
    grantTest e (withGates v gates) c x j = grantTest e v c x j := by
  simp only [grantTest, gateTest, h]
  rfl

theorem sameRights_waitingRun (e : Setting) (w : Run) (c y j : Nat) (cause : BlockCause) (target : Option Nat)
    (gates : Table GateRun) :
    SameRights w (withGates (waitingRun e (withGates (queuedRun e w c y j cause) gates) c y target) w.records.gates) := by
  have only : EdgesOnly ((withGates (queuedRun e w c y j cause) gates).modCtx c (waits .cell y e.tick none))
      (waitingRun e (withGates (queuedRun e w c y j cause) gates) c y target) := setEdge_edgesOnly ..
  refine ⟨fun d => ?_, fun x => ?_, fun k => ?_, fun g => rfl, fun n => ?_⟩
  · change ∃ r, (waitingRun e (withGates (queuedRun e w c y j cause) gates) c y target).ctx d = _
    rw [waitingRun_ctx]
    split
    next same =>
      rw [same]
      exact ⟨_, rfl⟩
    next => exact ⟨(w.ctx d).wait, rfl⟩
  · change ∃ r, (waitingRun e (withGates (queuedRun e w c y j cause) gates) c y target).cell x = _
    rw [waitingRun_cell]
    split
    next same =>
      rw [same]
      exact ⟨_, rfl⟩
    next => exact ⟨(w.cell x).queue, rfl⟩
  · rw [Run.corridor, withGates, only.records]
    rfl
  · rw [Run.slot, withGates, only.records]
    rfl

/-- The failure of its run changes no grantability, where the gates are in the states they were in. -/
theorem grantTest_waitingRun {gates : Table GateRun} (h : ∀ g, (withGates w gates).gateState g = w.gateState g)
    (x i : Nat) :
    grantTest e (waitingRun e (withGates (queuedRun e w c y j cause) gates) c y target) c x i = grantTest e w c x i := by
  have only : EdgesOnly ((withGates (queuedRun e w c y j cause) gates).modCtx c (waits .cell y e.tick none))
      (waitingRun e (withGates (queuedRun e w c y j cause) gates) c y target) := setEdge_edgesOnly ..
  rw [← (sameRights_waitingRun e w c y j cause target gates).grantTest e c x i, grantTest_withGates]
  intro g
  rw [Run.gateState, Run.gateState, Run.gate, Run.gate, only.records]
  exact (h g).symm

/-- The carrier of a failed run, at a cell that is no PORTAL, stands (R29, R32, R33). -/
theorem stands_heldUpRun {run : List (Nat × Nat)} (nodup : (run.map Prod.fst).Nodup)
    (alone : ∀ p ∈ keptCells e w c (freeRunCells e w c y run), (w.cell p.1).queue = []) :
    Stands e w (heldUpRun e w c run y j cause target w.records.gates) c y
      (behind (w.cell y).queue (entryFor e (w.ctx c) c j cause)) (countAfter (w.ctx c) (freeRunCells e w c y run))
      (keptCells e w c (freeRunCells e w c y run)) (targetFor c target) w.records.gates :=
  stands_of_failed nodup rfl (grantTest_waitingRun (fun _ => rfl)) alone

/-- A run with cells reserved for a carrier that has no other reservation, and one cell's record written. -/
def reservedRun (w : Run) (c y : Nat) (r : CellRun) (kept : List (Nat × Nat)) : Run :=
  (kept.foldl (markReserved c) (w.setReservations c kept)).setCell y r

theorem reservedRun_eq (w : Run) (c y : Nat) (r : CellRun) (kept : List (Nat × Nat)) :
    ∃ cells, reservedRun w c y r kept =
      { w.setReservations c kept with records := { (w.setReservations c kept).records with cells := cells } } := by
  obtain ⟨⟨cells, marked⟩, -⟩ := foldl_markReserved (c := c) kept (w.setReservations c kept)
  exact ⟨_, by rw [reservedRun, marked]; rfl⟩

theorem reservedRun_ctx (w : Run) (c y : Nat) (r : CellRun) (kept : List (Nat × Nat)) (d : Nat) :
    (reservedRun w c y r kept).ctx d = w.ctx d := by
  obtain ⟨cells, reserved⟩ := reservedRun_eq w c y r kept
  rw [reserved]
  rfl

theorem reservedRun_cell (w : Run) (c y : Nat) (r : CellRun) (kept : List (Nat × Nat)) (x : Nat) :
    (reservedRun w c y r kept).cell x = if x = y then r
      else if x ∈ kept.map Prod.fst then { w.cell x with reservedFor := some c } else w.cell x := by
  rw [reservedRun]
  split
  next same => rw [same, Run.cell_setCell_self]
  next other =>
    rw [Run.cell_setCell_other _ _ other]
    exact (foldl_markReserved (c := c) kept (w.setReservations c kept)).2 x

theorem reservedRun_reservations (w : Run) (c y : Nat) (r : CellRun) (kept : List (Nat × Nat)) (d : Nat) :
    (reservedRun w c y r kept).reservations d = if d = c then kept else w.reservations d := by
  obtain ⟨cells, reserved⟩ := reservedRun_eq w c y r kept
  rw [reserved]
  split
  next same =>
    rw [same]
    exact Run.reservations_setReservations_self (v := w) c kept
  next other => exact Run.reservations_setReservations_other (v := w) kept other

/-- An asked attempt whose run fails at a cell that is no PORTAL, without a turn (R29, R32, R33). -/
theorem Asks.fails (h : Asks i s w c) : AttemptFails i s w c := by
  intro before rest y j cause target e k run free count kept priority edge reserved queued u goes next nodup granted fails
    turnless inside senior alone
  let w' : Run := { w with deferring := true }
  have allowed : attemptAllowed e w' c = true := attemptAllowed_of_runsLive h.active h.runs
  obtain ⟨-, -, corridors, gates, slots, deadlocks, marks⟩ := h.track
  have stands : Stands e w' (heldUpRun e w' c run y j cause target w'.records.gates) c y _ count kept (targetFor c target)
      w'.records.gates := stands_heldUpRun nodup alone
  have senior' : ∀ o ∈ (w'.cell y).queue, o.carrier ∈ w'.records.seniority := fun o ho => by
    have listed := senior o ho
    rw [← h.seniority] at listed
    exact listed
  have failed : runFails e w' c run y j cause target none = heldUpRun e w' c run y j cause target w'.records.gates := by
    rw [runFails_inside (v := w') h.free.queue h.free.wait senior' inside]
    split
    next corridor =>
      split
      next k position at' =>
        refine if_neg ?_
        rw [Run.corridor, stands.records]
        change ((w.records.corridors).at CorridorRun.idle k).condition ≠ .flowing
        rw [corridors]
        exact turnless k position corridor at'
      next => rfl
    next => rfl
  generalize heldUpRun e w' c run y j cause target w'.records.gates = q at stands failed
  have round : runTask e (.round c false .reply) w' = q.later [.attemptEnd c .cell false .reply] := by
    have plain : recordedFailure e w' y cause target = (cause, target) := by simp only [recordedFailure, inside]
    refine (attemptRound_fails allowed goes next nodup granted fails).trans ?_
    rw [plain]
    exact congrArg (fun z : Run => z.later _) failed
  obtain ⟨t, exec, ht, setting⟩ := h.exec_of_rounds (z := q) (y := q.modCtx c (noted .cell)) (by decide)
    (fun rest => Reaches.first round h.calm.work) (stands.work.trans h.calm.work) rfl (stands.work.trans h.calm.work) (stands.deferred.trans h.calm.deferred)
  have same : u = (reservedRun w c y { w.cell y with queue := behind (w.cell y).queue (entryFor e k c j cause) } kept).modCtx c
      (fun k => noted .cell (waits .cell y e.tick edge (counted count k))) := rfl
  have u_records : ∃ cells carriers reservations, u.records = { w.records with
      cells := cells, carriers := carriers, reservations := reservations } := by
    obtain ⟨cells, reserved⟩ := reservedRun_eq w c y
      { w.cell y with queue := behind (w.cell y).queue (entryFor e k c j cause) } kept
    rw [same, reserved]
    exact ⟨_, _, _, rfl⟩
  obtain ⟨cells, carriers, reservations, kept_records⟩ := u_records
  have leads : Leads s (q.modCtx c (noted .cell)) u := by
    refine leads_of_stands stands (fun d => ?_) (fun x => ?_) (fun d => ?_) corridors gates slots ?_ ?_ ?_
    · rw [same]
      split
      next own => rw [own, Run.ctx_modCtx_self, reservedRun_ctx]; rfl
      next other => rw [Run.ctx_modCtx_other _ _ other, reservedRun_ctx]; rfl
    · rw [same, Run.cell_modCtx, reservedRun_cell]
      rfl
    · rw [same, Run.reservations_modCtx, reservedRun_reservations]
      have none : w'.reservations c = [] := h.free.reservations
      rw [none]
      rfl
    · rw [kept_records]
    · rw [kept_records]
    · rw [kept_records]
  refine ⟨t, exec, attemptLeaves_of_leads leads ht setting, ?_, fun edgeless => ?_⟩
  · rw [seniority_repliedRun ht, ← h.seniority]
    exact stands.kept.1
  · obtain ⟨deadlocks', marks', alerts'⟩ := stands.monitor edgeless
    refine monitorKept_of_leads leads (deadlocks'.trans deadlocks) (marks'.trans marks) (alerts'.trans ?_) ht
    rw [kept_records]

/-! ## A turn requested (R69) -/

/-- The turn of a FLOWING corridor is requested, and its ends are recomputed (R66, R69). -/
theorem corridorFailed_causesOnly {k : Nat} (h : (v.corridor k).condition = .flowing) :
    CausesOnly (v.setCorridor k (refusedRecord (v.corridor k) c)) (corridorFailed e v k c) := by
  rw [corridorFailed_flowing e v k c h]
  exact setAndRecompute_causesOnly ..

theorem keptCells_of_few {free : List (Nat × Nat)} (h : free = [] ∨ countAfter (w.ctx c) free < 3) :
    keptCells e w c free = [] := by
  refine if_neg (fun third => ?_)
  obtain none | few := h
  · exact third.1 none
  · omega

theorem eq_of_butEdge {k k' : Context} (h : k.butEdge = k'.butEdge) : k = { k' with wait := k.wait } :=
  calc k = { k.butEdge with wait := k.wait } := rfl
    _ = { k' with wait := k.wait } := by rw [h]; rfl

/-- A reason noted in a context that waits, but for the edge. -/
theorem butEdge_noted_waits {k k' : Context} {reason : WaitReason} {n : Tick} {edge : Option Nat} (r : Reason)
    (h : k.butEdge = (waits reason y n edge k').butEdge) : (noted r k).butEdge = (noted r (waits reason y n none k')).butEdge :=
  congrArg (noted r) h

/-- An asked attempt whose run fails for CORRIDOR at a FLOWING corridor (R69). -/
theorem Asks.turn (h : Asks i s w c) : AttemptAsksTurn i s w c := by
  intro before rest y j k position target e run free count priority queued u goes next nodup granted fails few inside at'
    flowing senior
  let w' : Run := { w with deferring := true }
  have allowed : attemptAllowed e w' c = true := attemptAllowed_of_runsLive h.active h.runs
  obtain ⟨-, reservations, corridors, gates, slots, -, -⟩ := h.track
  have nobody : keptCells e w c (freeRunCells e w c y run) = [] := keptCells_of_few few
  have stands : Stands e w' (heldUpRun e w' c run y j .corridor target w'.records.gates) c y
      (behind (w.cell y).queue (entryFor e (w.ctx c) c j .corridor)) count [] (targetFor c target) w'.records.gates := by
    have held := stands_heldUpRun (e := e) (w := w') (y := y) (j := j) (cause := .corridor) (target := target) nodup (by
      intro p hp
      rw [show keptCells e w' c (freeRunCells e w' c y run) = [] from nobody] at hp
      cases hp)
    rw [show keptCells e w' c (freeRunCells e w' c y run) = [] from nobody] at held
    exact held
  have senior' : ∀ o ∈ (w'.cell y).queue, o.carrier ∈ w'.records.seniority := fun o ho => by
    have listed := senior o ho
    rw [← h.seniority] at listed
    exact listed
  have failed : runFails e w' c run y j .corridor target none =
      corridorFailed e (heldUpRun e w' c run y j .corridor target w'.records.gates) k c := by
    rw [runFails_inside (v := w') h.free.queue h.free.wait senior' inside]
    simp only [at', if_true]
  generalize heldUpRun e w' c run y j .corridor target w'.records.gates = q at stands failed
  have corridor (n : Nat) : q.corridor n = s.corridor n := by
    rw [Run.corridor, stands.records]
    change w.records.corridors.at CorridorRun.idle n = _
    rw [corridors]
    rfl
  have causes : CausesOnly (q.setCorridor k (refusedRecord (q.corridor k) c)) (corridorFailed e q k c) :=
    corridorFailed_causesOnly (by rw [corridor]; exact flowing)
  generalize corridorFailed e q k c = z at causes failed
  have round : runTask e (.round c false .reply) w' = z.later [.attemptEnd c .cell false .reply] := by
    have plain : recordedFailure e w' y .corridor target = (.corridor, target) := by simp only [recordedFailure, inside]
    refine (attemptRound_fails allowed goes next nodup granted fails).trans ?_
    rw [plain]
    exact congrArg (fun z : Run => z.later _) failed
  obtain ⟨t, exec, ht, setting⟩ := h.exec_of_rounds (z := z) (y := z.modCtx c (noted .cell)) (by decide)
    (fun rest => Reaches.first round h.calm.work) (causes.work.trans (stands.work.trans h.calm.work)) rfl (causes.work.trans (stands.work.trans h.calm.work))
    (causes.deferred.trans (stands.deferred.trans h.calm.deferred))
  obtain ⟨contexts, ⟨cells', reservations', corridors', doors, store, -, -⟩, -, -, -⟩ :=
    fetchTrigger_send_leaves (Quiet.refl (repliedRun e (z.modCtx c (noted .cell)) c))
  rw [← ht] at cells' reservations' corridors' doors store
  have same : u = queued.modCtx c (fun k => noted .cell (waits .cell y e.tick none (counted count k))) := rfl
  have ctx (d : Nat) : ((z.modCtx c (noted .cell)).ctx d).butEdge = (u.ctx d).butEdge := by
    rw [same]
    by_cases own : d = c
    · rw [own, Run.ctx_modCtx_self, Run.ctx_modCtx_self]
      refine butEdge_noted_waits (edge := targetFor c target) .cell ?_
      have placed := stands.ctx c
      rw [if_pos rfl] at placed
      exact (causes.ctx c).trans (congrArg Context.butEdge placed)
    · rw [Run.ctx_modCtx_other _ _ own, Run.ctx_modCtx_other _ _ own]
      have placed := stands.ctx d
      rw [if_neg own] at placed
      exact (causes.ctx d).trans (congrArg Context.butEdge placed)
  have still : z.records.seniority = q.records.seniority ∧ z.records.gates = q.records.gates ∧
      z.records.slots = q.records.slots ∧ z.records.links = q.records.links ∧ z.records.engine = q.records.engine := by
    rw [causes.records]
    exact ⟨rfl, rfl, rfl, rfl, rfl⟩
  obtain ⟨seniority', gates', slots', links', engine'⟩ := still
  obtain ⟨junior, -, doorless, stored, sent, served⟩ := stands.kept
  obtain ⟨links, engine⟩ := repliedRun_congr (y := z.modCtx c (noted .cell)) (u := u) e (eq_of_butEdge (ctx c)) (slots'.trans stored)
    (links'.trans sent) (engine'.trans served)
  refine ⟨t, exec, ?_, fun n other => ?_, fun d => ?_, fun x => ?_, fun d => ?_, ?_, ?_, ?_, ?_, ?_, setting⟩
  · rw [State.corridor, corridors']
    change z.records.corridors.at CorridorRun.idle k = _
    rw [causes.records]
    change (q.setCorridor k (refusedRecord (q.corridor k) c)).corridor k = _
    rw [Run.corridor_setCorridor_self, corridor]
    rfl
  · rw [State.corridor, corridors']
    change z.records.corridors.at CorridorRun.idle n = _
    rw [causes.records]
    change (q.setCorridor k (refusedRecord (q.corridor k) c)).corridor n = _
    rw [Run.corridor_setCorridor_other _ _ other, corridor]
  · rw [ctx_of_records ht]
    exact (congrArg Context.butEdge (contexts d)).trans (ctx d)
  · rw [State.cell, cells']
    refine (causes.cell x).trans ?_
    change (q.cell x).butCauses = (queued.cell x).butCauses
    rw [stands.cell]
    split
    next own => rw [own, Run.cell_setCell_self]; rfl
    next other => rw [Run.cell_setCell_other _ _ other, if_neg (by simp)]; rfl
  · rw [State.reservations, reservations']
    change z.records.reservations.at [] d = _
    rw [causes.records]
    change q.reservations d = _
    rw [stands.reservations]
    have same : w'.reservations d = s.reservations d := by
      change w.records.reservations.at [] d = _
      rw [reservations]
      rfl
    split
    next own => rw [← own, List.append_nil, same]
    next => exact same
  · rw [seniority_repliedRun ht, ← h.seniority]
    exact seniority'.trans junior
  · exact doors.trans (gates'.trans (doorless.trans gates))
  · exact store.trans (slots'.trans (stored.trans slots))
  · rw [ht]
    exact links
  · rw [ht]
    exact engine

end

end Sys2Proof.Proofs
end

section
/-! An attempt whose run fails at a portal (R30, R123, R125, R127): the gate is told of a first waiter and takes a call. -/

namespace Sys2Proof.Proofs

open Sys2Proof.Machine Sys2Proof.Laws

section
variable {i : Instr} {s : State} {e : Setting} {v w u q : Run} {c y j g : Nat} {r r' : GateRun} {cause : BlockCause}
  {target : Option Nat}

/-- A gate's record with its timer stopped. -/
def idleTimer (r : GateRun) : GateRun := { r with timer := none, due := false }

/-- The gates when a queue at the portal of gate `g`, with the record `r`, has gained a waiter, the first where `first`
holds (R127). -/
def busyGates (t : Table GateRun) (g : Nat) (r : GateRun) (first : Bool) : Table GateRun :=
  if first = true ∧ r.state = .opened then Table.update t g idleTimer else t

/-- The record of that gate. -/
def busyGate (r : GateRun) (first : Bool) : GateRun := if first = true ∧ r.state = .opened then idleTimer r else r

theorem find_busyGates {t : Table GateRun} (h : Table.find t g = some r) (first : Bool) :
    Table.find (busyGates t g r first) g = some (busyGate r first) ∧
      ∀ n, n ≠ g → Table.find (busyGates t g r first) n = Table.find t n := by
  by_cases busy : first = true ∧ r.state = .opened
  · rw [busyGates, busyGate, if_pos busy, if_pos busy, Table.find_update_self, h]
    exact ⟨rfl, fun n other => Table.find_update_other _ _ other⟩
  · rw [busyGates, busyGate, if_neg busy, if_neg busy]
    exact ⟨h, fun _ _ => rfl⟩

/-- A first waiter changes no gate's state. -/
theorem gateState_busyGates (h : v.gate g = some r) (first : Bool) (n : Nat) :
    (withGates v (busyGates v.records.gates g r first)).gateState n = v.gateState n := by
  obtain ⟨own, others⟩ := find_busyGates (first := first) h
  by_cases same : n = g
  · rw [same, gateState_of_gate h, gateState_of_gate (v := withGates v (busyGates v.records.gates g r first)) own, busyGate]
    split <;> rfl
  · rw [Run.gateState, Run.gate, withGates, others n same]
    rfl

/-- A carrier in no queue takes its place in the queue of a portal (R24, R29, R127). -/
theorem placeWaiter_door (queue : v.queueOf c = none) (senior : ∀ o ∈ (v.cell y).queue, o.carrier ∈ v.records.seniority)
    (door : e.map.gateOf y = some g) (found : v.gate g = some r) : placeWaiter e v c y j cause none =
      withGates (queuedRun e v c y j cause) (busyGates v.records.gates g r (v.cell y).queue.isEmpty) := by
  have state : (queuedRun e v c y j cause).gateState g = r.state := gateState_of_gate (v := queuedRun e v c y j cause) found
  rw [placeWaiter_fresh queue senior, busyGates]
  simp only [queueFilled, door, gateBusy, state]
  cases (v.cell y).queue.isEmpty with
  | false => rfl
  | true =>
    by_cases opened : r.state = .opened
    · rw [if_pos rfl, if_pos opened, if_pos ⟨rfl, opened⟩]
      rfl
    · rw [if_pos rfl, if_neg opened, if_neg (fun both => opened both.2)]
      rfl

/-- A failed run of a carrier that waited for nothing, at a portal, for a cause other than CORRIDOR (R29, R30). -/
theorem runFails_door {run : List (Nat × Nat)} (queue : v.queueOf c = none) (wait : (v.ctx c).wait = none)
    (senior : ∀ o ∈ (v.cell y).queue, o.carrier ∈ v.records.seniority) (door : e.map.gateOf y = some g)
    (found : v.gate g = some r) (other : cause ≠ .corridor) : runFails e v c run y j cause target none =
      (heldUpRun e v c run y j cause target (busyGates v.records.gates g r (v.cell y).queue.isEmpty)).later
        [.gateCall g] := by
  have waiting : ((withGates (queuedRun e v c y j cause) (busyGates v.records.gates g r (v.cell y).queue.isEmpty)).ctx
      c).wait = none := wait
  simp only [runFails, placeWaiter_door queue senior door found, recordWait_fresh waiting, door, if_neg other]
  rfl

theorem recordedFailure_door (door : e.map.gateOf y = some g) (found : v.gate g = some r) : recordedFailure e v y cause target =
    (if cause = .capacity ∧ (r.state = .draining ∨ r.state = .fault) then .gate else cause,
      if cause = .capacity ∧ (r.state = .draining ∨ r.state = .fault) then none else target) := by
  simp only [recordedFailure, door, gateState_of_gate found]
  split <;> rfl

/-! ## The call (R123, R125, R127) -/

theorem gateCall_owed (h : v.gate g = some r) (draining : r.state = .draining) : gateCall e v g = v.owe g := by
  simp only [gateCall, h, draining]

theorem gateCall_unmoved (h : v.gate g = some r) (known : r.state = .calling ∨ r.state = .opened ∨ r.state = .fault) :
    gateCall e v g = v := by
  obtain state | state | state := known
  all_goals simp only [gateCall, h, state]

/-- A call to a SHUT gate without an active partner makes it CALLING (R125). -/
theorem gateCall_calls (h : v.gate g = some r) (shut : r.state = .shut) (alone : partnerActive e v g = false) :
    gateCall e v g = gateCalls e v g := by
  simp only [gateCall, h, shut]
  cases partner : e.map.partner g with
  | none => rfl
  | some p =>
    have idle : v.gateActive p = false := by simpa only [partnerActive, partner] using alone
    have closed : v.gateState p ≠ .opened := fun opened => by
      rw [Run.gateActive, opened] at idle
      cases idle
    simp only [if_neg closed, idle]
    rfl

theorem gateCall_partnered {p : Nat} {k : GateRun} (h : v.gate g = some r) (shut : r.state = .shut)
    (partner : e.map.partner g = some p) (found : v.gate p = some k) (busy : k.state = .calling ∨ k.state = .draining) :
    gateCall e v g = v.owe g := by
  have state := gateState_of_gate found
  simp only [gateCall, h, shut, partner, Run.gateActive, state]
  obtain busy | busy := busy
  all_goals simp [busy, GateState.active]

theorem modGate_withGates {k : GateRun} (h : v.gate g = some k) (f : GateRun → GateRun) :
    ∃ t, v.modGate g f = withGates v t ∧ Table.find t g = some (f k) ∧
      ∀ n, n ≠ g → Table.find t n = Table.find v.records.gates n :=
  ⟨_, rfl, by
    rw [Table.find_update_self]
    exact congrArg (Option.map f) h, fun n other => Table.find_update_other _ f other⟩

/-- The record a gate that is not OPEN has after a call request (R123, R125, R127). -/
theorem gateCall_takes_shut {first : Prop} (hg : v.records.gates = s.records.gates) (found : s.gate g = some r)
    (closed : r.state ≠ .opened) (takes : GateTakesCall s g r first r') :
    ∃ t, gateCall s.setting v g = withGates v t ∧ Table.find t g = some r' ∧
      ∀ n, n ≠ g → Table.find t n = Table.find s.records.gates n := by
  have same (n : Nat) : v.gate n = s.gate n := by rw [Run.gate, hg, State.gate]
  have own : v.gate g = some r := (same g).trans found
  rw [← hg]
  obtain ⟨state, rfl⟩ | ⟨draining, rfl⟩ | ⟨opened, -⟩ | ⟨opened, -⟩ | ⟨shut, alone, silent, b, bound, rfl⟩ |
    ⟨shut, rfl, p, k, partner, found', busy⟩ := takes
  · rw [gateCall_unmoved own (by tauto)]
    exact ⟨v.records.gates, rfl, own, fun _ _ => rfl⟩
  · rw [gateCall_owed own draining]
    exact modGate_withGates own _
  · exact absurd opened closed
  · exact absurd opened closed
  · have partnerless : partnerActive s.setting v g = false := by
      rw [← alone]
      simp only [partnerActive, Run.gateActive, Run.gateState, same]
      rfl
    have calls : gateCalls s.setting v g = v.modGate g (fun r => { r with
        state := .calling, callPending := false, timer := some b.callLimit, due := false }) := by
      have limit : (Table.find s.setting.map.gates g).map GateBinding.callLimit = some b.callLimit := by
        rw [bound]
        rfl
      simp only [gateCalls, limit, silent]
      rfl
    rw [gateCall_calls own shut partnerless, calls]
    exact modGate_withGates own _
  · rw [gateCall_partnered own shut partner ((same p).trans found') busy]
    exact modGate_withGates own _

/-- The record a gate has after a call request, from the one it had when the queue had gained its waiter. -/
theorem gateCall_takes {first : Bool} (hg : v.records.gates = busyGates s.records.gates g r first)
    (found : s.gate g = some r) (takes : GateTakesCall s g r (first = true) r') :
    ∃ t, gateCall s.setting v g = withGates v t ∧ Table.find t g = some r' ∧
      ∀ n, n ≠ g → Table.find t n = Table.find s.records.gates n := by
  by_cases opened : r.state = .opened
  · obtain ⟨own, others⟩ := find_busyGates (first := first) found
    rw [← hg] at own others
    have left : busyGate r first = r' := by
      obtain ⟨state, -⟩ | ⟨state, -⟩ | ⟨-, first, rfl⟩ | ⟨-, later, rfl⟩ | ⟨state, -⟩ | ⟨state, -⟩ := takes
      · rw [opened] at state
        simp at state
      · rw [opened] at state
        cases state
      · exact if_pos ⟨first, opened⟩
      · exact if_neg (fun both => later both.1)
      · rw [opened] at state
        cases state
      · rw [opened] at state
        cases state
    have still : (busyGate r first).state = .opened := by
      rw [busyGate]
      split
      · exact opened
      · exact opened
    rw [gateCall_unmoved (r := busyGate r first) own (.inr (.inl still))]
    exact ⟨v.records.gates, rfl, own.trans (congrArg some left), others⟩
  · exact gateCall_takes_shut (hg.trans (if_neg (fun both => opened both.2))) found opened takes

theorem Stands.withGates {queue : List Waiter} {count : Nat} {kept : List (Nat × Nat)} {edge : Option Nat}
    {gates : Table GateRun} (h : Stands e w q c y queue count kept edge gates) (t : Table GateRun) :
    Stands e w (withGates q t) c y queue count kept edge t :=
  ⟨h.ctx, h.cell, h.reservations, by rw [Proofs.withGates, h.records], h.monitor, h.work, h.deferring, h.deferred⟩

/-- An asked attempt whose run fails at a portal (R29, R30, R123). -/
theorem Asks.door (h : Asks i s w c) : AttemptFailsAtDoor i s w c := by
  intro before rest y j g r r' cause target e run free count priority atDoor edge queued u goes next nodup granted fails other
    few door found takes senior
  let w' : Run := { w with deferring := true }
  let why : BlockCause := if atDoor then .gate else cause
  let whom : Option Nat := if atDoor then none else target
  have allowed : attemptAllowed e w' c = true := attemptAllowed_of_runsLive h.active h.runs
  obtain ⟨-, -, corridors, gates, slots, deadlocks, marks⟩ := h.track
  have own : w'.gate g = some r := by
    change Table.find w.records.gates g = _
    rw [gates]
    exact found
  have nobody : keptCells e w' c free = [] := keptCells_of_few few
  have alone : ∀ p ∈ keptCells e w' c free, (w'.cell p.1).queue = [] := by
    rw [nobody]
    simp
  have stands : Stands e w' (heldUpRun e w' c run y j why whom
      (busyGates w'.records.gates g r (w'.cell y).queue.isEmpty)) c y (behind (w'.cell y).queue (entryFor e (w'.ctx c) c j why))
      (countAfter (w'.ctx c) free) (keptCells e w' c free) (targetFor c whom)
      (busyGates w'.records.gates g r (w'.cell y).queue.isEmpty) :=
    stands_of_failed nodup rfl (grantTest_waitingRun (gateState_busyGates own _)) alone
  rw [nobody] at stands
  have senior' : ∀ o ∈ (w'.cell y).queue, o.carrier ∈ w'.records.seniority := fun o ho => by
    have listed := senior o ho
    rw [← h.seniority] at listed
    exact listed
  have other' : why ≠ .corridor := by
    change (if atDoor then BlockCause.gate else cause) ≠ .corridor
    split
    · simp
    · exact other
  have failed : runFails e w' c run y j why whom none = _ := runFails_door h.free.queue h.free.wait senior' door own other'
  have round : runTask e (.round c false .reply) w' = _ := attemptRound_fails allowed goes next nodup granted fails
  rw [recordedFailure_door door own] at round
  change _ = (runFails e w' c run y j why whom none).later [.attemptEnd c .cell false .reply] at round
  rw [failed, later_later] at round
  generalize heldUpRun e w' c run y j why whom (busyGates w'.records.gates g r (w'.cell y).queue.isEmpty) = q at stands round
  have first : (w'.cell y).queue.isEmpty = true ↔ (w.cell y).queue = [] := List.isEmpty_iff
  obtain ⟨t', call, door', doors⟩ := gateCall_takes (v := q) (first := (w'.cell y).queue.isEmpty) (r' := r')
    (stands.kept.2.2.1.trans (by rw [show w'.records.gates = s.records.gates from gates])) found (by
      rw [first]
      exact takes)
  have waits' := stands.withGates t'
  have idle : q.work = [] := stands.work.trans h.calm.work
  have called : runTask e (.gateCall g) q = withGates q t' := call
  obtain ⟨t, exec, ht, setting⟩ := h.exec_of_rounds (n := 2) (z := withGates q t')
    (y := (withGates q t').modCtx c (noted .cell)) (by decide)
    (fun rest => (Reaches.first round h.calm.work).trans (Reaches.run called idle)) idle rfl idle
    (waits'.deferred.trans h.calm.deferred)
  obtain ⟨-, ⟨-, -, -, gates', -, -, -⟩, -, -, -⟩ :=
    fetchTrigger_send_leaves (Quiet.refl (repliedRun e ((withGates q t').modCtx c (noted .cell)) c))
  rw [← ht] at gates'
  have tables : t.records.gates = t' := gates'
  have edges : targetFor c whom = edge := by
    change (if (if atDoor then none else target) = some c then none else if atDoor then none else target) =
      if atDoor ∨ target = some c then none else target
    by_cases atDoor' : atDoor
    · simp [atDoor']
    · simp [atDoor']
  rw [edges] at waits'
  have same : u = queued.modCtx c (fun k => noted .cell (waits .cell y e.tick edge (counted count k))) := rfl
  have leads : Leads { s with records := { s.records with gates := t.records.gates } }
      ((withGates q t').modCtx c (noted .cell)) u := by
    refine leads_of_stands waits' (fun d => ?_) (fun x => ?_) (fun d => ?_) corridors tables.symm slots rfl rfl rfl
    · rw [same]
      split
      next own => rw [own, Run.ctx_modCtx_self]; rfl
      next other => rw [Run.ctx_modCtx_other _ _ other]; rfl
    · rw [same, Run.cell_modCtx]
      split
      next own => rw [own]; exact Run.cell_setCell_self ..
      next other => rw [if_neg (by simp)]; exact Run.cell_setCell_other _ _ other
    · rw [same, Run.reservations_modCtx]
      split
      next own => rw [own, List.append_nil]; rfl
      next => rfl
  refine ⟨t, exec, ?_, fun n other => ?_, attemptLeaves_of_leads leads ht setting, ?_, fun edgeless => ?_⟩
  · rw [State.gate, tables]
    exact door'
  · rw [State.gate, tables]
    exact doors n other
  · rw [seniority_repliedRun ht, ← h.seniority]
    exact stands.kept.1
  · obtain ⟨deadlocks', marks', alerts'⟩ := waits'.monitor edgeless
    exact monitorKept_of_leads leads (deadlocks'.trans deadlocks) (marks'.trans marks) alerts' ht

end

end Sys2Proof.Proofs
end

section
/-! ASK from a RUNNING carrier in ACTIVE (R90): the hand-over to its attempt, and the end of a cut route (R89). -/

namespace Sys2Proof.Proofs

open Sys2Proof.Machine Sys2Proof.Laws

section
variable {s : State} {l c : Nat} {k : Context}

/-- The carrier's context that a RUNNING carrier's ASK leaves (R44, R50, R90). -/
def askedContext (e : Setting) (speed requested : Nat) (lifts : Bool) (k : Context) : Context :=
  { k with
    requested := min requested (e.map.classOf k).vmax, lastSpeed := speed, holdLifted := k.holdLifted || lifts }

/-- The part's tests read the same on the run a good frame leaves as on the part with that context. -/
theorem sameRights_heardRun (s : State) (l c : Nat) (k : Context) :
    SameRights (s.run.modCtx c (fun _ => k)) (heardRun s l c k) := by
  have ctx (d : Nat) : (heardRun s l c k).ctx d = (s.run.modCtx c (fun _ => k)).ctx d := by
    by_cases own : d = c
    · rw [own, heardRun_ctx_self, Run.ctx_modCtx_self]
    · rw [heardRun_ctx_other _ _ _ own, Run.ctx_modCtx_other _ _ own]
      rfl
  obtain ⟨links, carriers, heard⟩ := heardRun_eq s l c k
  refine ⟨fun d => ⟨((heardRun s l c k).ctx d).wait, ?_⟩, fun x => ⟨(s.cell x).queue, ?_⟩, fun n => ?_, fun n => ?_,
    fun n => ?_⟩
  · rw [← ctx]
  all_goals
    rw [heard]
    rfl

theorem seniority_heardRun (s : State) (l c : Nat) (k : Context) :
    (heardRun s l c k).records.seniority = s.records.seniority := by
  obtain ⟨links, carriers, heard⟩ := heardRun_eq s l c k
  rw [heard]

/-- The run of an ASK before what it brings about (R90). -/
theorem runningAsk_heardRun (running : k.state = .running) (base : k.windowBase = (s.ctx c).windowBase)
    (size : k.windowSize = (s.ctx c).windowSize) (next : k.nextStep = (s.ctx c).nextStep)
    (count : k.windowCount = (s.ctx c).windowCount) {k' : Context} {f speed requested : Nat} {resume : Bool}
    (asked : k' = askedContext s.setting speed requested (resume && f == k.front && s.run.isHold c k.front) k) :
    runningAsk s.setting (heardRun s l c k) c f speed requested resume =
      if (f == k.front && k'.atCut speed) = true then cutEnd s.setting (heardRun s l c k') c
      else (heardRun s l c k').later [.attempt c .reply, .fetchTrigger c] := by
  let k₁ : Context := { k with requested := min requested (s.setting.map.classOf k).vmax, lastSpeed := speed }
  have spoken : (recordRequest s.setting (heardRun s l c k) c requested).recordSpeed c speed = heardRun s l c k₁ := by
    rw [recordRequest, heardRun_modCtx, Run.recordSpeed, heardRun_modCtx]
    · simp [running]
    · simp [running]
  have hold : (heardRun s l c k₁).isHold c k.front = s.run.isHold c k.front := by
    rw [Run.isHold, Run.isHold, heardRun_step (k := k₁) l k.front base size next count]
  have front : k₁.front = k.front := rfl
  have lifted : (if (resume && f == k.front && s.run.isHold c k.front) = true then
      (heardRun s l c k₁).modCtx c (fun k => { k with holdLifted := true }) else heardRun s l c k₁) = heardRun s l c k' := by
    rw [asked]
    cases lifts : resume && f == k.front && s.run.isHold c k.front with
    | true =>
      rw [if_pos rfl, heardRun_modCtx _ _ _ _ (by simp [k₁, running])]
      simp [askedContext, k₁]
    | false => simp [askedContext, k₁]
  simp only [runningAsk, spoken, heardRun_ctx_self, front, hold]
  rw [lifted, heardRun_ctx_self]

/-! ## The end of a cut route (R89) -/

/-- A route cut short ends with its cut result and everything held kept (R89, R95). -/
theorem cutEnd_keeping {result : RouteResult} (cut : k.cutResult = some result) (faults : result = .stepFault ∨ result = .bus)
    (within : ∀ e ∈ k.held, e.outside k.rear k.front = false) :
    cutEnd s.setting (heardRun s l c k) c =
      ((heardRun s l c k).later [.routeEndRest c result]).later [.waitReply c .noRoute] := by
  have all : ∀ x ∈ ((heardRun s l c k).ctx c).held, keptAtEnd ((heardRun s l c k).ctx c) result x = true := by
    rw [heardRun_ctx_self]
    intro x hx
    obtain rfl | rfl := faults
    · simp [keptAtEnd, within x hx]
    · simp [keptAtEnd, within x hx]
  have chosen : ((heardRun s l c k).ctx c).cutResult.getD .stepFault = result := by
    rw [heardRun_ctx_self, cut]
    rfl
  rw [cutEnd, chosen, routeEnd, routeEndKeeping_all all]

/-- The end of a route of a carrier whose front step lies on its front cell. -/
theorem endRoute_at_front (front : ∀ e ∈ k.held, e.step = some k.front → e.cell = k.frontCell) (result : RouteResult) :
    k.endRoute result = { restedContext k result with held := k.held.map (fun e => { e with step := none }) } := by
  have cell : ((k.held.find? (fun h => h.step == some k.front)).map Held.cell).getD k.frontCell = k.frontCell := by
    cases found : k.held.find? (fun h => h.step == some k.front) with
    | none => rfl
    | some h => exact front h (List.mem_of_find?_eq_some found) (by simpa using List.find?_some found)
  simp only [Context.endRoute, cell]
  rfl

/-- A frame that leads to the end of a cut route with nothing released (R89). -/
theorem cutEnds_of_settled {i : Instr} {l : Fin 4} {c : Byte} {k : Context} (running : k.state = .running)
    (waits : k.wait = none)
    (done : ∀ r, settled s.setting (cutEnd s.setting (heardRun s l c.toNat k) c.toNat) = some r →
      exec i s = .next { s with records := r }) : CutEnds i l c s k [] := by
  intro a result free cut cutResult faults routed within front _
  obtain ⟨q, rest, answered, engine⟩ := routeEnd_answers (Quiet.refl (heardRun s l c.toNat k)) running free waits routed result
  rw [← cutEnd_keeping cutResult faults within] at rest
  rw [routeEndedContext_of_running running, endRoute_at_front front] at answered
  obtain ⟨own, others, ⟨cells, reservations, corridors, gates, slots, deadlocks, marks⟩, links, alerts, setting, supervisor⟩ :=
    answered
  refine ⟨_, done q rest, ⟨own, others, fun x => ?_, fun d => ?_, corridors, gates, slots, deadlocks, marks, links, alerts,
    setting, supervisor⟩, engine⟩
  · rw [State.cell, cells]
    rfl
  · rw [State.reservations, reservations]
    rfl

/-! ## The obligation -/

theorem ask_of_settled {l : Fin 4} {c : Byte} {front : Half} {speed requested flags : Byte} {r : Records} (hs : s.inService)
    (h : settled s.setting (goodFrame s.setting s.run l c.toNat
      (.ask front.toNat speed.toNat requested.toNat (resumeFlag flags))) = some r) :
    exec (.ask l c front speed requested flags) s = .next { s with records := r } :=
  runEvent_of_settled
    (f := fun e v => goodFrame e v l c.toNat (.ask front.toNat speed.toNat requested.toNat (resumeFlag flags))) hs h

/-- Settles O51: the ASK leaves its carrier's context and hands it to the end of its cut route or to an attempt, which ends
as the lemmas about `Asks` say. -/
theorem askAttempts : Obligations.AskAttempts := by
  unfold Obligations.AskAttempts
  intro l c front speed requested flags s hs active n k lifts k' i atCut running free
  have asked : k' = askedContext s.setting speed.toNat requested.toNat lifts (heardContext k l) := rfl
  have live : k'.runsLive := ⟨running, rfl⟩
  have waits : k'.wait = none := free.2.2.1
  have frame : goodFrame s.setting s.run l n (.ask front.toNat speed.toNat requested.toNat (resumeFlag flags)) =
      if (front.toNat == k.front && k'.atCut speed.toNat) = true then cutEnd s.setting (heardRun s l n k') n
      else (heardRun s l n k').later [.attempt n .reply, .fetchTrigger n] := by
    rw [goodFrame_running running active]
    exact runningAsk_heardRun (k := heardContext k l) running rfl rfl rfl rfl asked
  have cut : (front.toNat == k.front && k'.atCut speed.toNat) = true ↔ atCut := by
    change (front.toNat == k.front && (k.cutPoint == some k.front && speed.toNat == 0)) = true ↔
      k.cutPoint = some k.front ∧ front.toNat = k.front ∧ speed = 0
    simp only [Bool.and_eq_true, beq_iff_eq, toNat_eq_zero_iff]
    tauto
  refine ⟨fun ends => cutEnds_of_settled running waits (fun r rest => ask_of_settled hs ?_), fun goes => ?_⟩
  · rw [frame, if_pos (cut.mpr ends)]
    exact rest
  · have done (r : Records) (rest : settled s.setting ((heardRun s l n k').later [.attempt n .reply, .fetchTrigger n]) =
        some r) : exec i s = .next { s with records := r } := by
      refine ask_of_settled hs ?_
      rw [frame, if_neg (fun ends => goes (cut.mp ends))]
      exact rest
    have asks : Asks i s (heardRun s l n k') n :=
      ⟨active, calm_heardRun .., unclaiming_heardRun free waits, by rw [heardRun_ctx_self]; exact live, sameTrack_heardRun ..,
        seniority_heardRun .., done⟩
    refine ⟨fun r hr stops => ?_, asks.grants, asks.fails, asks.door, asks.turn, asks.lane⟩
    obtain ⟨q, rest, replied⟩ := attempt_repliedAt (Quiet.refl (heardRun s l n k')) active live free waits hr
      (((sameRights_heardRun s l n k').stopTest s.setting n).trans stops)
    exact ⟨_, done q rest, replied⟩

end

end Sys2Proof.Proofs
end

section
/-! Step validation (R115, R116): the tests of the engine and the conditions they stand for. -/

namespace Sys2Proof.Proofs

open Sys2Proof.Machine Sys2Proof.Laws

/-! ## Corridor travel (R116) -/

section
variable {m : MapStore} {p x : Nat} {before : Option (Nat × Direction)}

theorem neighbours_iff (m : MapStore) (p x : Nat) :
    m.neighbours p x = true ↔ ∃ q, Table.find m.cells p = some q ∧ some x ∈ q.ports := by
  rw [MapStore.neighbours]
  cases Table.find m.cells p with
  | none => simp
  | some q => simp

theorem lanesFollow_iff (m : MapStore) (p x : Nat) : lanesFollow m p x = true ↔
    (m.kindOf x = some .lane → m.entryOf x = some p) ∧ (m.kindOf p = some .lane → m.exitOf p = some x) := by
  simp only [lanesFollow, MapStore.isLane, Bool.and_eq_true, Bool.or_eq_true, Bool.not_eq_true', beq_eq_false_iff_ne,
    beq_iff_eq, imp_iff_not_or, ne_eq]

theorem isEnd_iff (m : MapStore) (k i : Nat) :
    m.isEnd k i = true ↔ i = 0 ∨ i + 1 = (Table.at m.corridors [] k).length := by
  simp [MapStore.isEnd, MapStore.members]

theorem leavesFrom_iff (m : MapStore) (j a : Nat) (d : Direction) : leavesFrom m j a d = true ↔
    (d = .ab ∧ a + 1 = (Table.at m.corridors [] j).length) ∨ (d = .ba ∧ a = 0) := by
  cases d with
  | free => simp [leavesFrom]
  | ab => simp [leavesFrom, MapStore.members]
  | ba => simp [leavesFrom]

/-- The direction a route has in the corridor it lies in. -/
def directionIn (before : Option (Nat × Direction)) : Direction := (before.map Prod.snd).getD .free

/-- Within a corridor a route keeps its direction. -/
def onward (d : Direction) (a i : Nat) : Bool :=
  match d with
  | .ab => i == a + 1
  | .ba => i + 1 == a
  | .free => false

theorem onward_iff (d : Direction) (a i : Nat) : onward d a i = true ↔ (d = .ab ∧ i = a + 1) ∨ (d = .ba ∧ i + 1 = a) := by
  cases d with
  | free => simp [onward]
  | ab => simp [onward]
  | ba => simp [onward]

/-- Corridor travel to a member of the corridor the route lies in (R116). -/
theorem corridorTravel_within {j i : Nat} {d : Direction} (here : m.corridorOf x = some (j, i)) :
    corridorTravel m p x (some (j, d)) =
      if onward d (((m.corridorOf p).map Prod.snd).getD 0) i = true then some (some (j, d)) else none := by
  simp only [corridorTravel, here, if_true]
  rfl

/-- Corridor travel as the engine tests it and as R116 has it. -/
theorem corridorTravel_isSome (h : before.map Prod.fst = (m.corridorOf p).map Prod.fst) :
    (corridorTravel m p x before).isSome = true ↔ CorridorTravel m p x (directionIn before) := by
  cases here : m.corridorOf x with
  | none =>
    cases there : m.corridorOf p with
    | none =>
      obtain rfl : before = none := by simpa [there] using h
      simp [corridorTravel, CorridorTravel, here, there]
    | some place =>
      obtain ⟨j, d, rfl, -⟩ : ∃ j d, before = some (j, d) ∧ j = place.1 := by simpa [there] using h
      obtain rfl : j = place.1 := by simpa [there] using h
      have test := leavesFrom_iff m place.1 place.2 d
      simp only [corridorTravel, CorridorTravel, here, there, directionIn, Option.map_some, Option.getD_some, ← test]
      split
      next passes => simp [passes]
      next fails => simp [fails]
  | some goal =>
    obtain ⟨k, i⟩ := goal
    have arrives := isEnd_iff m k i
    cases there : m.corridorOf p with
    | none =>
      obtain rfl : before = none := by simpa [there] using h
      simp only [corridorTravel, CorridorTravel, here, there, ← arrives]
      split
      next passes => simp [passes]
      next fails => simp [fails]
    | some place =>
      obtain ⟨j, d, rfl, -⟩ : ∃ j d, before = some (j, d) ∧ j = place.1 := by simpa [there] using h
      obtain rfl : j = place.1 := by simpa [there] using h
      have leaves := leavesFrom_iff m place.1 place.2 d
      have keeps := onward_iff d place.2 i
      by_cases same : place.1 = k
      · subst same
        rw [corridorTravel_within here]
        simp only [CorridorTravel, here, there, directionIn, Option.map_some, Option.getD_some, ← keeps, if_true]
        split
        next passes => simp [passes]
        next fails => simp [fails]
      · simp only [corridorTravel, CorridorTravel, here, there, directionIn, Option.map_some, Option.getD_some, ← leaves,
          ← arrives, if_neg same, ← Bool.and_eq_true]
        split
        next passes => simp [passes]
        next fails => simp [fails]

/-- The corridor and direction that corridor travel leads to. -/
theorem corridorTravel_eq {after : Option (Nat × Direction)} (h : corridorTravel m p x before = some after) :
    after = (m.corridorOf x).map (fun place => (place.1,
      if before.map Prod.fst = some place.1 then directionIn before else entryDirection place.2)) := by
  cases here : m.corridorOf x with
  | none =>
    cases before with
    | none => simpa [corridorTravel, here, eq_comm] using h
    | some place =>
      simp only [corridorTravel, here] at h
      split at h
      · simpa [eq_comm] using h
      · cases h
  | some goal =>
    obtain ⟨k, i⟩ := goal
    cases before with
    | none =>
      simp only [corridorTravel, here] at h
      split at h
      · simpa [eq_comm] using h
      · cases h
    | some place =>
      obtain ⟨j, d⟩ := place
      by_cases same : j = k
      · subst same
        rw [corridorTravel_within here] at h
        split at h
        · simpa [directionIn, eq_comm] using h
        · cases h
      · simp only [corridorTravel, here, if_neg same] at h
        split at h
        · simpa [same, eq_comm] using h
        · cases h

end

/-! ## Step validation (R115) -/

section
variable {e : Setting} {v : Run} {c i n : Nat} {s : Slot}

/-- The tests of R115 that do not look at the step before. -/
def stepStands (m : MapStore) (i n : Nat) (s : Slot) : Bool :=
  (Table.find m.cells s.cell).isSome && (!s.hold || m.standing s.cell) && s.last == (i + 1 == n) &&
    (!(i + 1 == n) || (m.standing s.cell && (m.corridorOf s.cell).isNone))

theorem stepStands_iff (m : MapStore) (i n : Nat) (s : Slot) : stepStands m i n s = true ↔
    (∃ q, Table.find m.cells s.cell = some q) ∧ (s.hold = true → m.standing s.cell = true) ∧
      (s.last = true ↔ i + 1 = n) ∧ (i + 1 = n → m.standing s.cell = true ∧ m.corridorOf s.cell = none) := by
  have last : (s.last == (i + 1 == n)) = true ↔ (s.last = true ↔ i + 1 = n) := by
    rw [beq_iff_eq, Bool.eq_iff_iff, beq_iff_eq]
  simp only [stepStands, Bool.and_eq_true, Bool.or_eq_true, Bool.not_eq_true', last, Option.isSome_iff_exists,
    Option.isNone_iff_eq_none, beq_eq_false_iff_ne, imp_iff_not_or, Bool.not_eq_true, ne_eq, and_assoc]

theorem validateStep_zero : validateStep e v c 0 n s =
    if (stepStands e.map 0 n s && s.cell == (v.ctx c).frontCell) = true then
      some { cell := s.cell
             corridor := (e.map.corridorOf s.cell).map (fun p => (p.1, (v.corridor p.1).direction))
             nonStanding := if e.map.standing s.cell then 0 else 1 }
    else none := rfl

theorem validateStep_none (later : i ≠ 0) (h : (v.ctx c).validation = none) : validateStep e v c i n s = none := by
  simp only [validateStep, if_neg later, h]

/-- The non-standing steps ending at a step behind one with the record `w`. -/
def standingCount (m : MapStore) (w : Validation) (x : Nat) : Nat := if m.standing x then 0 else w.nonStanding + 1

theorem validateStep_some {w : Validation} (later : i ≠ 0) (h : (v.ctx c).validation = some w) : validateStep e v c i n s =
    if (stepStands e.map i n s && e.map.neighbours w.cell s.cell && lanesFollow e.map w.cell s.cell &&
        decide (standingCount e.map w s.cell ≤ 6)) = true then
      (corridorTravel e.map w.cell s.cell (corridorBefore v w i)).map
        (fun after => { cell := s.cell, corridor := after, nonStanding := standingCount e.map w s.cell })
    else none := by
  simp only [validateStep, if_neg later, h]
  rfl

theorem corridorBefore_fst (v : Run) (w : Validation) (i : Nat) :
    (corridorBefore v w i).map Prod.fst = w.corridor.map Prod.fst := by
  rw [corridorBefore]
  split
  · rw [Option.map_map]
    rfl
  · rfl

theorem directionIn_corridorBefore (v : Run) (w : Validation) (i : Nat) :
    directionIn (corridorBefore v w i) = travelBefore v w i := by
  rw [corridorBefore, travelBefore]
  cases w.corridor with
  | none => split <;> rfl
  | some place =>
    by_cases first : i = 1
    · simp [directionIn, first]
    · simp [directionIn, first]

theorem standingCount_le (m : MapStore) (w : Validation) (x : Nat) :
    standingCount m w x ≤ 6 ↔ (m.standing x = false → w.nonStanding + 1 ≤ 6) := by
  rw [standingCount]
  cases m.standing x with
  | true => simp
  | false => simp

/-- A step behind one with the record `w` is taken exactly when it is valid (R115, R116). -/
theorem validateStep_isSome_later {w : Validation} (later : i ≠ 0) (h : (v.ctx c).validation = some w)
    (lies : w.corridor.map Prod.fst = (e.map.corridorOf w.cell).map Prod.fst) :
    (validateStep e v c i n s).isSome = true ↔ StepValid e.map v (v.ctx c).frontCell (v.ctx c).validation i n s := by
  have travel := corridorTravel_isSome (x := s.cell) ((corridorBefore_fst v w i).trans lies)
  rw [directionIn_corridorBefore] at travel
  rw [validateStep_some later h, StepValid, h]
  have tests : (stepStands e.map i n s && e.map.neighbours w.cell s.cell && lanesFollow e.map w.cell s.cell &&
      decide (standingCount e.map w s.cell ≤ 6)) = true ↔ stepStands e.map i n s = true ∧
        e.map.neighbours w.cell s.cell = true ∧ lanesFollow e.map w.cell s.cell = true ∧
          standingCount e.map w s.cell ≤ 6 := by simp [and_assoc]
  rw [stepStands_iff, neighbours_iff, lanesFollow_iff] at tests
  have few := standingCount_le e.map w s.cell
  split
  next passes =>
    obtain ⟨⟨known, hold, last, ends⟩, ports, ⟨into, out⟩, count⟩ := tests.mp passes
    rw [Option.isSome_map]
    exact ⟨fun travels => ⟨known, hold, last, ends, fun zero => absurd zero later,
      fun _ => ⟨w, rfl, ports, into, out, few.mp count, travel.mp travels⟩⟩, fun valid => by
        obtain ⟨-, -, -, -, -, next⟩ := valid
        obtain ⟨w', same, -, -, -, -, travels⟩ := next later
        cases same
        exact travel.mpr travels⟩
  next fails =>
    refine ⟨fun some => (by cases some), fun valid => ?_⟩
    obtain ⟨known, hold, last, ends, -, next⟩ := valid
    obtain ⟨w', same, ports, into, out, count, -⟩ := next later
    cases same
    exact absurd (tests.mpr ⟨⟨known, hold, last, ends⟩, ports, ⟨into, out⟩, few.mpr count⟩) fails

theorem validateStep_isSome_zero :
    (validateStep e v c 0 n s).isSome = true ↔ StepValid e.map v (v.ctx c).frontCell (v.ctx c).validation 0 n s := by
  have tests : (stepStands e.map 0 n s && s.cell == (v.ctx c).frontCell) = true ↔
      stepStands e.map 0 n s = true ∧ s.cell = (v.ctx c).frontCell := by simp
  rw [stepStands_iff] at tests
  rw [validateStep_zero, StepValid]
  split
  next passes =>
    obtain ⟨⟨known, hold, last, ends⟩, front⟩ := tests.mp passes
    exact ⟨fun _ => ⟨known, hold, last, ends, fun _ => front, fun later => absurd rfl later⟩, fun _ => rfl⟩
  next fails =>
    refine ⟨fun some => (by cases some), fun valid => ?_⟩
    obtain ⟨known, hold, last, ends, front, -⟩ := valid
    exact absurd (tests.mpr ⟨⟨known, hold, last, ends⟩, front rfl⟩) fails

/-- The record of a step that is taken (R116). -/
theorem validateStep_record {u : Validation} (h : validateStep e v c i n s = some u) : u.cell = s.cell ∧
    u.nonStanding = (if e.map.standing s.cell then 0 else if i = 0 then 1
      else (((v.ctx c).validation.map Validation.nonStanding).getD 0) + 1) ∧
    u.corridor = (e.map.corridorOf s.cell).map (fun place => (place.1,
      if i = 0 then (v.corridor place.1).direction
      else match (v.ctx c).validation with
        | some w => if w.corridor.map Prod.fst = some place.1 then travelBefore v w i
          else if place.2 = 0 then .ab else .ba
        | none => .free)) := by
  by_cases zero : i = 0
  · subst zero
    rw [validateStep_zero] at h
    split at h
    · cases h
      exact ⟨rfl, rfl, rfl⟩
    · cases h
  · cases before : (v.ctx c).validation with
    | none =>
      rw [validateStep_none zero before] at h
      cases h
    | some w =>
      rw [validateStep_some zero before] at h
      split at h
      · obtain ⟨after, travels, rfl⟩ := Option.map_eq_some_iff.mp h
        refine ⟨rfl, ?_, ?_⟩
        · simp only [if_neg zero]
          rfl
        · have leads := corridorTravel_eq travels
          rw [corridorBefore_fst, directionIn_corridorBefore] at leads
          simp only [if_neg zero]
          exact leads
      · cases h

theorem stepsAreValidated : StepsAreValidated := by
  intro e v c i n s lies
  refine ⟨?_, fun u taken => validateStep_record taken⟩
  by_cases zero : i = 0
  · subst zero
    exact validateStep_isSome_zero
  · cases before : (v.ctx c).validation with
    | none =>
      rw [validateStep_none zero before]
      refine ⟨fun some => (by cases some), fun valid => ?_⟩
      obtain ⟨-, -, -, -, -, next⟩ := valid
      obtain ⟨w, same, -⟩ := next zero
      cases same
    | some w =>
      rw [← before]
      exact validateStep_isSome_later zero before (lies w before)

end

end Sys2Proof.Proofs
end

section
/-! The steps a read appends to a window, and the point a route is cut at (R115, R117, R118). -/

namespace Sys2Proof.Proofs

open Sys2Proof.Machine Sys2Proof.Laws

section
variable {e : Setting} {v u w : Run} {c n i : Nat}

/-! ## Steps stored (R107, R117) -/

/-- Steps stored one after the other, the first of them numbered `first`. -/
def storeSteps (base size : Nat) : Nat → List Slot → Run → Run
  | _, [], v => v
  | first, s :: rest, v => storeSteps base size (first + 1) rest (v.setSlot (base + first % size) s)

theorem foldl_setSlot_zipIdx (base size first : Nat) (steps : List Slot) (i : Nat) (v : Run) :
    (steps.zipIdx i).foldl (fun v p => v.setSlot (base + (first + p.2) % size) p.1) v =
      storeSteps base size (first + i) steps v := by
  induction steps generalizing i v with
  | nil => rfl
  | cons s rest ih =>
    rw [List.zipIdx_cons, List.foldl_cons, ih]
    rfl

theorem storeSteps_eq (base size first : Nat) (steps : List Slot) (v : Run) : ∃ slots,
    storeSteps base size first steps v = { v with records := { v.records with slots := slots } } := by
  induction steps generalizing first v with
  | nil => exact ⟨_, rfl⟩
  | cons s rest ih =>
    obtain ⟨slots, stored⟩ := ih (first + 1) (v.setSlot (base + first % size) s)
    exact ⟨slots, stored⟩

theorem storeSteps_modCtx (base size first : Nat) (steps : List Slot) (v : Run) (f : Context → Context) :
    storeSteps base size first steps (v.modCtx c f) = (storeSteps base size first steps v).modCtx c f := by
  induction steps generalizing first v with
  | nil => rfl
  | cons s rest ih => exact ih (first + 1) (v.setSlot (base + first % size) s)

theorem storeSteps_ctx (base size first : Nat) (steps : List Slot) (v : Run) (d : Nat) :
    (storeSteps base size first steps v).ctx d = v.ctx d := by
  obtain ⟨slots, stored⟩ := storeSteps_eq base size first steps v
  rw [stored]
  rfl

/-- A context with steps appended to its window, the last of them with the last of the records `ws` (R117). -/
def appendedContext (count : Nat) (ws : List Validation) (k : Context) : Context :=
  { k with
    windowCount := k.windowCount + count, nextStep := k.nextStep + count, validation := ws.getLast?.or k.validation }

theorem withSteps_eq (v : Run) (c : Nat) (steps : List Slot) (ws : List Validation) : withSteps v c steps ws =
    (storeSteps (v.ctx c).windowBase (v.ctx c).windowSize (v.ctx c).nextStep steps v).modCtx c
      (appendedContext steps.length ws) := by
  rw [← Nat.add_zero (v.ctx c).nextStep, ← foldl_setSlot_zipIdx]
  rfl

theorem withSteps_ctx_self (v : Run) (c : Nat) (steps : List Slot) (ws : List Validation) :
    (withSteps v c steps ws).ctx c = appendedContext steps.length ws (v.ctx c) := by
  rw [withSteps_eq, Run.ctx_modCtx_self, storeSteps_ctx]

theorem withSteps_ctx_other (v : Run) {c d : Nat} (h : d ≠ c) (steps : List Slot) (ws : List Validation) :
    (withSteps v c steps ws).ctx d = v.ctx d := by
  rw [withSteps_eq, Run.ctx_modCtx_other _ _ h, storeSteps_ctx]

/-- Appending steps changes slots and the carrier's context alone. -/
theorem withSteps_records (v : Run) (c : Nat) (steps : List Slot) (ws : List Validation) : ∃ slots carriers,
    withSteps v c steps ws = { v with records := { v.records with slots := slots, carriers := carriers } } := by
  obtain ⟨slots, stored⟩ := storeSteps_eq (v.ctx c).windowBase (v.ctx c).windowSize (v.ctx c).nextStep steps v
  rw [withSteps_eq, stored]
  exact ⟨slots, _, rfl⟩

theorem withSteps_nil (v : Run) (c : Nat) : Quiet (withSteps v c [] []) v := by
  rw [withSteps_eq]
  refine quiet_symm (quiet_of_readsAs ⟨rfl, rfl, rfl, rfl, rfl, fun d => ?_, fun _ => rfl⟩ rfl)
  by_cases own : d = c
  · rw [own, Run.ctx_modCtx_self]
    rfl
  · rw [Run.ctx_modCtx_other _ _ own]
    rfl

/-- Steps appended behind a first one. -/
theorem withSteps_cons (v : Run) (c : Nat) (s : Slot) (steps : List Slot) (r : Validation) (ws : List Validation) :
    Quiet (withSteps v c (s :: steps) (r :: ws)) (withSteps (appendStep v c s r) c steps ws) := by
  have own : (appendStep v c s r).ctx c = appendedContext 1 [r] (v.ctx c) := Run.ctx_modCtx_self ..
  have stored := storeSteps_modCtx (c := c) (v.ctx c).windowBase (v.ctx c).windowSize ((v.ctx c).nextStep + 1) steps
    (v.setSlot ((v.ctx c).slotNumber (v.ctx c).nextStep) s) (appendedContext 1 [r])
  rw [withSteps_eq, withSteps_eq, own]
  refine .trans (quiet_modCtx_modCtx _ c (f := appendedContext 1 [r]) (g := appendedContext steps.length ws) ?_) ?_
  · have last : (r :: ws).getLast? = (ws.getLast?).or (some r) := by
      cases ws with
      | nil => rfl
      | cons a rest => simp [List.getLast?_cons]
    simp only [appendedContext, last, List.length_cons, List.getLast?_singleton, Option.or_assoc, Option.some_or]
    congr 1
    · omega
    · omega
  · refine quiet_modCtx ?_ c _
    have same : storeSteps (appendedContext 1 [r] (v.ctx c)).windowBase (appendedContext 1 [r] (v.ctx c)).windowSize
        (appendedContext 1 [r] (v.ctx c)).nextStep steps (appendStep v c s r) =
        (storeSteps (v.ctx c).windowBase (v.ctx c).windowSize (v.ctx c).nextStep (s :: steps) v).modCtx c
          (appendedContext 1 [r]) := stored
    rw [same]
    exact .refl _

/-! ## Steps taken (R115, R117) -/

theorem validateStep_congr {s : Slot} (front : (u.ctx c).frontCell = (v.ctx c).frontCell)
    (before : (u.ctx c).validation = (v.ctx c).validation) (corridor : ∀ k, u.corridor k = v.corridor k) :
    validateStep e u c i n s = validateStep e v c i n s := by
  simp only [validateStep, front, before, corridorBefore, corridor]

theorem corridor_of_quiet (h : Quiet v u) (k : Nat) : u.corridor k = v.corridor k := by
  rw [Run.corridor, h.records]
  rfl

theorem validateStep_of_quiet {s : Slot} (h : Quiet v u) : validateStep e u c i n s = validateStep e v c i n s :=
  validateStep_congr (by rw [h.ctx]) (by rw [h.ctx]) (corridor_of_quiet h)

/-- The first of the steps that are taken, and the others behind it. -/
theorem stepsTaken_cons {s : Slot} {steps : List Slot} {r : Validation} {ws : List Validation}
    (h : StepsTaken e v c n (s :: steps) (r :: ws)) :
    validateStep e v c (v.ctx c).nextStep n s = some r ∧ StepsTaken e (appendStep v c s r) c n steps ws := by
  obtain ⟨length, taken⟩ := h
  have own : (appendStep v c s r).ctx c = appendedContext 1 [r] (v.ctx c) := Run.ctx_modCtx_self ..
  refine ⟨?_, by simpa using length, fun j a ha => ?_⟩
  · refine Eq.trans (Eq.symm ?_) (taken 0 s rfl)
    refine validateStep_congr ?_ ?_ (fun _ => rfl)
    · rw [Run.ctx_modCtx_self]
    · rw [Run.ctx_modCtx_self, if_pos rfl]
  · have index : ((appendStep v c s r).ctx c).nextStep + j = (v.ctx c).nextStep + (j + 1) := by
      rw [own]
      simp only [appendedContext]
      omega
    rw [index]
    refine Eq.trans ?_ (taken (j + 1) a (by simpa using ha))
    refine validateStep_congr ?_ ?_ (fun _ => rfl)
    · rw [Run.ctx_modCtx_self, Run.ctx_modCtx_self, own]
      rfl
    · rw [Run.ctx_modCtx_self, Run.ctx_modCtx_self, own]
      cases j with
      | zero => rfl
      | succ j => rfl

/-- The steps that are taken are appended, and the rest follows them (R117). -/
theorem appendSteps_taken {steps : List Slot} {ws : List Validation} (taken : StepsTaken e v c n steps ws)
    (room : (v.ctx c).nextStep + steps.length ≤ n) (rest : List Slot) : ∃ u, Quiet (withSteps v c steps ws) u ∧
      appendSteps e c n v (steps ++ rest) = appendSteps e c n u rest := by
  induction steps generalizing v ws with
  | nil =>
    obtain rfl : ws = [] := List.eq_nil_of_length_eq_zero taken.1.symm
    exact ⟨v, withSteps_nil v c, rfl⟩
  | cons s steps ih =>
    cases ws with
    | nil => simp [StepsTaken] at taken
    | cons r ws =>
      obtain ⟨first, others⟩ := stepsTaken_cons taken
      have next : ((appendStep v c s r).ctx c).nextStep = (v.ctx c).nextStep + 1 := by
        rw [appendStep, Run.ctx_modCtx_self]
        rfl
      rw [List.length_cons] at room
      obtain ⟨u, quiet, appends⟩ := ih others (by omega)
      refine ⟨u, (withSteps_cons v c s steps r ws).trans quiet, ?_⟩
      rw [← appends, List.cons_append, appendSteps, if_neg (by omega), first]

end

end Sys2Proof.Proofs
end

section
/-! The carrier table's action on a completed read (R84, R85, R117, R118). -/

namespace Sys2Proof.Proofs

open Sys2Proof.Machine Sys2Proof.Laws

section
variable {s : State} {e : Setting} {v u z : Run} {c f : Nat} {flags : BitVec 10} {result : RouteResult} {o : ReadOutcome}

/-! ## The cut point (R117) -/

theorem find?_reverse_range (p : Nat → Bool) (f : Nat) : (∀ j, j < f → p j = true → (∀ j', j < j' → j' < f → p j' = false) →
      (List.range f).reverse.find? p = some j) ∧
    ((∀ j, j < f → p j = false) → (List.range f).reverse.find? p = none) := by
  induction f with
  | zero => exact ⟨fun j hj => absurd hj (Nat.not_lt_zero j), fun _ => rfl⟩
  | succ f ih =>
    have last : (List.range (f + 1)).reverse = f :: (List.range f).reverse := by simp [List.range_succ]
    rw [last]
    refine ⟨fun j hj holds highest => ?_, fun none => ?_⟩
    · by_cases same : j = f
      · subst same
        rw [List.find?_cons, holds]
      · rw [List.find?_cons, highest f (by omega) (by omega)]
        exact ih.1 j (by omega) holds (fun j' low high => highest j' low (by omega))
    · rw [List.find?_cons, none f (by omega)]
      exact ih.2 (fun j hj => none j (by omega))

/-- Whether a step is a standing step in its carrier's window. -/
def standsIn (e : Setting) (v : Run) (c j : Nat) : Bool := ((v.step c j).map (fun s => e.map.standing s.cell)).getD false

theorem inWindow_iff (k : Context) (j : Nat) : k.inWindow j = true ↔ k.nextStep - k.windowCount ≤ j ∧ j < k.nextStep := by
  simp [Context.inWindow, Context.oldest]

theorem standsIn_iff (e : Setting) (v : Run) (c j : Nat) : standsIn e v c j = true ↔ StandsAt e v c j := by
  rw [standsIn, StandsAt, Run.step]
  split
  next inside =>
    rw [inWindow_iff] at inside
    obtain ⟨low, high⟩ := inside
    exact ⟨fun stands => ⟨low, high, stands⟩, fun ⟨_, _, stands⟩ => stands⟩
  next outside =>
    rw [inWindow_iff] at outside
    exact ⟨fun stands => (by cases stands), fun ⟨low, high, _⟩ => absurd ⟨low, high⟩ outside⟩

theorem standsIn_congr (h : SameRights v u) (j : Nat) : standsIn e u c j = standsIn e v c j := by
  rw [standsIn, h.step, standsIn]

theorem cutPointBelow_of_highest {j : Nat} (h : SameRights v u) (hj : j < f) (stands : StandsAt e v c j)
    (highest : ∀ j', j < j' → j' < f → ¬StandsAt e v c j') : cutPointBelow e u c f = some j := by
  refine (find?_reverse_range (standsIn e u c) f).1 j hj ?_ (fun j' low high => ?_)
  · rw [standsIn_congr h, standsIn_iff]
    exact stands
  · rw [standsIn_congr h, Bool.eq_false_iff, ne_eq, standsIn_iff]
    exact highest j' low high

theorem cutPointBelow_of_none (h : SameRights v u) (nowhere : ∀ j, j < f → ¬StandsAt e v c j) : cutPointBelow e u c f = none := by
  refine (find?_reverse_range (standsIn e u c) f).2 (fun j hj => ?_)
  rw [standsIn_congr h, Bool.eq_false_iff, ne_eq, standsIn_iff]
  exact nowhere j hj

/-! ## What a read leaves -/

/-- A run with alert flags raised. -/
def alerted (v : Run) (flags : BitVec 10) : Run := { v with records := { v.records with alerts := v.records.alerts ||| flags } }

theorem quiet_alerted (h : Quiet v u) (flags : BitVec 10) : Quiet (alerted v flags) (alerted u flags) :=
  ⟨by rw [alerted, alerted, h.records], h.work, h.deferring, h.deferred, h.opening, h.ctx⟩

theorem quiet_alerted_zero (v : Run) : Quiet (alerted v 0) v :=
  ⟨by simp [alerted], rfl, rfl, rfl, rfl, fun _ => rfl⟩

/-- The run `u` is that of a part whose read has ended: only contexts, slots and the engine's records have changed, and a
carrier's wait record has not. -/
structure ReadRun (s : State) (u : Run) (c : Nat) : Prop where
  records : u.records = { s.records with
    carriers := u.records.carriers, slots := u.records.slots, engine := u.records.engine }
  calm : Calm u
  wait : (u.ctx c).wait = (s.ctx c).wait
  others : ∀ d, d ≠ c → u.ctx d = s.ctx d

theorem ReadRun.modCtx (h : ReadRun s u c) {g : Context → Context} (wait : (g (u.ctx c)).wait = (u.ctx c).wait) :
    ReadRun s (u.modCtx c g) c := by
  refine ⟨by rw [Run.modCtx, h.records], h.calm.modCtx c g, ?_, fun d other => ?_⟩
  · rw [Run.ctx_modCtx_self, wait, h.wait]
  · rw [Run.ctx_modCtx_other _ _ other, h.others d other]

theorem ReadRun.withSteps (h : ReadRun s u c) (steps : List Slot) (ws : List Validation) :
    ReadRun s (withSteps u c steps ws) c := by
  obtain ⟨slots, carriers, appended⟩ := withSteps_records u c steps ws
  refine ⟨by rw [appended, h.records], ?_, ?_, fun d other => ?_⟩
  · rw [appended]
    exact ⟨h.calm.work, h.calm.deferring, h.calm.deferred⟩
  · rw [withSteps_ctx_self]
    exact h.wait
  · rw [withSteps_ctx_other _ other, h.others d other]

theorem ReadRun.unclaiming (h : ReadRun s u c) (free : s.claimsNothing c) : Unclaiming u c := by
  obtain ⟨queue, reservations, wait, mark, turn⟩ := free
  refine ⟨?_, ?_, h.wait.trans wait, ?_, ?_⟩
  · rw [Run.queueOf, h.records]
    exact queue
  · rw [Run.reservations, h.records]
    exact reservations
  · rw [h.records]
    exact mark
  · simp only [Run.corridor]
    rw [h.records]
    exact turn

theorem unclaiming_alerted (h : Unclaiming v c) (flags : BitVec 10) : Unclaiming (alerted v flags) c :=
  ⟨h.queue, h.reservations, h.wait, h.mark, h.turn⟩

/-- The records of a part whose read leaves the run `u` with alerts raised, and then contexts and the engine changed. -/
theorem readRecords_of_leaves (h : ReadRun s u c) {t : State} (slots : t.records.slots = u.records.slots)
    (track : Records.sameTrack u.records t.records) (links : t.records.links = u.records.links)
    (alerts : t.records.alerts = u.records.alerts ||| flags) (setting : t.setting = s.setting) : ReadRecords s t u flags := by
  obtain ⟨cells, reservations, corridors, gates, -, deadlocks, marks⟩ := track
  rw [h.records] at cells reservations corridors gates deadlocks marks links alerts
  exact ⟨fun n => by rw [slots]; rfl, cells, reservations, corridors, gates, deadlocks, marks, links, alerts, setting⟩

theorem fetchTrigger_alerted (v : Run) (c : Nat) (flags : BitVec 10) :
    fetchTrigger (alerted v flags) c = alerted (fetchTrigger v c) flags := by
  by_cases wanted : fetchWanted v c = true
  · rw [show fetchTrigger v c = _ from if_pos wanted]
    exact if_pos wanted
  · rw [show fetchTrigger v c = v from if_neg wanted]
    exact if_neg wanted

/-- What a read's run leaves once the fetch trigger has been tested. -/
theorem readLeaves (h : ReadRun s u c) (quiet : Quiet (fetchTrigger (alerted u flags) c) z) {t : State}
    (ht : t.records = z.records) (setting : t.setting = s.setting) : ReadRecords s t u flags ∧ (∀ d, t.ctx d = u.ctx d) ∧
      t.records.engine = (fetchTrigger u c).records.engine := by
  rw [fetchTrigger_alerted] at quiet
  obtain ⟨g, fetched⟩ := fetchTrigger_eq u c
  have engine := engine_of_quiet quiet
  have contexts := quiet.ctx
  have records := quiet.records
  have track := sameTrack_of_quiet quiet
  rw [fetched] at track records contexts ⊢
  refine ⟨readRecords_of_leaves h ?_ ?_ ?_ ?_ setting, fun d => ?_, ?_⟩
  · rw [ht, records]
    rfl
  · rw [ht]
    exact track
  · rw [ht, records]
    rfl
  · rw [ht, records]
    rfl
  · rw [ctx_of_records ht]
    exact contexts d
  · rw [ht, engine, fetched]
    rfl

/-! ## An appended or cut window (R117) -/

theorem actOnRead_resting (ho : o = .appended ∨ o = .cut) (rests : (z.ctx c).state = .halting ∨ (z.ctx c).state = .stopped) :
    actOnRead e z c o = z := by
  obtain rfl | rfl := ho <;> obtain state | state := rests <;> simp only [actOnRead, state]

theorem clearBeyondCut_none (h : z.reservations c = []) : clearBeyondCut e z c = z := by
  rw [clearBeyondCut]
  split
  · rw [h, List.filter_nil, clearReservations_nil]
  · rfl

theorem actOnRead_running (ho : o = .appended ∨ o = .cut) (running : (z.ctx c).state = .running)
    (h : z.reservations c = []) : actOnRead e z c o = z.later [.attempt c .noticeIfGranted] := by
  obtain rfl | rfl := ho
  · simp only [actOnRead, running]
  · simp only [actOnRead, running, clearBeyondCut_none h]

theorem fetchTrigger_resting (rests : (u.ctx c).state = .halting ∨ (u.ctx c).state = .stopped ∨ (u.ctx c).state = .idle) :
    fetchTrigger u c = u := by
  refine if_neg ?_
  have idle : ((u.ctx c).state == .attached || (u.ctx c).state == .running) = false := by
    obtain state | state | state := rests <;> rw [state] <;> rfl
  simp [fetchWanted, idle]

/-- The carrier table's action on a read that has appended steps or cut the route (R117). -/
theorem readActsOn_of_settled {i : Instr} (read : ReadRun s u c) (same : Quiet (alerted u flags) z)
    (ho : o = .appended ∨ o = .cut)
    (done : (u.ctx c).state ≠ .vacant → ∀ r, settled s.setting ((actOnRead s.setting z c o).later [.fetchTrigger c]) = some r →
      exec i s = .next { s with records := r }) : ReadActsOn i s u c flags := by
  have own : z.ctx c = u.ctx c := same.ctx c
  have calm : Calm (alerted u flags) := ⟨read.calm.work, read.calm.deferring, read.calm.deferred⟩
  have calm' : Calm z := calm.of_quiet same
  have fetches : settled s.setting (z.later [.fetchTrigger c]) = some (fetchTrigger z c).records :=
    (fetchTrigger_reaches calm' []).settled (calm'.fetchTrigger c).work (by decide)
  have left := readLeaves (t := { s with records := (fetchTrigger z c).records }) read (quiet_fetchTrigger same c) rfl rfl
  refine ⟨fun rests => ?_, fun running free barred => ?_, fun r running free active live hr stops => ?_⟩
  · obtain ⟨records, contexts, engine⟩ := left
    refine ⟨_, done ?_ _ ?_, records, contexts, ?_⟩
    · obtain state | state := rests <;> simp [state]
    · rw [actOnRead_resting ho (by rw [own]; exact rests)]
      exact fetches
    · rw [engine, fetchTrigger_resting (by tauto)]
  · obtain ⟨records, contexts, engine⟩ := left
    refine ⟨_, done (by simp [running]) _ ?_, records, contexts, engine⟩
    have reservations : z.reservations c = [] :=
      ((unclaiming_alerted (read.unclaiming free) flags).of_quiet same).reservations
    rw [actOnRead_running ho (by rw [own]; exact running) reservations, later_later]
    have stopped : attemptAllowed s.setting z c = false := by
      rw [attemptAllowed, own]
      obtain op | contact := barred
      · simp [op]
      · simp [contact]
    exact ((attempt_barred_reaches calm' stopped (by simp) [.fetchTrigger c]).trans (fetchTrigger_reaches calm' [])).settled
      (calm'.fetchTrigger c).work (by decide)
  · have claimless := unclaiming_alerted (read.unclaiming free) flags
    have reservations : z.reservations c = [] := (claimless.of_quiet same).reservations
    obtain ⟨y, quiet, idle, reaches⟩ := attemptThenFetch_reaches (after := .noticeIfGranted) same calm claimless active
      ⟨running, live⟩ stops hr (by simp)
    have noted' : Quiet (fetchTrigger (alerted (u.modCtx c (noted r)) flags) c) y := quiet
    obtain ⟨records, contexts, engine⟩ := readLeaves (t := { s with records := y.records })
      (read.modCtx (g := noted r) rfl) noted' rfl rfl
    refine ⟨_, done (by simp [running]) _ ?_, records, contexts, engine⟩
    rw [actOnRead_running ho (by rw [own]; exact running) reservations, later_later]
    exact reaches.settled idle (by decide)

/-! ## A route without a usable cut point (R85, R117, R118) -/

theorem actOnRead_uncut (started : (z.ctx c).state = .running ∨ (z.ctx c).state = .halting ∨ (z.ctx c).state = .stopped) :
    actOnRead e z c (.noUsableCut result) = rangeEnd e z c result := by
  obtain state | state | state := started <;> simp only [actOnRead, state]

/-- A route of which the front step's entry alone is held ends with it kept. -/
theorem rangeEnd_only {x d : Nat} (held : (z.ctx c).held = [{ cell := x, step := some (z.ctx c).front, distance := d }])
    (order : (z.ctx c).rear ≤ (z.ctx c).front) (result : RouteResult) :
    rangeEnd e z c result = z.later [.routeEndRest c result] := by
  refine routeEndKeeping_all (fun h listed => ?_) result
  rw [held, List.mem_singleton] at listed
  rw [listed]
  simp [Held.inside, order]

/-- A write-back queued at the end of a route stands behind what is left of the queue. -/
theorem queueAfterEnd_eq (q : List EngineRequest) (c : Nat) (a : Address) (result : RouteResult) (step used : Nat)
    (generation : Byte) : queueAfterEnd q c a result step used generation = q.filter (fun r => match r with
      | .fetch d _ => d != c
      | .writeBack _ _ _ _ _ _ => true) ++ [.writeBack c a result step used generation] := by
  rw [queueAfterEnd, List.filter_append]
  rfl

/-- The end of a started route that a read leaves without a usable cut point. -/
theorem uncutEnds_of_settled {i : Instr} (read : ReadRun s u c) (same : Quiet (alerted u flags) z)
    (done : (u.ctx c).state ≠ .vacant → ∀ r,
      settled s.setting ((actOnRead s.setting z c (.noUsableCut result)).later [.fetchTrigger c]) = some r →
      exec i s = .next { s with records := r }) : UncutEnds i s u c result flags := by
  intro x d a k k' started free held order routed
  have own : z.ctx c = k := same.ctx c
  have calm : Calm (alerted u flags) := ⟨read.calm.work, read.calm.deferring, read.calm.deferred⟩
  have calm' : Calm z := calm.of_quiet same
  have claimless : Unclaiming z c := (unclaiming_alerted (read.unclaiming free) flags).of_quiet same
  have enrolled : k.state ≠ .vacant := by obtain state | state | state := started <;> simp [state]
  have waiting : (z.ctx c).wait = none := claimless.wait
  obtain ⟨n, y, hn, quiet, reaches⟩ := routeEndRest_reaches (e := s.setting) calm' (by rw [own]; exact enrolled) waiting
    (fun _ => claimless) result [.fetchTrigger c]
  have ended : y.ctx c = routeEndedContext result k := by rw [quiet.ctx, routeEndedRun_ctx_self, own]
  have calm'' : Calm y := Calm.of_quiet (v := routeEndedRun z c result) ⟨calm'.work, calm'.deferring, calm'.deferred⟩ quiet
  have still : fetchTrigger y c = y := fetchTrigger_resting (by rw [ended]; exact .inr (.inr rfl))
  have fetches := fetchTrigger_reaches (e := s.setting) (c := c) calm'' []
  rw [still] at fetches
  have rest : settled s.setting ((actOnRead s.setting z c (.noUsableCut result)).later [.fetchTrigger c]) = some y.records := by
    rw [actOnRead_uncut (by rw [own]; exact started),
      rangeEnd_only (x := x) (d := d) (by rw [own]; exact held) (by rw [own]; exact order), later_later]
    exact (reaches.trans fetches).settled calm''.work (by omega)
  have alike : Records.sameTrack u.records (alerted u flags).records := ⟨rfl, rfl, rfl, rfl, rfl, rfl, rfl⟩
  have ending : Records.sameTrack z.records (routeEndedRun z c result).records := ⟨rfl, rfl, rfl, rfl, rfl, rfl, rfl⟩
  have track : Records.sameTrack u.records y.records :=
    sameTrack_trans (sameTrack_trans alike (sameTrack_of_quiet same)) (sameTrack_trans ending (sameTrack_of_quiet quiet))
  have links : z.records.links = u.records.links := (links_of_quiet same).trans rfl
  refine ⟨_, done enrolled _ rest, readRecords_of_leaves read track.2.2.2.2.1 track ?_ ?_ rfl, ?_, fun d' other => ?_, ?_⟩
  · exact (links_of_quiet quiet).trans links
  · refine (alerts_of_quiet quiet).trans ?_
    change z.records.alerts ||| AlertFlag.routeEnd.mask = _
    rw [alerts_of_quiet same, ← BitVec.or_assoc]
    rfl
  · rw [ctx_of_records rfl, ended, routeEndedContext, endRoute_only held]
    rfl
  · rw [ctx_of_records rfl, quiet.ctx, routeEndedRun_ctx_other _ other, same.ctx]
    exact read.others d' other
  · have reached : (z.ctx c).stepReached = k.front := by
      rw [own, Context.stepReached, if_neg (by obtain state | state | state := started <;> simp [state])]
    refine (engine_of_quiet quiet).trans ?_
    change routeEndedEngine z c result = _
    rw [routeEndedEngine_of_routed (a := a) (by rw [own]; exact routed), reached, own, engine_of_quiet same, queueAfterEnd_eq]
    rfl

/-- A context whose route is cut at a step (R117, R118). -/
def cutContext (j : Nat) (result : RouteResult) (k : Context) : Context :=
  { k.cutWindow j with cutPoint := some j, cutResult := some result }

/-- A route cut below a step (R117, R118). -/
theorem cutsBelow_of_settled {i : Instr} (read : ReadRun s u c) (same : Quiet (alerted u flags) z)
    (done : (u.ctx c).state ≠ .vacant → ∀ r,
      settled s.setting ((actOnRead s.setting (cutRoute s.setting z c f result).1 c (cutRoute s.setting z c f result).2).later
        [.fetchTrigger c]) = some r → exec i s = .next { s with records := r }) : CutsBelow i s u c f result flags := by
  have rights : SameRights u z := by
    obtain ⟨ctx, cell, corridor, gate, slot⟩ := quiet_sameRights same
    exact ⟨ctx, cell, corridor, gate, slot⟩
  refine ⟨fun j hj stands highest => ?_, fun nowhere => ?_⟩
  · have cut := cutPointBelow_of_highest rights hj stands highest
    have run : cutRoute s.setting z c f result = (z.modCtx c (cutContext j result), .cut) := by
      simp only [cutRoute, cut]
      rfl
    rw [run] at done
    have state : ((withCut u c j result).ctx c).state = (u.ctx c).state := by
      rw [withCut, Run.ctx_modCtx_self]
    have quiet : Quiet (alerted (u.modCtx c (cutContext j result)) flags) (z.modCtx c (cutContext j result)) :=
      quiet_modCtx same c (cutContext j result)
    exact readActsOn_of_settled (read.modCtx (g := cutContext j result) rfl) quiet (.inr rfl)
      (fun enrolled => done (by rw [← state]; exact enrolled))
  · have uncut := cutPointBelow_of_none (e := s.setting) rights nowhere
    have run : cutRoute s.setting z c f result = (z, .noUsableCut result) := by simp only [cutRoute, uncut]
    rw [run] at done
    exact uncutEnds_of_settled read same done

end

end Sys2Proof.Proofs
end

section
/-! Completed reads (R84, R105, R111, R117, R118): the steps a read brings, its bus faults, and a route's first page. -/

namespace Sys2Proof.Proofs

open Sys2Proof.Machine Sys2Proof.Laws

/-! ## The steps of an accepted read (R117) -/

section
variable {e : Setting} {v : Run} {c n : Nat}

/-- A context whose fault step is the next step to fetch. -/
def faultedContext (k : Context) : Context := { k with faultStep := some k.nextStep }

/-- A read whose steps are valid up to the step count appends them (R117). -/
theorem useSteps_valid {steps rest : List Slot} {ws : List Validation} (count : (v.ctx c).stepCount = some n)
    (taken : StepsTaken e v c n steps ws) (room : (v.ctx c).nextStep + steps.length ≤ n) (any : steps ≠ [])
    (whole : rest = [] ∨ n ≤ (v.ctx c).nextStep + steps.length) :
    ∃ z, Quiet (withSteps v c steps ws) z ∧ useSteps e v c (steps ++ rest) = actOnRead e z c .appended := by
  obtain ⟨z, quiet, appends⟩ := appendSteps_taken taken room rest
  have next : (z.ctx c).nextStep = (v.ctx c).nextStep + steps.length := by
    rw [quiet.ctx, withSteps_ctx_self]
    rfl
  have ends : appendSteps e c n z rest = (z, none) := by
    cases rest with
    | nil => rfl
    | cons s rest =>
      have full : n ≤ (z.ctx c).nextStep := by
        rw [next]
        simpa using whole
      rw [appendSteps, if_pos full]
  have grows : ¬(z.ctx c).nextStep = (v.ctx c).nextStep := by
    have := List.length_pos_iff.mpr any
    omega
  refine ⟨z, quiet, ?_⟩
  simp only [useSteps, count, Option.getD_some, appends, ends, if_neg grows]

/-- A read with an invalid step after step 0 appends what comes before it and cuts the route (R117). -/
theorem useSteps_invalid {valid rest : List Slot} {bad : Slot} {ws : List Validation} (count : (v.ctx c).stepCount = some n)
    (taken : StepsTaken e v c n valid ws) (room : (v.ctx c).nextStep + valid.length < n)
    (later : (v.ctx c).nextStep + valid.length ≠ 0)
    (invalid : validateStep e (withSteps v c valid ws) c ((v.ctx c).nextStep + valid.length) n bad = none) :
    ∃ z, Quiet (alerted ((withSteps v c valid ws).modCtx c faultedContext) AlertFlag.routeFault.mask) z ∧
      useSteps e v c (valid ++ bad :: rest) =
        actOnRead e (cutRoute e z c ((v.ctx c).nextStep + valid.length) .stepFault).1 c
          (cutRoute e z c ((v.ctx c).nextStep + valid.length) .stepFault).2 := by
  obtain ⟨z, quiet, appends⟩ := appendSteps_taken taken (by omega) (bad :: rest)
  have next : (z.ctx c).nextStep = (v.ctx c).nextStep + valid.length := by
    rw [quiet.ctx, withSteps_ctx_self]
    rfl
  have ends : appendSteps e c n z (bad :: rest) = (z, some ((v.ctx c).nextStep + valid.length)) := by
    have fails : validateStep e z c ((v.ctx c).nextStep + valid.length) n bad = none :=
      (validateStep_of_quiet quiet).trans invalid
    rw [appendSteps, next, if_neg (by omega), fails]
  have faulted : z.modCtx c (fun k => { k with faultStep := some ((v.ctx c).nextStep + valid.length) }) =
      z.modCtx c faultedContext := by
    refine modCtx_congr z c ?_
    rw [← next]
    rfl
  refine ⟨(z.modCtx c faultedContext).raise .routeFault, quiet_alerted (quiet_modCtx quiet c faultedContext) _, ?_⟩
  simp only [useSteps, count, Option.getD_some, appends, ends, if_neg later, faulted]

/-- A bus fault after step 0 cuts the route (R118). -/
theorem busFault_later (later : (v.ctx c).nextStep ≠ 0) : busFault e v c =
    actOnRead e (cutRoute e (v.raise .bus) c (v.ctx c).nextStep .bus).1 c
      (cutRoute e (v.raise .bus) c (v.ctx c).nextStep .bus).2 := by
  have same : ((v.raise .bus).ctx c).nextStep = (v.ctx c).nextStep := rfl
  simp only [busFault, same, if_neg later]

end

/-! ## The end of a read (R111, R114) -/

section
variable {s : State} {f : ReadInFlight} {i : Instr}

/-- The run of a part whose read is over. -/
def readOver (s : State) : Run := s.run.setEngine { s.records.engine with inFlight := none, timer := none, due := false }

theorem readRun_readOver (s : State) (c : Nat) : ReadRun s (readOver s) c :=
  ⟨rfl, ⟨rfl, rfl, rfl⟩, rfl, fun _ _ => rfl⟩

theorem endRead_accepted (generation : (s.ctx f.carrier).generation = f.generation)
    (routed : (s.ctx f.carrier).routeAddr.isSome = true) (enrolled : (s.ctx f.carrier).state ≠ .vacant)
    (data : Option (List Byte)) : endRead s.setting s.run f data =
      (match data with
        | some d => useData s.setting (readOver s) f.carrier f.first d
        | none => busFault s.setting (readOver s) f.carrier).later [.fetchTrigger f.carrier] := by
  have accepted : readAccepted (readOver s) f = true := by
    change ((s.ctx f.carrier).state != .vacant && (s.ctx f.carrier).generation == f.generation &&
      (s.ctx f.carrier).routeAddr.isSome) = true
    simp [generation, routed, enrolled]
  change (if readAccepted (readOver s) f = true then _ else _ : Run).later _ = _
  rw [if_pos accepted]
  rfl

/-- The last data of a read (R111). -/
theorem readCompletion_of_settled {data : List Byte} {r : Records} (hs : s.inService)
    (flight : s.records.engine.inFlight = some f) (perst : s.records.engine.perst = false)
    (full : f.length ≤ f.received.length + data.length)
    (h : settled s.setting (endRead s.setting s.run f (some ((f.received ++ data).take f.length))) = some r) :
    exec (.readCompletion f.number .good data) s = .next { s with records := r } := by
  refine runEvent_of_settled (f := fun e v => completionArrives e v f.number .good data) hs ?_
  have arrives : completionArrives s.setting s.run f.number .good data =
      endRead s.setting s.run f (some ((f.received ++ data).take f.length)) := by
    have flight' : s.run.records.engine.inFlight = some f := flight
    have perst' : s.run.records.engine.perst = false := perst
    simp only [completionArrives, flight', perst', bne_self_eq_false, Bool.or_self, Bool.false_eq_true, if_false,
      List.length_append, if_pos full]
  rw [arrives]
  exact h

/-- A read that fails (R111, R118). -/
theorem readFails_of_settled {r : Records} (hs : s.inService) (flight : s.records.engine.inFlight = some f)
    (perst : s.records.engine.perst = false) (fails : i = .readTimerExpiry ∧ s.records.engine.due = true ∨
      (∃ data, i = .readCompletion f.number .aborted data ∨ i = .readCompletion f.number .poisoned data))
    (h : settled s.setting (endRead s.setting s.run f none) = some r) : exec i s = .next { s with records := r } := by
  have flight' : s.run.records.engine.inFlight = some f := flight
  have perst' : s.run.records.engine.perst = false := perst
  obtain ⟨rfl, due⟩ | ⟨data, rfl | rfl⟩ := fails
  · have due' : s.run.records.engine.due = true := due
    refine runEvent_of_settled (f := readTimerExpires) hs ?_
    simp only [readTimerExpires, flight', due', if_true]
    exact h
  · refine runEvent_of_settled (f := fun e v => completionArrives e v f.number .aborted data) hs ?_
    simp only [completionArrives, flight', perst', bne_self_eq_false, Bool.or_self, Bool.false_eq_true, if_false]
    exact h
  · refine runEvent_of_settled (f := fun e v => completionArrives e v f.number .poisoned data) hs ?_
    simp only [completionArrives, flight', perst', bne_self_eq_false, Bool.or_self, Bool.false_eq_true, if_false]
    exact h

/-! ## Step reads (R117, R118) -/

/-- What a settled action of the carrier table on an accepted read leaves. -/
theorem exec_of_action {data : Option (List Byte)} {z : Run} (generation : (s.ctx f.carrier).generation = f.generation)
    (routed : (s.ctx f.carrier).routeAddr.isSome = true)
    (acts : (match data with
      | some d => useData s.setting (readOver s) f.carrier f.first d
      | none => busFault s.setting (readOver s) f.carrier) = z)
    (done : ∀ r, settled s.setting (endRead s.setting s.run f data) = some r → exec i s = .next { s with records := r })
    (enrolled : (s.ctx f.carrier).state ≠ .vacant) (r : Records) (rest : settled s.setting (z.later [.fetchTrigger f.carrier]) = some r) :
    exec i s = .next { s with records := r } := by
  refine done r ?_
  rw [endRead_accepted generation routed enrolled, acts]
  exact rest

theorem length_page {data : List Byte} (full : f.length ≤ f.received.length + data.length) :
    ((f.received ++ data).take f.length).length = f.length := by
  rw [List.length_take, List.length_append]
  omega

theorem useData_steps (e : Setting) (v : Run) (c : Nat) (data : List Byte) :
    useData e v c false data = useSteps e v c (decodeSteps (data.length / 8) data) := rfl

theorem state_withSteps (v : Run) (c : Nat) (steps : List Slot) (ws : List Validation) :
    ((withSteps v c steps ws).ctx c).state = (v.ctx c).state := by
  rw [withSteps_ctx_self]
  rfl

/-- A step read whose steps are valid (R117). -/
theorem stepRead_valid {n : Nat} {records : List Slot} {ws : List Validation} {data : Option (List Byte)}
    (generation : (s.ctx f.carrier).generation = f.generation) (routed : (s.ctx f.carrier).routeAddr.isSome = true)
    (count : (s.ctx f.carrier).stepCount = some n)
    (uses : (match data with
      | some d => useData s.setting (readOver s) f.carrier f.first d
      | none => busFault s.setting (readOver s) f.carrier) = useSteps s.setting (readOver s) f.carrier records)
    (done : ∀ r, settled s.setting (endRead s.setting s.run f data) = some r → exec i s = .next { s with records := r })
    (any : records ≠ []) (next : (s.ctx f.carrier).nextStep < n)
    (taken : StepsTaken s.setting (readOver s) f.carrier n (records.take (n - (s.ctx f.carrier).nextStep)) ws) :
    ReadActsOn i s (withSteps (readOver s) f.carrier (records.take (n - (s.ctx f.carrier).nextStep)) ws) f.carrier 0 := by
  have few : (records.take (n - (s.ctx f.carrier).nextStep)).length ≤ n - (s.ctx f.carrier).nextStep :=
    List.length_take_le ..
  obtain ⟨z, quiet, appends⟩ := useSteps_valid (v := readOver s) (rest := records.drop (n - (s.ctx f.carrier).nextStep)) count
    taken (by
      change (s.ctx f.carrier).nextStep + _ ≤ n
      omega) (by
      rw [ne_eq, List.take_eq_nil_iff]
      exact fun none => none.elim (by omega) any) (by
      rw [List.drop_eq_nil_iff, List.length_take]
      change records.length ≤ _ ∨ n ≤ (s.ctx f.carrier).nextStep + _
      omega)
  rw [List.take_append_drop] at appends
  refine readActsOn_of_settled (o := .appended) ((readRun_readOver s f.carrier).withSteps _ ws)
    ((quiet_alerted_zero _).trans quiet) (.inl rfl) (fun enrolled => ?_)
  rw [state_withSteps] at enrolled
  exact exec_of_action generation routed (uses.trans appends) done enrolled

/-- A step read with an invalid step after step 0 (R117). -/
theorem stepRead_invalid {n : Nat} {valid rest : List Slot} {bad : Slot} {ws : List Validation} {data : Option (List Byte)}
    (generation : (s.ctx f.carrier).generation = f.generation) (routed : (s.ctx f.carrier).routeAddr.isSome = true)
    (count : (s.ctx f.carrier).stepCount = some n)
    (uses : (match data with
      | some d => useData s.setting (readOver s) f.carrier f.first d
      | none => busFault s.setting (readOver s) f.carrier) = useSteps s.setting (readOver s) f.carrier (valid ++ bad :: rest))
    (done : ∀ r, settled s.setting (endRead s.setting s.run f data) = some r → exec i s = .next { s with records := r })
    (room : (s.ctx f.carrier).nextStep + valid.length < n) (later : (s.ctx f.carrier).nextStep + valid.length ≠ 0)
    (taken : StepsTaken s.setting (readOver s) f.carrier n valid ws)
    (invalid : validateStep s.setting (withSteps (readOver s) f.carrier valid ws) f.carrier
      ((s.ctx f.carrier).nextStep + valid.length) n bad = none) :
    CutsBelow i s ((withSteps (readOver s) f.carrier valid ws).modCtx f.carrier faultedContext) f.carrier
      ((s.ctx f.carrier).nextStep + valid.length) .stepFault AlertFlag.routeFault.mask := by
  obtain ⟨z, quiet, appends⟩ := useSteps_invalid (v := readOver s) (rest := rest) count taken room later invalid
  have read := ((readRun_readOver s f.carrier).withSteps valid ws).modCtx (g := faultedContext) rfl
  refine cutsBelow_of_settled read quiet (fun enrolled => ?_)
  rw [Run.ctx_modCtx_self] at enrolled
  change ((withSteps (readOver s) f.carrier valid ws).ctx f.carrier).state ≠ _ at enrolled
  rw [state_withSteps] at enrolled
  exact exec_of_action generation routed (uses.trans appends) done enrolled

/-- A bus fault after step 0 (R118). -/
theorem stepRead_fails (generation : (s.ctx f.carrier).generation = f.generation)
    (routed : (s.ctx f.carrier).routeAddr.isSome = true) (later : (s.ctx f.carrier).nextStep ≠ 0)
    (done : ∀ r, settled s.setting (endRead s.setting s.run f none) = some r → exec i s = .next { s with records := r }) :
    CutsBelow i s (readOver s) f.carrier (s.ctx f.carrier).nextStep .bus AlertFlag.bus.mask := by
  have raised : Quiet (alerted (readOver s) AlertFlag.bus.mask) ((readOver s).raise .bus) := .refl _
  exact cutsBelow_of_settled (readRun_readOver s f.carrier) raised
    (fun enrolled => exec_of_action (data := none) generation routed (busFault_later later) done enrolled)

end

end Sys2Proof.Proofs
end

section
/-! The first page of a route (R43, R84, R105): the header stored, its steps appended and the route started. -/

namespace Sys2Proof.Proofs

open Sys2Proof.Machine Sys2Proof.Laws

section
variable {s : State} {e : Setting} {v u z : Run} {f : ReadInFlight} {c n : Nat} {page : List Byte} {r : Reason}

/-- A context with the header's fields (R105). -/
def headedContext (page : List Byte) (k : Context) : Context :=
  { k with stepCount := some (field page 2 2), routeTag := some (BitVec.ofNat 32 (field page 4 4)) }

/-- The context of a LIVE carrier whose route has started in ACTIVE (R43, R84). -/
def startedContext (k : Context) : Context :=
  { k with
    state := .running, front := 0, rear := 0, grantMark := 1, holdLifted := false, blockReason := none
    held := k.held.map (fun h => if h.step = none ∧ h.cell = k.frontCell then { h with step := some 0 } else h) }

theorem startedContext_eq (k : Context) : startedContext k = { k.startRoute with state := .running } := by
  have held : k.held.map (fun h => if h.step = none ∧ h.cell = k.frontCell then { h with step := some 0 } else h) =
      k.startRoute.held := List.map_congr_left (fun h _ => by simp)
  rw [startedContext, held]
  rfl

/-- The start of a route in ACTIVE, of a LIVE carrier (R84). -/
theorem routeStart_active (op : e.op = .active) (live : (v.ctx c).contact = .live) : routeStart e v c =
    ((v.modCtx c Context.startRoute).modCtx c (fun k => { k with state := .running })).later [.attempt c .noticeAlways] := by
  have contact : ((v.modCtx c Context.startRoute).ctx c).contact = .live := by
    rw [Run.ctx_modCtx_self]
    exact live
  simp only [routeStart, contact, op]

theorem quiet_startRoute (h : Quiet u z) (c : Nat) : Quiet (u.modCtx c startedContext)
    ((z.modCtx c Context.startRoute).modCtx c (fun k => { k with state := .running })) :=
  (quiet_modCtx h c startedContext).trans (quiet_modCtx_modCtx z c (startedContext_eq _))

theorem useData_page (h : headerValid page = true) (e : Setting) (v : Run) (c : Nat) : useData e v c true page =
    useSteps e (v.modCtx c (headedContext page)) c (decodeSteps ((page.length - 16) / 8) (page.drop 16)) := by
  simp only [useData, h, if_true]
  rfl

theorem headerValid_iff (page : List Byte) :
    headerValid page = true ↔ field page 0 2 = 0x5A31 ∧ 1 ≤ field page 2 2 ∧ field page 2 2 ≤ 1023 := by
  simp [headerValid, and_assoc]

/-- The run of a part whose read is over and whose header is stored. -/
def headedRun (s : State) (c : Nat) (page : List Byte) : Run := (readOver s).modCtx c (headedContext page)

/-- The run of a part that has taken a first page with the step records `steps` (R84). -/
def startedRun (s : State) (c : Nat) (page : List Byte) (steps : List Slot) (ws : List Validation) : Run :=
  (withSteps (headedRun s c page) c steps ws).modCtx c startedContext

theorem startedRun_ctx_self (s : State) (c : Nat) (page : List Byte) (steps : List Slot) (ws : List Validation) :
    (startedRun s c page steps ws).ctx c =
      startedContext (appendedContext steps.length ws (headedContext page (s.ctx c))) := by
  rw [startedRun, Run.ctx_modCtx_self, withSteps_ctx_self, headedRun, Run.ctx_modCtx_self]
  rfl

theorem readRun_startedRun (s : State) (c : Nat) (page : List Byte) (steps : List Slot) (ws : List Validation) :
    ReadRun s (startedRun s c page steps ws) c :=
  (((readRun_readOver s c).modCtx (g := headedContext page) rfl).withSteps steps ws).modCtx (g := startedContext) rfl

/-- What a taken first page leaves whose attempt meets a stop test other than lane order (R43, R61, R84, R110). -/
structure PageTaken (s t : State) (u : Run) (c : Nat) (r : Reason) : Prop where
  ctx : ∀ d, t.ctx d = (u.modCtx c (noted r)).ctx d
  slots : ∀ m, Table.at t.records.slots Slot.blank m = u.slot m
  cells : t.records.cells = s.records.cells
  gates : t.records.gates = s.records.gates
  corridors : t.records.corridors = s.records.corridors
  links : t.records.links = (send s.run c (authNotice s.setting (u.modCtx c (noted r)) c)).records.links
  alerts : t.records.alerts = (send s.run c (authNotice s.setting (u.modCtx c (noted r)) c)).records.alerts
  engine : t.records.engine = (fetchTrigger (u.modCtx c (noted r)) c).records.engine
  setting : t.setting = s.setting

/-- The first page of a LIVE carrier that waits for nothing, in ACTIVE (R43, R84, R105). -/
theorem firstPage_taken {data : List Byte} {steps : List Slot} {ws : List Validation} (hs : s.inService)
    (active : s.setting.op = .active) (flight : s.records.engine.inFlight = some f) (perst : s.records.engine.perst = false)
    (first : f.first = true) (full : f.length ≤ f.received.length + data.length)
    (hpage : page = (f.received ++ data).take f.length) (marker : field page 0 2 = 0x5A31) (low : 1 ≤ field page 2 2)
    (high : field page 2 2 ≤ 1023)
    (hsteps : steps = (decodeSteps ((f.length - 16) / 8) (page.drop 16)).take (field page 2 2)) (any : steps ≠ [])
    (taken : StepsTaken s.setting (headedRun s f.carrier page) f.carrier (field page 2 2) steps ws)
    (attached : (s.ctx f.carrier).state = .attached) (live : (s.ctx f.carrier).contact = .live)
    (generation : (s.ctx f.carrier).generation = f.generation) (routed : (s.ctx f.carrier).routeAddr.isSome = true)
    (start : (s.ctx f.carrier).nextStep = 0) (free : s.claimsNothing f.carrier)
    (stops : stopTest s.setting (startedRun s f.carrier page steps ws) f.carrier = some r) (hr : r ≠ .order) :
    ∃ t, exec (.readCompletion f.number .good data) s = .next t ∧
      PageTaken s t (startedRun s f.carrier page steps ws) f.carrier r := by
  have length : page.length = f.length := by
    rw [hpage]
    exact length_page full
  have count : ((headedRun s f.carrier page).ctx f.carrier).stepCount = some (field page 2 2) := by
    rw [headedRun, Run.ctx_modCtx_self]
    rfl
  have next : ((headedRun s f.carrier page).ctx f.carrier).nextStep = 0 := by
    rw [headedRun, Run.ctx_modCtx_self]
    exact start
  obtain ⟨z, quiet, appends⟩ := useSteps_valid
    (rest := (decodeSteps ((f.length - 16) / 8) (page.drop 16)).drop (field page 2 2)) count taken
    (by rw [next, hsteps, Nat.zero_add]; exact List.length_take_le ..) any (by
      rw [List.drop_eq_nil_iff, next, hsteps, List.length_take]
      omega)
  rw [hsteps, List.take_append_drop] at appends
  have own : z.ctx f.carrier = appendedContext steps.length ws (headedContext page (s.ctx f.carrier)) := by
    rw [quiet.ctx, withSteps_ctx_self, headedRun, Run.ctx_modCtx_self]
    rfl
  have acts : useData s.setting (readOver s) f.carrier f.first page = ((z.modCtx f.carrier Context.startRoute).modCtx f.carrier
      (fun k => { k with state := .running })).later [.attempt f.carrier .noticeAlways] := by
    have state : (z.ctx f.carrier).state = .attached := by
      rw [own]
      exact attached
    have contact : (z.ctx f.carrier).contact = .live := by
      rw [own]
      exact live
    rw [first, useData_page ((headerValid_iff page).mpr ⟨marker, low, high⟩), length]
    refine appends.trans ?_
    rw [← routeStart_active active contact]
    simp only [actOnRead, state]
  have read := readRun_startedRun s f.carrier page steps ws
  have runs : ((startedRun s f.carrier page steps ws).ctx f.carrier).runsLive := by
    rw [startedRun_ctx_self]
    exact ⟨rfl, live⟩
  have begun : Quiet (startedRun s f.carrier page steps ws) ((z.modCtx f.carrier Context.startRoute).modCtx f.carrier
      (fun k => { k with state := .running })) := quiet_startRoute quiet f.carrier
  obtain ⟨y, told, idle, reaches⟩ := attemptThenFetch_reaches (after := .noticeAlways) begun read.calm
    (read.unclaiming free) active runs stops hr (by simp)
  obtain ⟨contexts, ⟨cells, -, corridors, gates, slots, -, -⟩, links, alerts, engine⟩ := fetchTrigger_send_leaves told
  have home : (((startedRun s f.carrier page steps ws).modCtx f.carrier (noted r)).ctx f.carrier).homeLink =
      (s.run.ctx f.carrier).homeLink := by
    rw [Run.ctx_modCtx_self, startedRun_ctx_self]
    rfl
  have records := (read.modCtx (g := noted r) rfl).records
  have sent := send_congr (u := (startedRun s f.carrier page steps ws).modCtx f.carrier (noted r)) (v := s.run) home
    (by rw [records]; rfl) (by rw [records]; rfl)
    (authNotice s.setting ((startedRun s f.carrier page steps ws).modCtx f.carrier (noted r)) f.carrier)
  refine ⟨{ s with records := y.records }, ?_, fun d => ?_, fun m => ?_, ?_, ?_, ?_, links.trans sent.1, alerts.trans sent.2, engine,
    rfl⟩
  · refine exec_of_action (data := some page) generation routed acts
      (fun r rest => readCompletion_of_settled hs flight perst full (by rw [← hpage]; exact rest)) (by simp [attached]) _ ?_
    rw [later_later]
    exact reaches.settled idle (by decide)
  · rw [ctx_of_records rfl]
    exact contexts d
  · rw [slots]
    rfl
  · rw [cells, records]
  · rw [gates, records]
  · rw [corridors, records]

/-! ## A page of one step (R84, R115) -/

theorem stepsTaken_single {a : Slot} {w : Validation} (h : validateStep e v c (v.ctx c).nextStep n a = some w) :
    StepsTaken e v c n [a] [w] := by
  refine ⟨rfl, fun j b hb => ?_⟩
  cases j with
  | succ j => simp at hb
  | zero =>
    obtain rfl : a = b := by simpa using hb
    refine Eq.trans ?_ h
    refine validateStep_congr ?_ ?_ (fun _ => rfl)
    · rw [Run.ctx_modCtx_self]
    · rw [Run.ctx_modCtx_self, if_pos rfl]

/-- A step 0 that is also the last, on a standing front cell outside every corridor, is valid (R115). -/
theorem validateStep_only {a : Slot} (front : a.cell = (v.ctx c).frontCell) (last : a.last = true)
    (standing : e.map.standing a.cell = true) (outside : e.map.corridorOf a.cell = none) :
    ∃ w, validateStep e v c 0 1 a = some w := by
  have known : ∃ q, Table.find e.map.cells a.cell = some q := by
    cases found : Table.find e.map.cells a.cell with
    | some q => exact ⟨q, rfl⟩
    | none => simp [MapStore.standing, MapStore.kindOf, found] at standing
  have stands : stepStands e.map 0 1 a = true := (stepStands_iff ..).mpr
    ⟨known, fun _ => standing, by simp [last], fun _ => ⟨standing, outside⟩⟩
  exact ⟨_, by rw [validateStep_zero, if_pos (by simp [stands, front])]⟩

/-- A carrier whose route is granted to its end meets the first or the second stop test (R48). -/
theorem stopTest_atRouteEnd (ends : (v.ctx c).atRouteEnd = true) :
    stopTest e v c = some .none ∨ stopTest e v c = some .routeEnd := by
  by_cases far : requiredDistance (e.map.classOf (v.ctx c)) (v.ctx c).requested ≤ (v.ctx c).granted
  · exact .inl (if_pos far)
  · exact .inr ((if_neg far).trans (if_pos ends))

theorem engine_startedRun (s : State) (c : Nat) (page : List Byte) (steps : List Slot) (ws : List Validation) :
    (startedRun s c page steps ws).records.engine =
      { s.records.engine with inFlight := none, timer := none, due := false } := by
  obtain ⟨slots, carriers, appended⟩ := withSteps_records (headedRun s c page) c steps ws
  rw [startedRun, appended]
  rfl

/-- No fetch is asked for once every step of a route is in its window (R110). -/
theorem fetchTrigger_complete (count : (v.ctx c).stepCount = some n) (all : n ≤ (v.ctx c).nextStep) : fetchTrigger v c = v := by
  refine if_neg ?_
  have short : ¬(v.ctx c).nextStep < n := by omega
  simp [fetchWanted, count, short]

theorem sameRights_of_pageTaken {t : State} (h : PageTaken s t u c r) (read : ReadRun s u c) :
    SameRights (u.modCtx c (noted r)) t.run := by
  refine ⟨fun d => ⟨((u.modCtx c (noted r)).ctx d).wait, ?_⟩, fun x => ⟨(u.cell x).queue, ?_⟩, fun k => ?_, fun g => ?_, fun m => ?_⟩
  · exact h.ctx d
  · rw [Run.cell_modCtx, Run.cell, Run.cell, read.records]
    exact congrArg (Table.at · CellRun.free x) h.cells
  · rw [Run.corridor_modCtx, Run.corridor, Run.corridor, read.records]
    exact congrArg (Table.at · CorridorRun.idle k) h.corridors
  · rw [Run.gate_modCtx, Run.gate, Run.gate, read.records]
    exact congrArg (Table.find · g) h.gates
  · exact h.slots m

/-- The slot of the only step of a page. -/
theorem slot_startedRun_only {a : Slot} {w : Validation} (start : (s.ctx c).nextStep = 0) :
    (startedRun s c page [a] [w]).slot (s.ctx c).windowBase = a := by
  have own : (headedRun s c page).ctx c = headedContext page (s.ctx c) := Run.ctx_modCtx_self ..
  rw [startedRun, Run.slot_modCtx, withSteps_eq, Run.slot_modCtx, own]
  change ((headedRun s c page).setSlot ((s.ctx c).windowBase + (s.ctx c).nextStep % (s.ctx c).windowSize) a).slot _ = a
  rw [start, Nat.zero_mod, Nat.add_zero, Run.slot_setSlot_self]

/-- The context of a carrier that has taken a page of one step with the record `w`. -/
def onlyContext (page : List Byte) (w : Validation) (k : Context) : Context :=
  { startedContext (headedContext page k) with windowCount := 1, nextStep := 1, validation := some w }

theorem startedRun_ctx_only {a : Slot} {w : Validation} (start : (s.ctx c).nextStep = 0) (window : (s.ctx c).windowCount = 0) :
    (startedRun s c page [a] [w]).ctx c = onlyContext page w (s.ctx c) := by
  rw [startedRun_ctx_self]
  simp only [onlyContext, appendedContext, startedContext, headedContext, start, window, List.length_singleton, List.getLast?_singleton,
    Option.some_or]

/-- The first page of a route that is one step on the carrier's front cell (R84). -/
theorem onlyStep_taken {data : List Byte} (hs : s.inService) (active : s.setting.op = .active)
    (flight : s.records.engine.inFlight = some f) (perst : s.records.engine.perst = false) (first : f.first = true)
    (length : f.length = 24) (fresh : f.received = []) (len : data.length = 24) (marker : field data 0 2 = 0x5A31)
    (count : field data 2 2 = 1) (front : (decodeStep (data.drop 16)).cell = (s.ctx f.carrier).frontCell)
    (last : (decodeStep (data.drop 16)).last = true) (standing : s.setting.map.standing (s.ctx f.carrier).frontCell = true)
    (outside : s.setting.map.corridorOf (s.ctx f.carrier).frontCell = none) (attached : (s.ctx f.carrier).state = .attached)
    (live : (s.ctx f.carrier).contact = .live) (generation : (s.ctx f.carrier).generation = f.generation)
    (routed : (s.ctx f.carrier).routeAddr.isSome = true) (start : (s.ctx f.carrier).nextStep = 0)
    (window : (s.ctx f.carrier).windowCount = 0) (free : s.claimsNothing f.carrier) :
    ∃ t w r, exec (.readCompletion f.number .good data) s = .next t ∧ (r = .none ∨ r = .routeEnd) ∧
      PageTaken s t (startedRun s f.carrier data [decodeStep (data.drop 16)] [w]) f.carrier r := by
  have whole : data = (f.received ++ data).take f.length := by
    rw [fresh, List.nil_append, List.take_of_length_le (by omega)]
  have steps : [decodeStep (data.drop 16)] = (decodeSteps ((f.length - 16) / 8) (data.drop 16)).take (field data 2 2) := by
    rw [length, count]
    rfl
  have own : (headedRun s f.carrier data).ctx f.carrier = headedContext data (s.ctx f.carrier) := Run.ctx_modCtx_self ..
  obtain ⟨w, valid⟩ := validateStep_only (e := s.setting) (v := headedRun s f.carrier data) (c := f.carrier)
    (by rw [own]; exact front) last (by rw [front]; exact standing) (by rw [front]; exact outside)
  have taken : StepsTaken s.setting (headedRun s f.carrier data) f.carrier (field data 2 2) [decodeStep (data.drop 16)] [w] := by
    rw [count]
    refine stepsTaken_single ?_
    have zero : ((headedRun s f.carrier data).ctx f.carrier).nextStep = 0 := by
      rw [own]
      exact start
    rw [zero]
    exact valid
  have ends : ((startedRun s f.carrier data [decodeStep (data.drop 16)] [w]).ctx f.carrier).atRouteEnd = true := by
    rw [startedRun_ctx_only start window]
    simp [Context.atRouteEnd, onlyContext, startedContext, headedContext, count]
  have page (r : Reason) (stops : stopTest s.setting (startedRun s f.carrier data [decodeStep (data.drop 16)] [w]) f.carrier =
      some r) (hr : r ≠ .order) := firstPage_taken hs active flight perst first (by rw [length, fresh, len]; decide) whole marker
    (by rw [count]) (by rw [count]; decide) steps (by simp) taken attached live generation routed start free stops hr
  obtain stops | stops := stopTest_atRouteEnd (e := s.setting) ends
  · obtain ⟨t, exec, taking⟩ := page _ stops (by simp)
    exact ⟨t, w, .none, exec, .inl rfl, taking⟩
  · obtain ⟨t, exec, taking⟩ := page _ stops (by simp)
    exact ⟨t, w, .routeEnd, exec, .inr rfl, taking⟩

/-- What the page of one step leaves of its carrier's context and of the engine. -/
theorem onlyStep_leaves {t : State} {a : Slot} {w : Validation} (count : field page 2 2 = 1) (start : (s.ctx c).nextStep = 0)
    (window : (s.ctx c).windowCount = 0) (h : PageTaken s t (startedRun s c page [a] [w]) c r) :
    t.ctx c = noted r (onlyContext page w (s.ctx c)) ∧
      t.records.engine = { s.records.engine with inFlight := none, timer := none, due := false } := by
  have own : ((startedRun s c page [a] [w]).modCtx c (noted r)).ctx c = noted r (onlyContext page w (s.ctx c)) := by
    rw [Run.ctx_modCtx_self, startedRun_ctx_only start window]
  refine ⟨(h.ctx c).trans own, ?_⟩
  rw [h.engine, fetchTrigger_complete (n := 1)]
  · exact engine_startedRun s c page [a] [w]
  · rw [own]
    exact congrArg some count
  · rw [own]
    exact le_refl 1

theorem held_onlyContext {k : Context} {h : Held} {w : Validation} (held : k.held = [h]) (here : h.cell = k.frontCell)
    (resting : h.step = none) : (onlyContext page w k).held = [{ h with step := some 0 }] := by
  change k.held.map (fun h => if h.step = none ∧ h.cell = k.frontCell then { h with step := some 0 } else h) = _
  rw [held, List.map_singleton, if_pos ⟨resting, here⟩]

/-! ## The obligation -/

/-- Settles O48: steps are validated as R115 and R116 say; a read's steps are appended one by one and the carrier table acts on
what they come to; a route's first page starts it, and a page of one step is one. -/
theorem firstPageStartsRoute : Obligations.FirstPageStartsRoute := by
  unfold Obligations.FirstPageStartsRoute
  refine ⟨stepsAreValidated, fun f n s hs flight perst step generation routed count => ?_,
    fun f data n ws r s hs active flight perst first full => ?_, fun f data h s hs active flight perst first length fresh len => ?_⟩
  · refine ⟨fun data full => ?_, fun later i fails => stepRead_fails generation routed later (fun r rest =>
      readFails_of_settled hs flight perst fails rest)⟩
    have uses : useData s.setting (readOver s) f.carrier f.first ((f.received ++ data).take f.length) =
        useSteps s.setting (readOver s) f.carrier (decodeSteps (f.length / 8) ((f.received ++ data).take f.length)) := by
      rw [step, useData_steps, length_page full]
    have done (r : Records) := readCompletion_of_settled (r := r) hs flight perst full
    refine ⟨fun ws any next _ taken => ?_, fun valid bad rest ws split room later _ taken invalid => ?_⟩
    · exact stepRead_valid (data := some _) generation routed count uses done any next taken
    · rw [split] at uses
      exact stepRead_invalid (data := some _) generation routed count uses done room later taken invalid
  · intro c k page records v u w marker hn low high any _ taken attached live generation routed start free stops hr
    subst hn
    have same : u = startedRun s c page records ws := rfl
    have told : w = (startedRun s c page records ws).modCtx c (noted r) := rfl
    rw [same] at stops
    obtain ⟨t, exec, taking⟩ : ∃ t, exec (.readCompletion f.number .good data) s = .next t ∧
        PageTaken s t (startedRun s c page records ws) c r := firstPage_taken hs active flight perst first full rfl marker low high rfl any taken attached
      live generation routed start free stops hr
    rw [told, same]
    exact ⟨t, exec, taking.ctx, taking.slots, taking.cells, taking.gates,
      taking.corridors, taking.links, taking.alerts, taking.engine, taking.setting⟩
  · intro c k marker count front last standing outside attached live generation routed start window size cut free held here
      resting
    obtain ⟨t, w, r, exec, hr, taking⟩ := onlyStep_taken hs active flight perst first length fresh len marker count front last
      standing outside attached live generation routed start window free
    obtain ⟨own, complete⟩ := onlyStep_leaves count start window taking
    have notice := (sameRights_of_pageTaken taking (readRun_startedRun ..)).authNotice s.setting c
    have reasons : (t.ctx c).blockReason = some .none ∨ (t.ctx c).blockReason = some .routeEnd := by
      rw [own]
      exact hr.imp (congrArg some) (congrArg some)
    have entry : (t.ctx c).held = [{ h with step := some 0 }] :=
      (congrArg Context.held own).trans (held_onlyContext (w := w) held here resting)
    have steps : (t.ctx c).stepCount = some 1 := (congrArg Context.stepCount own).trans (congrArg some count)
    refine ⟨t, exec, congrArg Context.state own, entry, congrArg Context.front own, congrArg Context.rear own,
      congrArg Context.grantMark own, steps, congrArg Context.nextStep own, congrArg Context.windowCount own,
      congrArg Context.routeTag own, reasons, ?_, fun d other => ?_, taking.cells, taking.gates, taking.corridors, ?_, ?_, ?_, ?_,
      taking.setting⟩
    · rw [taking.slots]
      exact slot_startedRun_only start
    · rw [taking.ctx, Run.ctx_modCtx_other _ _ other, (readRun_startedRun ..).others d other]
    · rw [complete]
    · rw [complete]
    · rw [taking.links, notice]
    · rw [taking.alerts, notice]

end

end Sys2Proof.Proofs
end

section
/-! Which work may enrol a carrier, retire one or re-number its route (O59): every operation but the last part of RETIRE
leaves each carrier's vacancy and generation as they are. Each operation has one lemma, in the order of the model's
files. -/

namespace Sys2Proof.Proofs

open Sys2Proof.Machine Sys2Proof.Laws

/-- Of every carrier: whether it is VACANT, the generation of its route, and whether the last part of its RETIRE is still to
be done (R82, R83, R99). -/
structure Roster where
  vacant : Nat → Prop
  generation : Nat → Byte
  retires : Nat → Prop

/-- The roster of a run. -/
def rosterOf (v : Run) : Roster :=
  { vacant := fun c => (v.ctx c).state = .vacant
    generation := fun c => (v.ctx c).generation
    retires := fun c => .retireRest c ∈ v.work }

section
variable {v u : Run} {c : Nat}

/-- The same contexts but for wait edges, and the same work. -/
theorem rosterOf_of_butEdge (ctx : ∀ x, (u.ctx x).butEdge = (v.ctx x).butEdge) (work : u.work = v.work) :
    rosterOf u = rosterOf v := by
  have vacant (x : Nat) : (u.ctx x).state = (v.ctx x).state :=
    show (u.ctx x).butEdge.state = (v.ctx x).butEdge.state from congrArg Context.state (ctx x)
  have generation (x : Nat) : (u.ctx x).generation = (v.ctx x).generation := generation_of_butEdge (ctx x)
  simp only [rosterOf, vacant, generation, work]

theorem rosterOf_of_edgesOnly (h : EdgesOnly v u) : rosterOf u = rosterOf v := rosterOf_of_butEdge h.ctx h.work

theorem rosterOf_of_causesOnly (h : CausesOnly v u) : rosterOf u = rosterOf v := rosterOf_of_butEdge h.ctx h.work

theorem vacant_of_rosterOf (h : rosterOf u = rosterOf v) (c : Nat) :
    (u.ctx c).state = .vacant ↔ (v.ctx c).state = .vacant := iff_of_eq (congrFun (congrArg Roster.vacant h) c)

end

section
variable (e : Setting) (v u : Run)

/-! ## Updates of one record -/

@[simp] theorem rosterOf_modCtx (c : Nat) (f : Context → Context)
    (state : (f (v.ctx c)).state = .vacant ↔ (v.ctx c).state = .vacant)
    (generation : (f (v.ctx c)).generation = (v.ctx c).generation) : rosterOf (v.modCtx c f) = rosterOf v := by
  have vacant (x : Nat) : ((v.modCtx c f).ctx x).state = .vacant ↔ (v.ctx x).state = .vacant := by
    by_cases same : x = c
    · subst same
      simpa using state
    · simp [same]
  have generations (x : Nat) : ((v.modCtx c f).ctx x).generation = (v.ctx x).generation := by
    by_cases same : x = c
    · subst same
      simpa using generation
    · simp [same]
  simp only [rosterOf, vacant, generations]
  rfl

@[simp] theorem rosterOf_later (ts : List Task) (h : ∀ d, .retireRest d ∉ ts) :
    rosterOf (v.later ts) = rosterOf v := by
  simp [rosterOf, h]

@[simp] theorem rosterOf_setCell (x : Nat) (r : CellRun) : rosterOf (v.setCell x r) = rosterOf v := rfl
@[simp] theorem rosterOf_setReservations (c : Nat) (l : List (Nat × Nat)) :
    rosterOf (v.setReservations c l) = rosterOf v := rfl
@[simp] theorem rosterOf_setSeniority (l : List Nat) : rosterOf (v.setSeniority l) = rosterOf v := rfl
@[simp] theorem rosterOf_setCorridor (k : Nat) (r : CorridorRun) : rosterOf (v.setCorridor k r) = rosterOf v := rfl
@[simp] theorem rosterOf_modGate (g : Nat) (f : GateRun → GateRun) : rosterOf (v.modGate g f) = rosterOf v := rfl
@[simp] theorem rosterOf_setSlot (n : Nat) (x : Slot) : rosterOf (v.setSlot n x) = rosterOf v := rfl
@[simp] theorem rosterOf_setEngine (g : Engine) : rosterOf (v.setEngine g) = rosterOf v := rfl
@[simp] theorem rosterOf_setLink (l : Nat) (k : Link) : rosterOf (v.setLink l k) = rosterOf v := rfl
@[simp] theorem rosterOf_raise (f : AlertFlag) : rosterOf (v.raise f) = rosterOf v := rfl
@[simp] theorem rosterOf_deferring (d : Bool) (l : List Nat) :
    rosterOf { v with deferring := d, deferred := l } = rosterOf v := rfl
@[simp] theorem rosterOf_opening (l : List Nat) : rosterOf { v with opening := l } = rosterOf v := rfl
@[simp] theorem rosterOf_modGate_opening (g : Nat) (f : GateRun → GateRun) (l : List Nat) :
    rosterOf { v with records := (v.modGate g f).records, opening := l } = rosterOf v := rfl

@[simp] theorem rosterOf_ite (p : Prop) [Decidable p] (a b : Run) :
    rosterOf (if p then a else b) = if p then rosterOf a else rosterOf b := apply_ite rosterOf p a b

@[simp] theorem rosterOf_foldl {α : Type} (f : Run → α → Run) (hf : ∀ v a, rosterOf (f v a) = rosterOf v)
    (l : List α) : rosterOf (l.foldl f v) = rosterOf v := by
  induction l generalizing v with
  | nil => rfl
  | cons a l ih => exact (ih (f v a)).trans (hf v a)

/-! ## Wait edges and recomputations (Chapter 8, R31) -/

@[simp] theorem rosterOf_retireMark (c : Nat) : rosterOf (v.retireMark c) = rosterOf v :=
  rosterOf_of_edgesOnly (retireMark_edgesOnly v c)
@[simp] theorem rosterOf_setEdge (c : Nat) (t : Option Nat) : rosterOf (setEdge e v c t) = rosterOf v :=
  rosterOf_of_edgesOnly (setEdge_edgesOnly e v c t)
@[simp] theorem rosterOf_changeEdge (c : Nat) (t : Option Nat) : rosterOf (changeEdge e v c t) = rosterOf v :=
  rosterOf_of_edgesOnly (changeEdge_edgesOnly e v c t)
@[simp] theorem rosterOf_clearWait (c : Nat) : rosterOf (clearWait e v c) = rosterOf v := by
  simp [clearWait]
@[simp] theorem rosterOf_recompute (x : Nat) : rosterOf (recompute e v x) = rosterOf v :=
  rosterOf_of_causesOnly (recompute_causesOnly e v x)
@[simp] theorem rosterOf_recomputeEnds (k : Nat) : rosterOf (recomputeEnds e v k) = rosterOf v :=
  rosterOf_of_causesOnly (recomputeEnds_causesOnly e v k)

/-! ## The gate unit (Chapter 7) -/

@[simp] theorem rosterOf_stopTimer (g : Nat) : rosterOf (v.stopTimer g) = rosterOf v := rfl
@[simp] theorem rosterOf_owe (g : Nat) : rosterOf (v.owe g) = rosterOf v := rfl
@[simp] theorem rosterOf_openDeferred : rosterOf (openDeferred v) = rosterOf v := by
  simp [openDeferred]

@[simp] theorem rosterOf_gateBusy (g : Nat) : rosterOf (gateBusy v g) = rosterOf v := by
  simp [gateBusy]

@[simp] theorem rosterOf_startHold (g : Nat) : rosterOf (startHold e v g) = rosterOf v := by
  unfold startHold
  split <;> simp

@[simp] theorem rosterOf_gateIdleCheck (g : Nat) : rosterOf (gateIdleCheck e v g) = rosterOf v := by
  simp [gateIdleCheck]

@[simp] theorem rosterOf_queueFilled (x : Nat) : rosterOf (queueFilled e v x) = rosterOf v := by
  unfold queueFilled
  split <;> simp

@[simp] theorem rosterOf_queueEmptied (x : Nat) : rosterOf (queueEmptied e v x) = rosterOf v := by
  unfold queueEmptied
  split <;> simp

@[simp] theorem rosterOf_gateReleased (g : Nat) : rosterOf (gateReleased e v g) = rosterOf v := by
  simp [gateReleased]

@[simp] theorem rosterOf_gateOpens (g : Nat) : rosterOf (gateOpens v g) = rosterOf v := by
  simp [gateOpens]

@[simp] theorem rosterOf_gateCalls (g : Nat) : rosterOf (gateCalls e v g) = rosterOf v := by
  simp [gateCalls]

@[simp] theorem rosterOf_gateCall (g : Nat) : rosterOf (gateCall e v g) = rosterOf v := by
  unfold gateCall
  repeat' split
  all_goals simp

@[simp] theorem rosterOf_gateOpened (g : Nat) : rosterOf (gateOpened e v g) = rosterOf v := by
  unfold gateOpened
  repeat' split
  all_goals simp

@[simp] theorem rosterOf_gateAfterOffer (g : Nat) : rosterOf (gateAfterOffer e v g) = rosterOf v := by
  simp [gateAfterOffer]

@[simp] theorem rosterOf_gateDrain (g : Nat) : rosterOf (gateDrain e v g) = rosterOf v := by
  simp [gateDrain]

@[simp] theorem rosterOf_gateShut (g : Nat) : rosterOf (gateShut v g) = rosterOf v := by
  simp [gateShut]

@[simp] theorem rosterOf_gateOwedPartner (g : Nat) : rosterOf (gateOwedPartner e v g) = rosterOf v := by
  unfold gateOwedPartner
  split <;> simp

@[simp] theorem rosterOf_gateOwedSelf (g : Nat) : rosterOf (gateOwedSelf e v g) = rosterOf v := by
  simp [gateOwedSelf]

@[simp] theorem rosterOf_gateFaults (g : Nat) : rosterOf (gateFaults e v g) = rosterOf v := by
  simp [gateFaults]

/-! ## Windows and links (R108, R110, Chapter 9) -/

@[simp] theorem rosterOf_fetchTrigger (c : Nat) : rosterOf (fetchTrigger v c) = rosterOf v := by
  simp [fetchTrigger]
@[simp] theorem rosterOf_freeWindow (c : Nat) : rosterOf (freeWindow v c) = rosterOf v := by
  refine rosterOf_modCtx v c _ ?_ ?_
  · split <;> rfl
  · split <;> rfl

@[simp] theorem rosterOf_placeOn (l : Nat) (m : Message) : rosterOf (placeOn v l m) = rosterOf v := by
  simp [placeOn]

@[simp] theorem rosterOf_send (c : Nat) (p : Payload) : rosterOf (send v c p) = rosterOf v := by
  unfold send
  split <;> simp

@[simp] theorem rosterOf_setHome (c l : Nat) : rosterOf (setHome v c l) = rosterOf v := by
  unfold setHome
  split <;> simp

@[simp] theorem rosterOf_removeMessages (c : Nat) : rosterOf (removeMessages v c) = rosterOf v := by
  exact rosterOf_foldl v _ (fun v l => rosterOf_setLink v l _) _

/-! ## The rights table and the corridor unit (Chapters 2 and 4) -/

@[simp] theorem rosterOf_takeFrom (x c : Nat) : rosterOf (v.takeFrom x c) = rosterOf v := rfl
@[simp] theorem rosterOf_dropSeniority (c : Nat) : rosterOf (v.dropSeniority c) = rosterOf v := rfl
@[simp] theorem rosterOf_joinSeniority (c : Nat) : rosterOf (v.joinSeniority c) = rosterOf v := rfl

@[simp] theorem rosterOf_leaveQueue (c : Nat) : rosterOf (leaveQueue e v c) = rosterOf v := by
  unfold leaveQueue
  split <;> simp

@[simp] theorem rosterOf_leaveWaiting (c : Nat) : rosterOf (leaveWaiting e v c) = rosterOf v := by
  simp [leaveWaiting]

@[simp] theorem rosterOf_appointTurn (k : Nat) : rosterOf (appointTurn e v k) = rosterOf v := by
  simp only [appointTurn]
  repeat' split
  all_goals simp

@[simp] theorem rosterOf_corridorEnter (k position c : Nat) :
    rosterOf (corridorEnter e v k position c) = rosterOf v := by
  simp [corridorEnter]

@[simp] theorem rosterOf_corridorFailed (k c : Nat) : rosterOf (corridorFailed e v k c) = rosterOf v := by
  simp [corridorFailed]

@[simp] theorem rosterOf_corridorLeave (k c : Nat) : rosterOf (corridorLeave e v k c) = rosterOf v := by
  simp only [corridorLeave]
  repeat' split
  all_goals simp

@[simp] theorem rosterOf_cancelTurn (k : Nat) : rosterOf (cancelTurn e v k) = rosterOf v := by
  simp [cancelTurn]

@[simp] theorem rosterOf_cancelTurns (c : Nat) : rosterOf (cancelTurns e v c) = rosterOf v := by
  simp [cancelTurns]

@[simp] theorem rosterOf_reserve (c : Nat) (p : Nat × Nat) : rosterOf (reserve e c v p) = rosterOf v := by
  simp [reserve]

@[simp] theorem rosterOf_clearReservation (c : Nat) (p : Nat × Nat) :
    rosterOf (clearReservation e c v p) = rosterOf v := by
  simp [clearReservation]

@[simp] theorem rosterOf_clearReservations (c : Nat) (ps : List (Nat × Nat)) :
    rosterOf (clearReservations e v c ps) = rosterOf v := by
  simp [clearReservations]

@[simp] theorem rosterOf_releaseEntry (c : Nat) (h : Held) : rosterOf (releaseEntry e c v h) = rosterOf v := by
  simp only [releaseEntry]
  rw [rosterOf_later _ _ (by simp), rosterOf_modCtx _ _ _ Iff.rfl rfl, rosterOf_setCell]

@[simp] theorem rosterOf_release (c : Nat) (entries : List Held) : rosterOf (release e v c entries) = rosterOf v := by
  simp [release]

@[simp] theorem rosterOf_retargetLane (x : Nat) (ahead : Option Nat) (l : List Nat) :
    rosterOf (retargetLane e x v ahead l) = rosterOf v := by
  induction l generalizing v ahead with
  | nil => rfl
  | cons h rest ih =>
    rw [retargetLane, ih]
    split
    · exact rosterOf_changeEdge e v h ahead
    · rfl

@[simp] theorem rosterOf_laneClosesUp (x : Nat) (wasOldest : Bool) (behind : Option Nat) :
    rosterOf (laneClosesUp e v x wasOldest behind) = rosterOf v := by
  unfold laneClosesUp
  repeat' split
  all_goals simp

@[simp] theorem rosterOf_leaveCorridorOf (c x : Nat) : rosterOf (leaveCorridorOf e v c x) = rosterOf v := by
  unfold leaveCorridorOf
  split <;> simp

@[simp] theorem rosterOf_freed (c x : Nat) (emptied wasOldest : Bool) (behind : Option Nat) :
    rosterOf (freed e v c x emptied wasOldest behind) = rosterOf v := by
  simp only [freed]
  split <;> simp

@[simp] theorem rosterOf_freedSettle (x : Nat) (offers : Bool) : rosterOf (freedSettle e v x offers) = rosterOf v := by
  simp [freedSettle]

/-! ## The authority unit (Chapter 3) -/

@[simp] theorem rosterOf_sendNotice (c : Nat) : rosterOf (sendNotice e v c) = rosterOf v := by
  simp [sendNotice]

@[simp] theorem rosterOf_sendWait (c : Nat) (r : Reason) : rosterOf (sendWait v c r) = rosterOf v := by
  simp [sendWait]

@[simp] theorem rosterOf_sendStop (c : Nat) : rosterOf (sendStop v c) = rosterOf v := by
  unfold sendStop
  split <;> simp

@[simp] theorem rosterOf_grantCell (c : Nat) (p : Nat × Nat) : rosterOf (grantCell e c v p) = rosterOf v := by
  simp [grantCell]

@[simp] theorem rosterOf_grantReport (c : Nat) (p : Nat × Nat) : rosterOf (grantReport e c v p) = rosterOf v := by
  unfold grantReport
  repeat' split
  all_goals simp

@[simp] theorem rosterOf_grantRun (c : Nat) (run : List (Nat × Nat)) : rosterOf (grantRun e v c run) = rosterOf v := by
  simp [grantRun]

@[simp] theorem rosterOf_passOver (c y : Nat) (run : List (Nat × Nat)) :
    rosterOf (passOver e v c y run) = rosterOf v := by
  simp [passOver]

@[simp] theorem rosterOf_placeWaiter (c y j : Nat) (cause : BlockCause) (taken : Option Nat) :
    rosterOf (placeWaiter e v c y j cause taken) = rosterOf v := by
  simp [placeWaiter]
@[simp] theorem rosterOf_recordWait (c y : Nat) (kept : Bool) : rosterOf (recordWait e v c y kept) = rosterOf v := by
  simp [recordWait]

@[simp] theorem rosterOf_runFails (c : Nat) (run : List (Nat × Nat)) (y j : Nat) (cause : BlockCause)
    (target taken : Option Nat) :
    rosterOf (runFails e v c run y j cause target taken) = rosterOf v := by
  unfold runFails
  repeat' split
  all_goals simp

@[simp] theorem rosterOf_attemptStart (c : Nat) (after : After) : rosterOf (attemptStart e v c after) = rosterOf v := by
  unfold attemptStart
  repeat' split
  all_goals simp

@[simp] theorem rosterOf_attemptRound (c : Nat) (granted : Bool) (after : After) :
    rosterOf (attemptRound e v c granted after) = rosterOf v := by
  simp only [attemptRound]
  repeat' split
  all_goals simp

@[simp] theorem rosterOf_waitInLane (c x : Nat) : rosterOf (waitInLane e v c x) = rosterOf v := by
  simp [waitInLane]

@[simp] theorem rosterOf_settleWait (c : Nat) (reason : Reason) : rosterOf (settleWait e v c reason) = rosterOf v := by
  unfold settleWait
  repeat' split
  all_goals simp

@[simp] theorem rosterOf_attemptEnd (c : Nat) (reason : Reason) (granted : Bool) (after : After) :
    rosterOf (attemptEnd e v c reason granted after) = rosterOf v := by
  unfold attemptEnd
  split <;> simp

@[simp] theorem rosterOf_offerStart (x : Nat) : rosterOf (offerStart e v x) = rosterOf v := by
  simp [offerStart]

@[simp] theorem rosterOf_offerNext (x : Nat) (left : List Nat) : rosterOf (offerNext e v x left) = rosterOf v := by
  unfold offerNext
  repeat' split
  all_goals simp

/-! ## The carrier table (Chapter 5) -/

@[simp] theorem rosterOf_giveUpClaims (c : Nat) : rosterOf (giveUpClaims e v c) = rosterOf v := by
  simp [giveUpClaims]

@[simp] theorem rosterOf_halt (c : Nat) (cause : StopCause) : rosterOf (halt e v c cause) = rosterOf v := by
  simp only [halt]
  split
  case h_1 running => simp [running]
  all_goals simp

theorem rosterOf_becomeStopped {c : Nat} (enrolled : (v.ctx c).state ≠ .vacant) (cause : StopCause) :
    rosterOf (becomeStopped v c cause) = rosterOf v := by
  simp [becomeStopped, enrolled]

@[simp] theorem rosterOf_trim (c : Nat) : rosterOf (trim e v c) = rosterOf v := by
  simp [trim]

@[simp] theorem rosterOf_routeEndKeeping (c : Nat) (result : RouteResult) (kept : Held → Bool) :
    rosterOf (routeEndKeeping e v c result kept) = rosterOf v := by
  simp [routeEndKeeping]

@[simp] theorem rosterOf_routeEnd (c : Nat) (result : RouteResult) : rosterOf (routeEnd e v c result) = rosterOf v := by
  simp [routeEnd]

@[simp] theorem rosterOf_rangeEnd (c : Nat) (result : RouteResult) : rosterOf (rangeEnd e v c result) = rosterOf v := by
  simp [rangeEnd]

@[simp] theorem rosterOf_queueWriteBack (c : Nat) (result : RouteResult) :
    rosterOf (queueWriteBack v c result) = rosterOf v := by
  simp only [queueWriteBack]
  split <;> simp

@[simp] theorem rosterOf_routeEndRest (c : Nat) (result : RouteResult) :
    rosterOf (routeEndRest e v c result) = rosterOf v := by
  have queued : rosterOf ((queueWriteBack v c result).setEngine
      ((queueWriteBack v c result).records.engine.dropFetch c)) = rosterOf v := by simp
  simp only [routeEndRest]
  split
  · rfl
  next enrolled =>
    have before := (vacant_of_rosterOf queued c).not.mpr enrolled
    have ended := rosterOf_modCtx _ c (fun k => k.endRoute result)
      (iff_of_false (by simp [Context.endRoute]) before) rfl
    simp [ended]

@[simp] theorem rosterOf_startRoute (c : Nat) : rosterOf (v.modCtx c Context.startRoute) = rosterOf v :=
  rosterOf_modCtx v c _ Iff.rfl rfl

theorem rosterOf_routeStart {c : Nat} (enrolled : (v.ctx c).state ≠ .vacant) :
    rosterOf (routeStart e v c) = rosterOf v := by
  have started : ((v.modCtx c Context.startRoute).ctx c).state ≠ .vacant := by
    rwa [Run.ctx_modCtx_self]
  simp only [routeStart]
  split
  · rw [rosterOf_later, rosterOf_becomeStopped _ started, rosterOf_startRoute]
    simp
  all_goals simp [-Run.ctx_modCtx_self, started]

@[simp] theorem rosterOf_resume (c : Nat) : rosterOf (resume e v c) = rosterOf v := by
  simp only [resume]
  split
  next stopped => simp [stopped]
  · rfl

@[simp] theorem rosterOf_recoverRest (c : Nat) : rosterOf (recoverRest e v c) = rosterOf v := by
  simp only [recoverRest]
  split
  next stopped => simp [stopped]
  · rfl

@[simp] theorem rosterOf_retireRelease (c : Nat) : rosterOf (retireRelease e v c) = rosterOf v := by
  simp [retireRelease]

@[simp] theorem rosterOf_cutEnd (c : Nat) : rosterOf (cutEnd e v c) = rosterOf v := by
  simp [cutEnd]

@[simp] theorem rosterOf_passRest (c speed : Nat) : rosterOf (passRest e v c speed) = rosterOf v := by
  simp [passRest]

@[simp] theorem rosterOf_haltingRest (c speed : Nat) : rosterOf (haltingRest e v c speed) = rosterOf v := by
  simp [haltingRest]

@[simp] theorem rosterOf_haltingExit (c : Nat) : rosterOf (haltingExit e v c) = rosterOf v := by
  unfold haltingExit
  split
  next halting =>
    have enrolled : (v.ctx c).state ≠ .vacant := by simp [halting]
    repeat' split
    all_goals simp [enrolled, rosterOf_becomeStopped]
  · rfl

@[simp] theorem rosterOf_recordSpeed (c speed : Nat) : rosterOf (v.recordSpeed c speed) = rosterOf v := by
  simp [Run.recordSpeed]
@[simp] theorem rosterOf_recordRequest (c requested : Nat) :
    rosterOf (recordRequest e v c requested) = rosterOf v := by
  simp [recordRequest]
@[simp] theorem rosterOf_restoreContact (c : Nat) : rosterOf (restoreContact v c) = rosterOf v := by
  simp [restoreContact]
@[simp] theorem rosterOf_countFailure (l : Nat) (f : FrameFailure) : rosterOf (countFailure v l f) = rosterOf v := rfl

@[simp] theorem rosterOf_movePosition (c f r x : Nat) : rosterOf (movePosition e v c f r x) = rosterOf v := by
  simp [movePosition]

@[simp] theorem rosterOf_replyAfterRestore (c : Nat) (wasSilent : Bool) :
    rosterOf (replyAfterRestore e v c wasSilent) = rosterOf v := by
  simp [replyAfterRestore]

@[simp] theorem rosterOf_charge (c : Nat) (wasSilent : Bool) : rosterOf (charge e v c wasSilent) = rosterOf v := by
  simp [charge]

@[simp] theorem rosterOf_runningPass (c f r x speed : Nat) (wasSilent : Bool) :
    rosterOf (runningPass e v c f r x speed wasSilent) = rosterOf v := by
  unfold runningPass
  split <;> simp

@[simp] theorem rosterOf_runningAsk (c f speed requested : Nat) (resume : Bool) :
    rosterOf (runningAsk e v c f speed requested resume) = rosterOf v := by
  simp [runningAsk]

@[simp] theorem rosterOf_runningDone (c f speed : Nat) (wasSilent : Bool) :
    rosterOf (runningDone e v c f speed wasSilent) = rosterOf v := by
  simp [runningDone]

theorem rosterOf_haltingOverrun {c : Nat} (enrolled : (v.ctx c).state ≠ .vacant) (speed : Nat) :
    rosterOf (haltingOverrun v c speed) = rosterOf v := by
  have raised : ((v.raise .overrun).ctx c).state ≠ .vacant := enrolled
  simp only [haltingOverrun]
  rw [rosterOf_later _ _ (by simp)]
  split
  · rw [rosterOf_becomeStopped _ raised, rosterOf_raise]
  · rw [rosterOf_raise]

theorem rosterOf_haltingPass {c : Nat} (enrolled : (v.ctx c).state ≠ .vacant) (f r x speed : Nat) :
    rosterOf (haltingPass e v c f r x speed) = rosterOf v := by
  have recorded : ((v.recordSpeed c speed).ctx c).state ≠ .vacant :=
    (vacant_of_rosterOf (rosterOf_recordSpeed v c speed) c).not.mpr enrolled
  unfold haltingPass
  split
  case h_2 => rw [rosterOf_haltingOverrun _ recorded, rosterOf_recordSpeed]
  all_goals simp

theorem rosterOf_haltingAsk {c : Nat} (enrolled : (v.ctx c).state ≠ .vacant) (f speed requested : Nat) :
    rosterOf (haltingAsk e v c f speed requested) = rosterOf v := by
  have recorded : rosterOf (((recordRequest e v c requested).recordSpeed c speed).raise .overrun) = rosterOf v := by
    simp
  simp only [haltingAsk]
  split
  · rw [rosterOf_later _ _ (by simp), rosterOf_becomeStopped _ ((vacant_of_rosterOf recorded c).not.mpr enrolled),
      recorded]
  · simp

@[simp] theorem rosterOf_haltingDone (c speed : Nat) : rosterOf (haltingDone v c speed) = rosterOf v := by
  simp [haltingDone]

@[simp] theorem rosterOf_runningRequest (c : Nat) (q : Request) (wasSilent : Bool) :
    rosterOf (runningRequest e v c q wasSilent) = rosterOf v := by
  cases q <;> simp [runningRequest]

theorem rosterOf_haltingRequest {c : Nat} (enrolled : (v.ctx c).state ≠ .vacant) (q : Request) :
    rosterOf (haltingRequest e v c q) = rosterOf v := by
  cases q with
  | ask f speed requested _ => exact rosterOf_haltingAsk e v enrolled ..
  | pass f r x speed => exact rosterOf_haltingPass e v enrolled ..
  | done _ speed => exact rosterOf_haltingDone v c speed

@[simp] theorem rosterOf_carrierRequest (c : Nat) (q : Request) : rosterOf (carrierRequest e v c q) = rosterOf v := by
  have restored : rosterOf (restoreContact v c) = rosterOf v := rosterOf_restoreContact ..
  simp only [carrierRequest]
  split
  case h_5 halting => rw [rosterOf_haltingRequest e _ (by simp [halting]), restored]
  all_goals simp

@[simp] theorem rosterOf_frameArrives (l c : Nat) (q : Request) : rosterOf (frameArrives e v l c q) = rosterOf v := by
  simp [frameArrives]

@[simp] theorem rosterOf_silenceReached (c : Nat) : rosterOf (silenceReached e v c) = rosterOf v := by
  simp [silenceReached]

@[simp] theorem rosterOf_lostReached (c : Nat) : rosterOf (lostReached e v c) = rosterOf v := by
  have lost : rosterOf (v.modCtx c (fun k => { k with contact := .lost })) = rosterOf v := by simp
  simp only [lostReached]
  split
  · split
    case h_1 running =>
      have enrolled : ((v.modCtx c (fun k => { k with contact := .lost })).ctx c).state ≠ .vacant := by simp [running]
      rw [rosterOf_later _ _ (by simp), rosterOf_giveUpClaims, rosterOf_becomeStopped _ enrolled, lost]
    case h_2 halting =>
      have enrolled : ((v.modCtx c (fun k => { k with contact := .lost })).ctx c).state ≠ .vacant := by simp [halting]
      rw [rosterOf_later _ _ (by simp), rosterOf_becomeStopped _ enrolled, lost]
    all_goals exact lost
  · rfl

end

end Sys2Proof.Proofs
end

section
/-! Enrolment and generation through a whole event (O59): the last part of RETIRE vacates its own carrier, every other
piece of work leaves the roster, and a read that ends leaves it as well. -/

namespace Sys2Proof.Proofs

open Sys2Proof.Machine Sys2Proof.Laws

/-! ## The work of an event -/

/-- `b` is `a` where none but the carriers that `a` still retires became VACANT, and no more retirements are owed. -/
structure Roster.Retires (a b : Roster) : Prop where
  generation : ∀ c, b.generation c = a.generation c
  kept : ∀ c, a.vacant c → b.vacant c
  vacated : ∀ c, b.vacant c → a.vacant c ∨ a.retires c
  owed : ∀ c, b.retires c → a.retires c

theorem Roster.Retires.refl (a : Roster) : a.Retires a := ⟨fun _ => rfl, fun _ => id, fun _ => .inl, fun _ => id⟩

theorem Roster.Retires.trans {a b c : Roster} (h : a.Retires b) (g : b.Retires c) : a.Retires c :=
  ⟨fun n => (g.generation n).trans (h.generation n), fun n => g.kept n ∘ h.kept n,
    fun n vacant => (g.vacated n vacant).elim (h.vacated n) fun owed => .inr (h.owed n owed),
    fun n => h.owed n ∘ g.owed n⟩

section
variable (e : Setting) (v : Run)

/-- The last part of RETIRE (R99) vacates its carrier alone, and keeps its generation (R103). -/
theorem retires_retireRest (c : Nat) (rest : List Task) (idle : v.work = []) :
    (rosterOf { v with work := .retireRest c :: rest }).Retires
      (rosterOf { retireRest v c with work := (retireRest v c).work ++ rest }) := by
  have weaker : (rosterOf { v with work := .retireRest c :: rest }).Retires (rosterOf { v with work := rest }) :=
    ⟨fun _ => rfl, fun _ => id, fun _ => .inl, fun d owed => List.mem_cons_of_mem _ owed⟩
  unfold retireRest
  split
  · extract_lets q w x y
    have same : rosterOf y = rosterOf v := by simp [y, x, w, q]
    have generation (d : Nat) : (y.ctx d).generation = (v.ctx d).generation :=
      congrFun (congrArg Roster.generation same) d
    have owed (d : Nat) : .retireRest d ∉ y.work := by
      have unowed : ¬ (rosterOf v).retires d := by simp [rosterOf, idle]
      rwa [← same] at unowed
    refine ⟨fun d => ?_, fun d => ?_, fun d => ?_, fun d mem => ?_⟩
    · change ((y.modCtx c Context.vacated).ctx d).generation = (v.ctx d).generation
      by_cases here : d = c
      · subst here
        rw [Run.ctx_modCtx_self]
        exact generation d
      · rw [Run.ctx_modCtx_other _ _ here, generation]
    · change (v.ctx d).state = .vacant → ((y.modCtx c Context.vacated).ctx d).state = .vacant
      by_cases here : d = c
      · subst here
        rw [Run.ctx_modCtx_self]
        exact fun _ => rfl
      · rw [Run.ctx_modCtx_other _ _ here]
        exact (vacant_of_rosterOf same d).mpr
    · change ((y.modCtx c Context.vacated).ctx d).state = .vacant → (v.ctx d).state = .vacant ∨ _
      by_cases here : d = c
      · subst here
        exact fun _ => .inr (List.mem_cons_self ..)
      · rw [Run.ctx_modCtx_other _ _ here]
        exact fun vacant => .inl ((vacant_of_rosterOf same d).mp vacant)
    · rcases List.mem_append.mp mem with own | later
      · exact absurd own (owed d)
      · exact List.mem_cons_of_mem _ later
  · rw [idle]
    exact weaker

/-- No piece of work but the last part of RETIRE changes the roster. -/
theorem rosterOf_runTask (a : Task) (h : ∀ c, a ≠ .retireRest c) : rosterOf (runTask e a v) = rosterOf v := by
  cases a with
  | retireRest c => exact absurd rfl (h c)
  | _ => simp [runTask]

theorem retires_advance (a : Task) (rest : List Task) (idle : v.work = []) :
    (rosterOf { v with work := a :: rest }).Retires
      (rosterOf { runTask e a v with work := (runTask e a v).work ++ rest }) := by
  by_cases last : ∃ c, a = .retireRest c
  · obtain ⟨c, rfl⟩ := last
    exact retires_retireRest v c rest idle
  · have same := rosterOf_runTask e v a fun c eq => last ⟨c, eq⟩
    refine ⟨fun c => congrFun (congrArg Roster.generation same) c, fun c => (vacant_of_rosterOf same c).mpr,
      fun c vacant => .inl ((vacant_of_rosterOf same c).mp vacant), fun c mem => ?_⟩
    rcases List.mem_append.mp mem with own | later
    · have unowed : ¬ (rosterOf v).retires c := by simp [rosterOf, idle]
      rw [← same] at unowed
      exact absurd own unowed
    · exact List.mem_cons_of_mem _ later

end

section
variable {e : Setting} {v : Run} {r : Records}

theorem retires_settle (n : Nat) (h : settle n e v = some r) : (rosterOf v).Retires (rosterOf (Run.start r)) := by
  have rests {v : Run} (hw : v.work = []) : (rosterOf v).Retires (rosterOf (Run.start v.records)) :=
    ⟨fun _ => rfl, fun _ => id, fun _ => .inl, fun _ mem => nomatch mem⟩
  induction n generalizing v with
  | zero =>
    cases hw : v.work with
    | nil =>
      rw [settle_rest 0 hw] at h
      cases h
      exact rests hw
    | cons a rest => simp [settle, hw] at h
  | succ n ih =>
    cases hw : v.work with
    | nil =>
      rw [settle_rest _ hw] at h
      cases h
      exact rests hw
    | cons a rest =>
      rw [settle_next n hw, advance_next hw] at h
      have first := retires_advance e { v with work := [] } a rest rfl
      rw [← hw] at first
      exact first.trans (ih h)

/-- What an event's work comes to: the carriers whose RETIRE was owed may be VACANT, and no other roster entry moved. -/
theorem retires_settled (h : settled e v = some r) : (rosterOf v).Retires (rosterOf (Run.start r)) :=
  retires_settle _ h

end

/-! ## The engine's events (R111 to R118) -/

section
variable (e : Setting) (v : Run)

@[simp] theorem rosterOf_clearBeyondCut (c : Nat) : rosterOf (clearBeyondCut e v c) = rosterOf v := by
  unfold clearBeyondCut
  split <;> simp

@[simp] theorem rosterOf_cutRoute (c f : Nat) (result : RouteResult) :
    rosterOf (cutRoute e v c f result).1 = rosterOf v := by
  unfold cutRoute
  split
  · simp [Context.cutWindow]
  · rfl

@[simp] theorem rosterOf_actOnRead (c : Nat) (o : ReadOutcome) : rosterOf (actOnRead e v c o) = rosterOf v := by
  unfold actOnRead
  split
  case h_8 attached => exact rosterOf_routeStart e v (by simp [attached])
  case h_11 attached => exact rosterOf_routeStart e v (by simp [attached])
  all_goals simp

@[simp] theorem rosterOf_busFault (c : Nat) : rosterOf (busFault e v c) = rosterOf v := by
  simp only [busFault]
  split <;> simp

@[simp] theorem rosterOf_appendStep (c : Nat) (s : Slot) (w : Validation) :
    rosterOf (appendStep v c s w) = rosterOf v := by
  rw [appendStep, rosterOf_modCtx _ _ _ Iff.rfl rfl, rosterOf_setSlot]

@[simp] theorem rosterOf_appendSteps (c n : Nat) (records : List Slot) :
    rosterOf (appendSteps e c n v records).1 = rosterOf v := by
  induction records generalizing v with
  | nil => rfl
  | cons s rest ih =>
    simp only [appendSteps]
    split
    · rfl
    · split
      · rw [ih, rosterOf_appendStep]
      · rfl

@[simp] theorem rosterOf_useSteps (c : Nat) (records : List Slot) : rosterOf (useSteps e v c records) = rosterOf v := by
  simp only [useSteps]
  split <;> simp

@[simp] theorem rosterOf_useData (c : Nat) (first : Bool) (data : List Byte) :
    rosterOf (useData e v c first data) = rosterOf v := by
  simp [useData]

@[simp] theorem rosterOf_endRead (r : ReadInFlight) (data : Option (List Byte)) :
    rosterOf (endRead e v r data) = rosterOf v := by
  cases data <;> simp [endRead]

theorem rosterOf_completionArrives (number : Byte) (status : CompletionStatus) (data : List Byte) :
    rosterOf (completionArrives e v number status data) = rosterOf v := by
  simp only [completionArrives]
  repeat' split
  all_goals simp

theorem rosterOf_readTimerExpires : rosterOf (readTimerExpires e v) = rosterOf v := by
  simp only [readTimerExpires]
  split <;> simp

theorem rosterOf_perstAsserted : rosterOf (perstAsserted e v) = rosterOf v := by
  simp only [perstAsserted]
  split <;> simp

theorem rosterOf_serveFetch : rosterOf (serveFetch v) = rosterOf v := by
  simp only [serveFetch, issueRead]
  split <;> simp

theorem rosterOf_serveWriteBack : rosterOf (serveWriteBack v) = rosterOf v := by
  simp only [serveWriteBack]
  split <;> simp

end

end Sys2Proof.Proofs
end

section
/-! Which events enrol a carrier, retire one or re-number its route (O59): a command or event does to the roster what its
first effects do, and few have an effect on it. -/

namespace Sys2Proof.Proofs

open Sys2Proof.Machine Sys2Proof.Laws

/-- Of one carrier: it leaves VACANT only by `E`, becomes VACANT only by `V` and changes its generation only to one that
is `A`. -/
def RosterBy (c : Nat) (E V : Prop) (A : Byte → Prop) (a b : Roster) : Prop :=
  (a.vacant c → ¬ b.vacant c → E) ∧ (¬ a.vacant c → b.vacant c → V) ∧
    (b.generation c ≠ a.generation c → A (b.generation c))

section
variable {c : Nat} {E V : Prop} {A : Byte → Prop} {s t : State} {r : Records} {v : Run}

theorem rosterBy_refl (a : Roster) : RosterBy c E V A a a := ⟨absurd, fun no yes => absurd yes no, absurd rfl⟩

/-- What the first effects of an event do to a carrier, the event does, and a retirement still owed. -/
theorem RosterBy.retires {a u b : Roster} (h : RosterBy c E V A a u) (rest : u.Retires b) (owed : u.retires c → V) :
    RosterBy c E V A a b := by
  obtain ⟨enrolled, retired, numbered⟩ := h
  refine ⟨fun was now => enrolled was fun still => now (rest.kept c still), fun was now => ?_, fun moved => ?_⟩
  · exact (rest.vacated c now).elim (retired was) owed
  · rw [rest.generation c] at moved ⊢
    exact numbered moved

theorem rosterBy_of_settled {e : Setting} (h : settled e v = some r) (first : rosterOf v = rosterOf s.run) :
    RosterBy c E V A (rosterOf s.run) (rosterOf (Run.start r)) := by
  have start : RosterBy c E V A (rosterOf s.run) (rosterOf v) := first ▸ rosterBy_refl _
  exact start.retires (retires_settled h) (first ▸ fun mem => nomatch mem)

/-! ## Commands -/

/-- What a plan of a command does to one carrier: the same of its first effects, with the retirements they leave owed. -/
def Plan.RosterBy (s : State) (c : Nat) (E V : Prop) (A : Byte → Prop) : Plan → Prop
  | .refuse _ _ => True
  | .accept _ u _ => Proofs.RosterBy c E V A (rosterOf s.run) (rosterOf u) ∧ ((rosterOf u).retires c → V)

theorem rosterPlan_refused (status : Status) : Plan.RosterBy s c E V A (.refused status) := trivial

/-- A plan whose first effects leave the roster. -/
theorem rosterPlan_kept {p : State} {u : Run} {data : List Byte} (h : rosterOf u = rosterOf s.run) :
    Plan.RosterBy s c E V A (.accept p u data) := by
  refine ⟨h ▸ rosterBy_refl _, ?_⟩
  rw [h]
  exact fun mem => nomatch mem

/-- A plan that starts its event from the contexts as they are. -/
theorem rosterPlan_done {p : State} {data : List Byte} (h : p.records.carriers = s.records.carriers) :
    Plan.RosterBy s c E V A (.done p data) := by
  refine rosterPlan_kept ?_
  simp only [rosterOf, Run.ctx, Run.start, State.run, h]

theorem rosterPlan_ite {p : Prop} [Decidable p] {a b : Plan} (ha : p → Plan.RosterBy s c E V A a)
    (hb : ¬ p → Plan.RosterBy s c E V A b) : Plan.RosterBy s c E V A (if p then a else b) := by
  split
  next yes => exact ha yes
  next no => exact hb no

theorem rosterPlan_cellEdit {cell : Half} {plan : Plan} (h : Plan.RosterBy s c E V A plan) :
    Plan.RosterBy s c E V A (cellEdit s cell plan) :=
  rosterPlan_ite (fun _ => rosterPlan_ite (fun _ => h) fun _ => rosterPlan_refused _) fun _ => rosterPlan_refused _

theorem rosterPlan_carrierCommand {accepts : OpState → Bool} {carrier : Half} {fields : Bool} {plan : Plan}
    (h : Plan.RosterBy s c E V A plan) : Plan.RosterBy s c E V A (carrierCommand s accepts carrier fields plan) :=
  rosterPlan_ite (fun _ => rosterPlan_ite (fun _ => h) fun _ => rosterPlan_refused _) fun _ => rosterPlan_refused _

theorem rosterPlan_query {α : Type} (accepts : Bool) (record : Option α) (data : α → List Byte) :
    Plan.RosterBy s c E V A (query s accepts record data) := by
  refine rosterPlan_ite (fun _ => ?_) fun _ => rosterPlan_refused _
  cases record with
  | none => exact rosterPlan_refused _
  | some a => exact rosterPlan_done rfl

theorem rosterPlan_mapRecord {α : Type} (fields : Option α) (store : α → MapStore) :
    Plan.RosterBy s c E V A (mapRecord s fields store) := by
  refine rosterPlan_ite (fun _ => ?_) fun _ => rosterPlan_refused _
  cases fields with
  | none => exact rosterPlan_refused _
  | some a => exact rosterPlan_done rfl

theorem rosterBy_of_command {code : Byte} {n : Nat} {plan : Plan} (h : runCommand code n s plan = .next t)
    (k : Plan.RosterBy s c E V A plan) : RosterBy c E V A (rosterOf s.run) (rosterOf t.run) := by
  rcases runCommand_next h with ⟨-, rfl⟩ | ⟨status, data, -, rfl⟩ | ⟨p, u, data, r, rfl, hr, rfl⟩
  · exact rosterBy_refl _
  · exact rosterBy_refl _
  · exact k.1.retires (retires_settled hr) k.2

/-! ## Events that are no command -/

theorem rosterBy_of_finish {p : State} (h : finish p v = .next t) (k : rosterOf v = rosterOf s.run) :
    RosterBy c E V A (rosterOf s.run) (rosterOf t.run) := by
  obtain ⟨r, hr, rfl⟩ := finish_next h
  exact rosterBy_of_settled hr k

theorem rosterBy_of_event {f : Setting → Run → Run} (h : runEvent s f = .next t)
    (k : ∀ e v, rosterOf (f e v) = rosterOf v) : RosterBy c E V A (rosterOf s.run) (rosterOf t.run) := by
  rcases runEvent_next h with ⟨-, rfl⟩ | ⟨r, hr, rfl⟩
  · exact rosterBy_refl _
  · exact rosterBy_of_settled hr (k _ _)

end

/-! ## The first effects of the commands and events -/

section
variable (e : Setting) (v : Run)

theorem rosterOf_closeRun (x : Nat) : rosterOf (closeRun e v x) = rosterOf v := by
  simp [closeRun]

theorem rosterOf_openRun (x : Nat) : rosterOf (openRun e v x) = rosterOf v := by
  simp [openRun]

theorem rosterOf_limitNotice (c : Nat) : rosterOf (limitNotice e v c) = rosterOf v := by
  simp [limitNotice]

theorem rosterOf_limitRun (x : Nat) (lowered : Bool) : rosterOf (limitRun e v x lowered) = rosterOf v := by
  simp [limitRun, rosterOf_limitNotice]

theorem rosterOf_gateResetRun (g : Nat) : rosterOf (gateResetRun v g) = rosterOf v := by
  simp [gateResetRun]

theorem rosterOf_readyRun (g : Nat) : rosterOf (readyRun e v g) = rosterOf v := by
  unfold readyRun
  split <;> simp

theorem rosterOf_clearanceRun (x : Nat) : rosterOf (clearanceRun e v x) = rosterOf v := by
  simp [clearanceRun]

theorem rosterOf_goodFrame (l c : Nat) (q : Request) : rosterOf (goodFrame e v l c q) = rosterOf v := by
  simp [goodFrame, Run.setReceiver]

theorem rosterOf_characterRun (l : Nat) (char : Byte) (framingError : Bool) :
    rosterOf (characterRun e v l char framingError) = rosterOf v := by
  simp only [characterRun, Run.setReceiver]
  split <;> simp

theorem rosterOf_haltAll (s : State) : rosterOf ((Run.start s.records).later s.haltAll) = rosterOf s.run :=
  rosterOf_later _ _ (by simp [State.haltAll])

theorem rosterOf_resumeAll (s : State) : rosterOf ((Run.start s.records).later s.resumeAll) = rosterOf s.run :=
  rosterOf_later _ _ (by simp [State.resumeAll])

end

/-! ## The events that change a roster -/

section
variable {c : Nat} {E V : Prop} {A : Byte → Prop} {s t : State}

/-- A change of one context does to the roster what it does to its own carrier. -/
theorem rosterBy_modCtx {u : Run} (same : rosterOf u = rosterOf s.run) (n : Nat) (f : Context → Context)
    (own : n = c → ((s.ctx n).state = .vacant → (f (u.ctx n)).state ≠ .vacant → E) ∧
      ((s.ctx n).state ≠ .vacant → (f (u.ctx n)).state = .vacant → V) ∧
      ((f (u.ctx n)).generation ≠ (s.ctx n).generation → A (f (u.ctx n)).generation)) :
    RosterBy c E V A (rosterOf s.run) (rosterOf (u.modCtx n f)) ∧ ((rosterOf (u.modCtx n f)).retires c → V) := by
  refine ⟨?_, fun mem => ?_⟩
  · by_cases here : n = c
    · subst here
      have change : (u.modCtx n f).ctx n = f (u.ctx n) := Run.ctx_modCtx_self u n f
      unfold RosterBy
      simp only [rosterOf, change]
      exact own rfl
    · have change : (u.modCtx n f).ctx c = u.ctx c := Run.ctx_modCtx_other u f (Ne.symm here)
      have kept : RosterBy c E V A (rosterOf s.run) (rosterOf u) := same ▸ rosterBy_refl _
      unfold RosterBy at kept ⊢
      simp only [rosterOf, change] at kept ⊢
      exact kept
  · have owed : (rosterOf u).retires c := mem
    rw [same] at owed
    exact nomatch owed

theorem enrolled_occupies (k : Context) (cls : Nat) (r : ClassRec) (x contribution base size : Nat) :
    (k.enrolled cls r x contribution base size).state ≠ .vacant := by simp [Context.enrolled]

theorem attached_occupies (k : Context) (r : ClassRec) (a : Address) : (k.attached r a).state ≠ .vacant := by
  simp [Context.attached]

/-- ENROL takes its own carrier from VACANT and keeps its generation (R82, R103). -/
theorem rosterPlan_enrol (n cls x base size : Nat) (enrols : n = c → E) :
    Plan.RosterBy s c E V A (enrolPlan s n cls x base size) := by
  refine rosterPlan_ite (fun _ => rosterPlan_refused _) fun _ => ?_
  split
  · exact rosterPlan_refused _
  next r _ =>
    refine rosterPlan_ite (fun _ => rosterPlan_ite (fun _ => ?_) fun _ => rosterPlan_refused _)
      fun _ => rosterPlan_refused _
    have same : rosterOf (recompute s.setting ((Run.start s.records).setCell x
        { (Run.start s.records).cell x with holders := ((Run.start s.records).cell x).holders ++ [n] }) x) =
          rosterOf s.run := rosterOf_recompute ..
    exact rosterBy_modCtx same n _ fun own => ⟨fun _ _ => enrols own,
      fun _ vacant => absurd vacant (enrolled_occupies _ _ _ _ _ _ _), absurd (congrFun (congrArg Roster.generation same) n)⟩

/-- ATTACH raises the generation of its own carrier, which is IDLE, by one (R83). -/
theorem rosterPlan_attach (n : Nat) (a : Address) (idle : (s.ctx n).state = .idle)
    (numbers : n = c → A ((s.ctx n).generation + 1)) :
    Plan.RosterBy s c E V A (.acts s (attachRun s.setting (Run.start s.records) n a)) := by
  refine rosterBy_modCtx (u := Run.start s.records) rfl n (fun k => k.attached (s.setting.map.classOf k) a)
    fun own => ⟨fun vacant => ?_, fun _ vacant => absurd vacant (attached_occupies _ _ _),
      fun _ => numbers own⟩
  rw [idle] at vacant
  cases vacant

/-- RETIRE owes the retirement of its own carrier (R99). -/
theorem rosterPlan_retire (n : Nat) (retires : n = c → V) :
    Plan.RosterBy s c E V A (.acts s (retireRun s.setting (Run.start s.records) n)) := by
  have left : rosterOf ((leaveWaiting s.setting (Run.start s.records) n).modCtx n (fun k => { k with passOver := 0 })) =
      rosterOf s.run := by simp [State.run]
  have moved : RosterBy c E V A (rosterOf s.run)
      (rosterOf ((leaveWaiting s.setting (Run.start s.records) n).modCtx n (fun k => { k with passOver := 0 }))) :=
    left ▸ rosterBy_refl _
  refine ⟨moved, fun mem => ?_⟩
  · rcases List.mem_append.mp mem with before | mine
    · have owed := congrFun (congrArg Roster.retires left) c
      exact absurd (owed ▸ before : (rosterOf s.run).retires c) fun mem => nomatch mem
    · refine retires ?_
      have last : Task.retireRest c ∈ [.clearReservations n, .cancelTurns n, .retireRelease n, .retireRest n] := mine
      simp only [List.mem_cons, reduceCtorEq, false_or, List.not_mem_nil, or_false, Task.retireRest.injEq] at last
      exact last.symm

/-- Dropping the records that read as unlisted ones changes no reading (the canonical form). -/
theorem at_filter_default {α : Type} [DecidableEq α] (t : Table α) (d : α) (n : Nat) (sorted : Table.wf t = true) :
    Table.at (t.filter (fun p => p.2 != d)) d n = Table.at t d n := by
  have unlisted {l : Table α} (h : ∀ p ∈ l, p.1 ≠ n) : Table.find l n = none := by
    induction l with
    | nil => rfl
    | cons p rest ih =>
      rw [Table.find, if_neg (h p (List.mem_cons_self ..)), ih fun q mem => h q (List.mem_cons_of_mem _ mem)]
  rw [Table.wf_iff] at sorted
  induction t with
  | nil => rfl
  | cons p rest ih =>
    obtain ⟨k, a⟩ := p
    obtain ⟨above, sorted⟩ := List.pairwise_cons.mp sorted
    have rests := ih sorted
    by_cases here : k = n
    · by_cases blank : a = d
      · have gone : Table.find (rest.filter (fun p => p.2 != d)) n = none := unlisted fun q mem => by
          have beyond := above q.1 (List.mem_map_of_mem (List.mem_of_mem_filter mem))
          omega
        simp [Table.at, Table.find, here, blank, gone]
      · simp [Table.at, Table.find, here, blank]
    · by_cases blank : a = d
      · simpa [Table.at, Table.find, here, blank] using rests
      · simpa [Table.at, Table.find, here, blank] using rests

/-- RESTART keeps the generation of every carrier (R103). -/
theorem generation_restarted (m : MapStore) (r : Records) (c : Nat) (sorted : Table.wf r.carriers = true) :
    (Table.at (r.restarted m).carriers Context.vacant c).generation =
      (Table.at r.carriers Context.vacant c).generation := by
  have mapped := Table.wf_map r.carriers (fun _ => Context.vacated) sorted
  have kept : Table.at (r.restarted m).carriers Context.vacant c =
      Table.at (r.carriers.map (fun p => (p.1, p.2.vacated))) Context.vacant c := at_filter_default _ _ _ mapped
  rw [kept, Table.at, Table.at, Table.find_map]
  cases Table.find r.carriers c <;> rfl

theorem rosterPlan_restart (sorted : Table.wf s.records.carriers = true) (v : V) : Plan.RosterBy s c E V A
    (.done { s.enter .standby with records := s.records.restarted s.setting.map } []) :=
  ⟨⟨fun _ occupied => absurd (ctx_restarted s.setting.map s.records c).1 occupied, fun _ _ => v,
    absurd (generation_restarted s.setting.map s.records c sorted)⟩, fun _ => v⟩

theorem rosterBy_hardReset (pins : Pins) (v : V) (a : ∀ g, A g) :
    RosterBy c E V A (rosterOf s.run) (rosterOf ({ s.hardReset with pins := pins } : State).run) :=
  ⟨fun _ occupied => absurd rfl occupied, fun _ _ => v, fun _ => a _⟩

theorem rosterBy_tick (h : execTick s = .next t) : RosterBy c E V A (rosterOf s.run) (rosterOf t.run) := by
  unfold execTick at h
  split at h
  · cases h
    exact rosterBy_refl _
  · cases h
    have ticked (x : Nat) : (s.ticked.run.ctx x).state = (s.run.ctx x).state ∧
        (s.ticked.run.ctx x).generation = (s.run.ctx x).generation := by
      have counted : s.ticked.run.ctx x = (s.run.ctx x).tick := by
        simp only [State.run, State.ticked, Run.ctx, Run.start, Table.at, Table.find_map]
        cases Table.find s.records.carriers x <;> rfl
      rw [counted, Context.tick]
      split
      · exact ⟨rfl, rfl⟩
      · exact ⟨rfl, rfl⟩
    have same : rosterOf s.ticked.run = rosterOf s.run := by
      simp only [rosterOf, ticked]
      rfl
    exact same ▸ rosterBy_refl _

theorem rosterBy_of_shiftBuffer {n : Nat} (h : shiftBuffer n s = .next t) :
    RosterBy c E V A (rosterOf s.run) (rosterOf t.run) := by
  unfold shiftBuffer at h
  split at h
  · cases h
    exact rosterBy_refl _
  · cases h
    exact rosterBy_refl _

theorem rosterBy_unknownCommand {frame : List Byte} (h : execUnknownCommand frame s = .next t) :
    RosterBy c E V A (rosterOf s.run) (rosterOf t.run) := by
  unfold execUnknownCommand at h
  split at h
  · exact rosterBy_of_shiftBuffer h
  · split at h
    · exact rosterBy_of_shiftBuffer h
    · exact rosterBy_of_command h (rosterPlan_refused _)

theorem rosterBy_estopNLevelChange {level : Level} (h : execEstopNLevelChange level s = .next t) :
    RosterBy c E V A (rosterOf s.run) (rosterOf t.run) := by
  simp only [execEstopNLevelChange] at h
  repeat' split at h
  case h_2.isTrue => exact rosterBy_of_finish h (rosterOf_haltAll _)
  all_goals
    cases h
    exact rosterBy_refl _

theorem rosterBy_readyChange {gate : Fin 16} {level : Level} (h : execReadyChange gate level s = .next t) :
    RosterBy c E V A (rosterOf s.run) (rosterOf t.run) := by
  simp only [execReadyChange] at h
  split at h
  · cases h
    exact rosterBy_refl _
  · split at h
    · cases h
      exact rosterBy_refl _
    · exact rosterBy_of_finish h (rosterOf_readyRun ..)

theorem rosterBy_pePerstNAsserted (h : execPePerstNAsserted s = .next t) :
    RosterBy c E V A (rosterOf s.run) (rosterOf t.run) := by
  unfold execPePerstNAsserted at h
  split at h
  · cases h
    exact rosterBy_refl _
  · exact rosterBy_of_finish h (rosterOf_perstAsserted ..)

end

/-- Settles O59: ENROL, ATTACH, RETIRE, RESTART and hard reset by their own lemmas, every other command and event
because its first effects leave the roster. -/
theorem enrolmentAndGeneration : Obligations.EnrolmentAndGeneration := by
  unfold Obligations.EnrolmentAndGeneration
  intro i s t c canonical h
  change RosterBy c _ _ (fun g => (∃ n a, i = .attach n a ∧ n.toNat = c ∧ g = (s.ctx c).generation + 1) ∨
    i = .hardReset ∨ ∃ r, i = .resetNRelease r) (rosterOf s.run) (rosterOf t.run)
  cases i with
  | mapBegin =>
    refine rosterBy_of_command h ?_
    split
    · exact rosterPlan_done rfl
    · exact rosterPlan_done rfl
    · exact rosterPlan_ite (fun _ => rosterPlan_refused _) fun _ => rosterPlan_done rfl
    · exact rosterPlan_refused _
    · exact rosterPlan_refused _
  | mapCell => exact rosterBy_of_command h (rosterPlan_mapRecord ..)
  | mapCorridor => exact rosterBy_of_command h (rosterPlan_mapRecord ..)
  | mapGate => exact rosterBy_of_command h (rosterPlan_mapRecord ..)
  | mapClass => exact rosterBy_of_command h (rosterPlan_mapRecord ..)
  | mapEnd =>
    refine rosterBy_of_command h (rosterPlan_ite (fun _ => ?_) fun _ => rosterPlan_refused _)
    split
    · trivial
    · exact rosterPlan_done rfl
  | setLimit =>
    exact rosterBy_of_command h (rosterPlan_cellEdit (rosterPlan_ite (fun _ => rosterPlan_refused _)
      fun _ => rosterPlan_kept (rosterOf_limitRun ..)))
  | activate =>
    exact rosterBy_of_command h (rosterPlan_ite (fun _ => rosterPlan_done rfl) fun _ => rosterPlan_refused _)
  | allStop =>
    refine rosterBy_of_command h ?_
    split
    · exact rosterPlan_kept (rosterOf_haltAll s)
    · exact rosterPlan_done rfl
    · exact rosterPlan_refused _
    · exact rosterPlan_refused _
    · exact rosterPlan_refused _
  | resumeAll =>
    exact rosterBy_of_command h (rosterPlan_ite (fun _ => rosterPlan_kept (rosterOf_resumeAll s))
      fun _ => rosterPlan_refused _)
  | restart =>
    simp only [State.canonical, Bool.and_eq_true] at canonical
    have sorted : Table.wf s.records.carriers = true := by tauto
    exact rosterBy_of_command h (rosterPlan_ite (fun _ => rosterPlan_restart sorted (.inr (.inl rfl)))
      fun _ => rosterPlan_refused _)
  | closeCell => exact rosterBy_of_command h (rosterPlan_cellEdit (rosterPlan_kept (rosterOf_closeRun ..)))
  | openCell => exact rosterBy_of_command h (rosterPlan_cellEdit (rosterPlan_kept (rosterOf_openRun ..)))
  | gateReset =>
    refine rosterBy_of_command h (rosterPlan_ite (fun _ => ?_) fun _ => rosterPlan_refused _)
    split
    · exact rosterPlan_refused _
    · exact rosterPlan_ite (fun _ => rosterPlan_kept (rosterOf_gateResetRun ..)) fun _ => rosterPlan_refused _
  | enrol =>
    exact rosterBy_of_command h (rosterPlan_carrierCommand
      (rosterPlan_enrol _ _ _ _ _ fun own => ⟨_, _, _, _, _, rfl, own⟩))
  | attach =>
    refine rosterBy_of_command h (rosterPlan_carrierCommand (rosterPlan_ite (fun accepted => ?_)
      fun _ => rosterPlan_refused _))
    simp only [Bool.and_eq_true, decide_eq_true_eq] at accepted
    obtain ⟨idle, -⟩ := accepted
    exact rosterPlan_attach _ _ idle fun own => .inl ⟨_, _, rfl, own, by rw [own]⟩
  | detach =>
    refine rosterBy_of_command h (rosterPlan_carrierCommand ?_)
    split
    · exact rosterPlan_kept (rosterOf_routeEnd ..)
    · exact rosterPlan_kept (rosterOf_halt ..)
    · exact rosterPlan_refused _
    · exact rosterPlan_refused _
    · exact rosterPlan_refused _
    · exact rosterPlan_refused _
  | stop =>
    exact rosterBy_of_command h (rosterPlan_carrierCommand (rosterPlan_ite
      (fun _ => rosterPlan_kept (rosterOf_halt ..)) fun _ => rosterPlan_refused _))
  | recover =>
    refine rosterBy_of_command h (rosterPlan_carrierCommand (rosterPlan_ite (fun _ => rosterPlan_kept ?_)
      fun _ => rosterPlan_refused _))
    rw [rosterOf_later _ _ (by simp)]
    exact rosterOf_trim ..
  | retire =>
    exact rosterBy_of_command h (rosterPlan_carrierCommand (rosterPlan_ite (fun _ => rosterPlan_refused _)
      fun _ => rosterPlan_retire _ fun own => .inl ⟨_, rfl, own⟩))
  | clearAlerts =>
    simp only [exec, execClearAlerts] at h
    exact rosterBy_of_command h (rosterPlan_done rfl)
  | setAlertEnable =>
    simp only [exec, execSetAlertEnable] at h
    exact rosterBy_of_command h (rosterPlan_done rfl)
  | readStatus =>
    simp only [exec, execReadStatus] at h
    exact rosterBy_of_command h (rosterPlan_done rfl)
  | readCell => exact rosterBy_of_command h (rosterPlan_query ..)
  | readCarrier => exact rosterBy_of_command h (rosterPlan_query ..)
  | readCorridor => exact rosterBy_of_command h (rosterPlan_query ..)
  | readGate => exact rosterBy_of_command h (rosterPlan_query ..)
  | readDeadlock => exact rosterBy_of_command h (rosterPlan_query ..)
  | readLink =>
    refine rosterBy_of_command h (rosterPlan_ite (fun _ => rosterPlan_done ?_) fun _ => rosterPlan_refused _)
    split
    · rfl
    · rfl
  | readTransfer => exact rosterBy_of_shiftBuffer h
  | unknownCommand => exact rosterBy_unknownCommand h
  | estopNLevelChange => exact rosterBy_estopNLevelChange h
  | hardReset =>
    cases h
    exact rosterBy_hardReset _ (.inr (.inr (.inl rfl))) fun _ => .inr (.inl rfl)
  | resetNRelease clrate =>
    change execResetNRelease clrate s = .next t at h
    unfold execResetNRelease at h
    split at h
    · cases h
      exact rosterBy_hardReset _ (.inr (.inr (.inr ⟨_, rfl⟩))) fun _ => .inr (.inr ⟨_, rfl⟩)
    · cases h
      exact rosterBy_refl _
  | tick => exact rosterBy_tick h
  | clearanceCountdownExpiry =>
    simp only [exec, execClearanceCountdownExpiry] at h
    exact rosterBy_of_event h (fun e v => rosterOf_clearanceRun e v _)
  | silenceLimit =>
    simp only [exec, execSilenceLimit] at h
    exact rosterBy_of_event h (fun e v => rosterOf_silenceReached e v _)
  | lostLimit =>
    simp only [exec, execLostLimit] at h
    exact rosterBy_of_event h (fun e v => rosterOf_lostReached e v _)
  | callTimerExpiry =>
    simp only [exec, execCallTimerExpiry] at h
    exact rosterBy_of_event h (fun e v => by simp)
  | holdOpenExpiry =>
    simp only [exec, execHoldOpenExpiry] at h
    exact rosterBy_of_event h (fun e v => by simp)
  | readTimerExpiry =>
    simp only [exec, execReadTimerExpiry] at h
    exact rosterBy_of_event h rosterOf_readTimerExpires
  | readyChange => exact rosterBy_readyChange h
  | pePerstNAsserted => exact rosterBy_pePerstNAsserted h
  | pePerstNReleased =>
    cases h
    exact rosterBy_refl _
  | ask =>
    simp only [exec, execAsk] at h
    exact rosterBy_of_event h (fun e v => rosterOf_goodFrame ..)
  | pass =>
    simp only [exec, execPass] at h
    exact rosterBy_of_event h (fun e v => rosterOf_goodFrame ..)
  | done =>
    simp only [exec, execDone] at h
    exact rosterBy_of_event h (fun e v => rosterOf_goodFrame ..)
  | frameFailure =>
    simp only [exec, execFrameFailure] at h
    exact rosterBy_of_event h (fun e v => rfl)
  | readCompletion =>
    simp only [exec, execReadCompletion] at h
    exact rosterBy_of_event h (fun e v => rosterOf_completionArrives ..)
  | serveFetch =>
    simp only [exec, execServeFetch] at h
    exact rosterBy_of_event h (fun _ v => rosterOf_serveFetch v)
  | serveWriteBack =>
    simp only [exec, execServeWriteBack] at h
    exact rosterBy_of_event h (fun _ v => rosterOf_serveWriteBack v)
  | transmissionStart =>
    simp only [exec, execTransmissionStart] at h
    exact rosterBy_of_event h (fun _ _ => rfl)
  | transmissionComplete =>
    simp only [exec, execTransmissionComplete] at h
    exact rosterBy_of_event h (fun _ _ => rfl)
  | characterReceived =>
    simp only [exec, execCharacterReceived] at h
    exact rosterBy_of_event h (fun e v => rosterOf_characterRun ..)

end Sys2Proof.Proofs
end

section
/-! What the canonical form, the engine queue's law and the windows' law read of the records (O8, O10), and what each change
of one record does to the three. -/

namespace Sys2Proof.Proofs

open Sys2Proof.Machine Sys2Proof.Laws

/-! ## Tables in canonical form -/

section
variable {α : Type} [DecidableEq α] {t : Table α} {d : α}

/-- The numbers of a table rise strictly, and no listed record is the one an unlisted number reads as. -/
def Canonical (t : Table α) (d : α) : Prop := Table.wf t = true ∧ Table.trimmed t d = true

theorem trimmed_iff : Table.trimmed t d = true ↔ ∀ p ∈ t, p.2 ≠ d := by
  simp [Table.trimmed]

theorem canonical_nil : Canonical ([] : Table α) d := ⟨rfl, rfl⟩

omit [DecidableEq α] in
/-- The records of a table after one is set are the one set and some of those before. -/
theorem mem_set {n : Nat} {a : α} {p : Nat × α} (h : p ∈ Table.set t n a) : p = (n, a) ∨ p ∈ t := by
  induction t with
  | nil => exact .inl (List.mem_singleton.mp h)
  | cons q rest ih =>
    rw [Table.set] at h
    split at h
    · exact List.mem_cons.mp h
    · split at h
      · exact (List.mem_cons.mp h).imp_right (List.mem_cons_of_mem _)
      · rcases List.mem_cons.mp h with rfl | inner
        · exact .inr (List.mem_cons_self ..)
        · exact (ih inner).imp_right (List.mem_cons_of_mem _)

theorem Canonical.put (h : Canonical t d) (n : Nat) (a : α) : Canonical (Table.put t d n a) d := by
  obtain ⟨rising, listed⟩ := h
  refine ⟨Table.wf_put t d n a rising, ?_⟩
  rw [trimmed_iff] at listed ⊢
  intro p mem
  unfold Table.put at mem
  split at mem
  · exact listed p (List.mem_of_mem_filter mem)
  next other =>
    rcases mem_set mem with rfl | before
    · exact other
    · exact listed p before

/-- Records rewritten by number, with those that have come to read as unlisted ones left out. -/
theorem canonical_map_filter {β : Type} {t : Table β} (h : Table.wf t = true) (g : β → α) (d : α) :
    Canonical ((t.map (fun p => (p.1, g p.2))).filter (fun p => p.2 != d)) d := by
  refine ⟨Table.wf_filter _ _ (Table.wf_map t (fun _ => g) h), trimmed_iff.mpr fun p mem => ?_⟩
  exact bne_iff_ne.mp (List.mem_filter.mp mem).2

end

/-- The records of a part in canonical form. -/
structure CanonicalRecords (r : Records) : Prop where
  cells : Table.wf r.cells = true
  reservations : Canonical r.reservations []
  corridors : Table.wf r.corridors = true
  gates : Table.wf r.gates = true
  carriers : Canonical r.carriers Context.vacant
  slots : Canonical r.slots Slot.blank
  links : Canonical r.links Link.reset
  deadlocks : Table.wf r.deadlocks = true
  marks : Table.wf r.marks = true

/-- The tables of a setting in canonical form. -/
structure CanonicalSetting (e : Setting) : Prop where
  cells : Table.wf e.map.cells = true
  corridors : Table.wf e.map.corridors = true
  gates : Table.wf e.map.gates = true
  classes : Table.wf e.map.classes = true
  ready : Canonical e.ready .low

theorem canonical_iff (s : State) : s.canonical = true ↔ CanonicalSetting s.setting ∧ CanonicalRecords s.records := by
  simp only [State.canonical, Bool.and_eq_true]
  constructor
  · rintro ⟨⟨⟨⟨⟨⟨⟨⟨⟨⟨⟨⟨⟨⟨⟨⟨⟨⟨m1, m2⟩, m3⟩, m4⟩, m5⟩, m6⟩, cells⟩, r1⟩, r2⟩, corridors⟩, gates⟩, c1⟩, c2⟩, s1⟩, s2⟩, l1⟩, l2⟩,
      deadlocks⟩, marks⟩
    exact ⟨⟨m1, m2, m3, m4, m5, m6⟩, ⟨cells, ⟨r1, r2⟩, corridors, gates, ⟨c1, c2⟩, ⟨s1, s2⟩, ⟨l1, l2⟩, deadlocks, marks⟩⟩
  · rintro ⟨⟨m1, m2, m3, m4, m5, m6⟩, ⟨cells, ⟨r1, r2⟩, corridors, gates, ⟨c1, c2⟩, ⟨s1, s2⟩, ⟨l1, l2⟩, deadlocks, marks⟩⟩
    exact ⟨⟨⟨⟨⟨⟨⟨⟨⟨⟨⟨⟨⟨⟨⟨⟨⟨⟨m1, m2⟩, m3⟩, m4⟩, m5⟩, m6⟩, cells⟩, r1⟩, r2⟩, corridors⟩, gates⟩, c1⟩, c2⟩, s1⟩, s2⟩, l1⟩, l2⟩,
      deadlocks⟩, marks⟩

/-! ## Routes -/

/-- What the engine queue's law and the windows' law read of a carrier's context (R80, R107). -/
structure RouteView where
  base : Nat
  size : Nat
  count : Nat
  next : Nat
  generation : Byte
  address : Bool
  routed : Bool
  enrolled : Bool

def routeView (k : Context) : RouteView :=
  { base := k.windowBase, size := k.windowSize, count := k.windowCount, next := k.nextStep, generation := k.generation
    address := k.routeAddr.isSome, routed := k.state.routed, enrolled := k.state != .vacant }

/-- The routes of every carrier. -/
def routesOf (r : Records) (c : Nat) : RouteView := routeView (Table.at r.carriers Context.vacant c)

/-- The free slots of a window (R107). -/
def RouteView.free (w : RouteView) : Nat := w.size - w.count

/-- A read still belongs to a route (R114). -/
def RouteView.awaits (w : RouteView) (r : ReadInFlight) : Prop :=
  w.enrolled = true ∧ w.generation = r.generation ∧ w.address = true

/-- Two windows without a common slot. -/
def RouteView.apart (a b : RouteView) : Prop := a.base + a.size ≤ b.base ∨ b.base + b.size ≤ a.base

/-- A window of a size of R107, aligned, in the step store, that holds no more steps than fit and than were fetched. -/
structure RouteView.Sound (w : RouteView) : Prop where
  sizes : w.size = 8 ∨ w.size = 16 ∨ w.size = 32
  aligned : w.base % w.size = 0
  stored : w.base + w.size ≤ Config.slots
  fits : w.count ≤ w.size
  fetched : w.count ≤ w.next

/-- The engine queue's law (R109) on routes. -/
structure QueueLaw (routes : Nat → RouteView) (g : Engine) : Prop where
  fetches : g.fetching.Nodup
  writeBacks : g.writingBack.Nodup
  address : ∀ c, (routes c).address = (routes c).routed
  fetchers : ∀ c ∈ g.fetching, (routes c).routed = true
  writers : ∀ c ∈ g.writingBack, (routes c).routed = false

/-- The windows' law (R107, R112, R113) on routes, with the read in flight. -/
structure WindowsLaw (routes : Nat → RouteView) (reading : Option ReadInFlight) : Prop where
  sound : ∀ c, (routes c).Sound
  apart : ∀ c d, c < Config.carriers → d < Config.carriers → c ≠ d → (routes c).enrolled = true →
    (routes d).enrolled = true → (routes c).apart (routes d)
  small : ∀ r, reading = some r → r.records ≤ Config.stepReadLimit
  room : ∀ r, reading = some r → (routes r.carrier).awaits r → r.records ≤ (routes r.carrier).free

theorem queueLaw_iff (s : State) : s.engineQueueBounded ↔ QueueLaw (routesOf s.records) s.records.engine :=
  ⟨fun ⟨fetches, writeBacks, address, fetchers, writers⟩ => ⟨fetches, writeBacks, address, fetchers, writers⟩,
    fun ⟨fetches, writeBacks, address, fetchers, writers⟩ => ⟨fetches, writeBacks, address, fetchers, writers⟩⟩

theorem readAccepted_iff (v : Run) (r : ReadInFlight) :
    readAccepted v r = true ↔ (routesOf v.records r.carrier).awaits r := by
  change (_ && _ && _) = true ↔ _
  rw [Bool.and_eq_true, Bool.and_eq_true, beq_iff_eq, and_assoc]
  rfl

theorem enrolled_iff (k : Context) : (routeView k).enrolled = true ↔ k.state ≠ .vacant := bne_iff_ne

theorem windowsLaw_iff (s : State) :
    s.windowsSound ↔ WindowsLaw (routesOf s.records) s.records.engine.inFlight := by
  constructor
  · rintro ⟨sound, apart, reading⟩
    refine ⟨fun c => ?_, fun c d hc hd other enrolled enrolled' => ?_, fun r flight => (reading r flight).1, fun r flight awaits => ?_⟩
    · obtain ⟨sizes, aligned, stored, fits, fetched⟩ := sound c
      exact ⟨sizes, aligned, stored, fits, fetched⟩
    · exact apart c d hc hd other ((enrolled_iff _).mp enrolled) ((enrolled_iff _).mp enrolled')
    · exact (reading r flight).2 ((readAccepted_iff s.run r).mpr awaits)
  · rintro ⟨sound, apart, small, room⟩
    refine ⟨fun c => ?_, fun c d hc hd other enrolled enrolled' => ?_, fun r flight => ⟨small r flight, fun accepted => ?_⟩⟩
    · obtain ⟨sizes, aligned, stored, fits, fetched⟩ := sound c
      exact ⟨sizes, aligned, stored, fits, fetched⟩
    · exact apart c d hc hd other ((enrolled_iff _).mpr enrolled) ((enrolled_iff _).mpr enrolled')
    · exact room r flight ((readAccepted_iff s.run r).mp accepted)

/-! ## One route changed -/

section
variable {routes : Nat → RouteView} {g g' : Engine} {reading : Option ReadInFlight} {c : Nat} {w : RouteView}

/-- One carrier's route changed, its place in the queue agreeing with the route it has now. -/
theorem QueueLaw.update (law : QueueLaw routes g) (address : w.address = w.routed)
    (fetches : c ∈ g.fetching → w.routed = true) (writes : c ∈ g.writingBack → w.routed = false) :
    QueueLaw (Function.update routes c w) g := by
  refine ⟨law.fetches, law.writeBacks, fun d => ?_, fun d mem => ?_, fun d mem => ?_⟩
  all_goals by_cases here : d = c
  all_goals simp only [Function.update_apply, here, if_true, if_false]
  · exact address
  · exact law.address d
  · exact fetches (here ▸ mem)
  · exact law.fetchers d mem
  · exact writes (here ▸ mem)
  · exact law.writers d mem

/-- A route ends: the carrier's fetch leaves the queue, and a write-back joins it where there was a route (R85, R119). -/
theorem QueueLaw.ended (law : QueueLaw routes g) (address : w.address = false) (routed : w.routed = false)
    (fetching : g'.fetching = g.fetching.filter (· != c))
    (writing : g'.writingBack = g.writingBack ++ if (routes c).address then [c] else []) :
    QueueLaw (Function.update routes c w) g' := by
  have unfetched (d : Nat) (mem : d ∈ g'.fetching) : d ∈ g.fetching ∧ d ≠ c := by
    rw [fetching, List.mem_filter] at mem
    exact mem.imp_right bne_iff_ne.mp
  have once : c ∈ g.writingBack → (routes c).address = false := fun mem => (law.address c).trans (law.writers c mem)
  refine ⟨fetching ▸ law.fetches.filter _, ?_, fun d => ?_, fun d mem => ?_, fun d mem => ?_⟩
  · rw [writing]
    split
    next some =>
      refine law.writeBacks.append (List.nodup_singleton c) (List.disjoint_singleton.mpr fun mem => ?_)
      rw [once mem] at some
      cases some
    · rw [List.append_nil]
      exact law.writeBacks
  · by_cases here : d = c
    · simp only [Function.update_apply, here, if_true, address, routed]
    · simp only [Function.update_apply, here, if_false, law.address d]
  · obtain ⟨before, other⟩ := unfetched d mem
    simp only [Function.update_apply, other, if_false, law.fetchers d before]
  · by_cases here : d = c
    · simp only [Function.update_apply, here, if_true, routed]
    · simp only [Function.update_apply, here, if_false]
      refine law.writers d ((List.mem_append.mp (writing ▸ mem)).resolve_right fun last => here ?_)
      split at last
      · exact List.mem_singleton.mp last
      · cases last

/-- One carrier's window changed to a sound one, apart from the others', with room for a read that is still its own. -/
theorem WindowsLaw.update (law : WindowsLaw routes reading) (sound : w.Sound)
    (apart : ∀ d, d ≠ c → c < Config.carriers → d < Config.carriers → w.enrolled = true → (routes d).enrolled = true →
      w.apart (routes d))
    (room : ∀ r, reading = some r → r.carrier = c → w.awaits r → r.records ≤ w.free) :
    WindowsLaw (Function.update routes c w) reading := by
  refine ⟨fun d => ?_, fun d d' hd hd' other enrolled enrolled' => ?_, law.small, fun r flight awaits => ?_⟩
  · by_cases here : d = c
    · simp only [Function.update_apply, here, if_true, sound]
    · simp only [Function.update_apply, here, if_false, law.sound d]
  · by_cases here : d = c
    · subst here
      simp only [Function.update_apply, if_true, Ne.symm other, if_false] at enrolled enrolled' ⊢
      exact apart d' (Ne.symm other) hd hd' enrolled enrolled'
    · by_cases there : d' = c
      · subst there
        simp only [Function.update_apply, if_true, other, if_false] at enrolled enrolled' ⊢
        exact (apart d other hd' hd enrolled' enrolled).symm
      · simp only [Function.update_apply, here, there, if_false] at enrolled enrolled' ⊢
        exact law.apart d d' hd hd' other enrolled enrolled'
  · by_cases here : r.carrier = c
    · simp only [Function.update_apply, here, if_true] at awaits ⊢
      exact room r flight here awaits
    · simp only [Function.update_apply, here, if_false] at awaits ⊢
      exact law.room r flight awaits

/-- Without a read in flight there is no read to find room for. -/
theorem WindowsLaw.over (law : WindowsLaw routes reading) : WindowsLaw routes none := ⟨law.sound, law.apart, nofun, nofun⟩

end

theorem routesOf_modCtx (v : Run) (c : Nat) (f : Context → Context) :
    routesOf (v.modCtx c f).records = Function.update (routesOf v.records) c (routeView (f (v.ctx c))) := by
  funext d
  by_cases here : d = c
  · subst here
    rw [Function.update_self]
    exact congrArg routeView (Run.ctx_modCtx_self ..)
  · rw [Function.update_of_ne here]
    exact congrArg routeView (Run.ctx_modCtx_other _ _ here)

end Sys2Proof.Proofs
end

section
/-! Updates of one record, wait edges, the gate unit, windows and links keep the canonical form, the engine queue's law and
the windows' law (O8, O10). -/

namespace Sys2Proof.Proofs

open Sys2Proof.Machine Sys2Proof.Laws

/-- Whichever of the canonical form, the engine queue's law and the windows' law hold of the records `q` hold of `r`. -/
structure FormKept (q r : Records) : Prop where
  canonical : CanonicalRecords q → CanonicalRecords r
  queue : QueueLaw (routesOf q) q.engine → QueueLaw (routesOf r) r.engine
  windows : WindowsLaw (routesOf q) q.engine.inFlight → WindowsLaw (routesOf r) r.engine.inFlight

theorem formKept_refl (r : Records) : FormKept r r := ⟨id, id, id⟩

theorem FormKept.trans {p q r : Records} (h : FormKept p q) (g : FormKept q r) : FormKept p r :=
  ⟨g.canonical ∘ h.canonical, g.queue ∘ h.queue, g.windows ∘ h.windows⟩

/-- What holds of the records `q` holds of the records of the run `v`. -/
abbrev RunForm (q : Records) (v : Run) : Prop := FormKept q v.records

section
variable {q : Records} {e : Setting} {v u : Run} {c g k l n x : Nat}

/-! ## Updates of one record -/

/-- A change of records other than contexts and the engine's. -/
theorem form_tables (h : RunForm q v) (carriers : u.records.carriers = v.records.carriers)
    (engine : u.records.engine = v.records.engine) (canonical : CanonicalRecords v.records → CanonicalRecords u.records) :
    RunForm q u := by
  have routes : routesOf u.records = routesOf v.records := funext fun c => by rw [routesOf, carriers, routesOf]
  refine ⟨canonical ∘ h.canonical, ?_, ?_⟩
  · rw [routes, engine]
    exact h.queue
  · rw [routes, engine]
    exact h.windows

theorem CanonicalRecords.modCtx {f : Context → Context} (law : CanonicalRecords v.records) :
    CanonicalRecords (v.modCtx c f).records := { law with carriers := law.carriers.put c (f (v.ctx c)) }

/-- No engine's record is in a table. -/
theorem CanonicalRecords.setEngine {eng : Engine} (law : CanonicalRecords v.records) :
    CanonicalRecords (v.setEngine eng).records := { law with }

/-- A change of a context that finds and leaves the same route. -/
theorem form_modCtx_at {f : Context → Context} (h : RunForm q v)
    (same : routeView (f (v.ctx c)) = routeView (v.ctx c)) : RunForm q (v.modCtx c f) := by
  have routes : routesOf (v.modCtx c f).records = routesOf v.records := by
    rw [routesOf_modCtx, same]
    exact Function.update_eq_self c _
  refine ⟨fun law => (h.canonical law).modCtx, ?_, ?_⟩
  · rw [routes]
    exact h.queue
  · rw [routes]
    exact h.windows

/-- A change of a context in fields that are no part of its route. -/
theorem form_modCtx {f : Context → Context} (h : RunForm q v)
    (same : ∀ k, routeView (f k) = routeView k := by exact fun _ => rfl) : RunForm q (v.modCtx c f) :=
  form_modCtx_at h (same _)

theorem form_setCell {r : CellRun} (h : RunForm q v) : RunForm q (v.setCell x r) :=
  form_tables h rfl rfl fun law => { law with cells := Table.wf_set _ x r law.cells }

theorem form_setReservations {p : List (Nat × Nat)} (h : RunForm q v) : RunForm q (v.setReservations c p) :=
  form_tables h rfl rfl fun law => { law with reservations := law.reservations.put c p }

theorem form_setSeniority {p : List Nat} (h : RunForm q v) : RunForm q (v.setSeniority p) :=
  form_tables h rfl rfl fun law => { law with }

theorem form_setCorridor {r : CorridorRun} (h : RunForm q v) : RunForm q (v.setCorridor k r) :=
  form_tables h rfl rfl fun law => { law with corridors := Table.wf_set _ k r law.corridors }

theorem form_modGate {f : GateRun → GateRun} (h : RunForm q v) : RunForm q (v.modGate g f) :=
  form_tables h rfl rfl fun law => { law with gates := Table.wf_update _ g f law.gates }

theorem form_setSlot {s : Slot} (h : RunForm q v) : RunForm q (v.setSlot n s) :=
  form_tables h rfl rfl fun law => { law with slots := law.slots.put n s }

theorem form_setLink {r : Link} (h : RunForm q v) : RunForm q (v.setLink l r) :=
  form_tables h rfl rfl fun law => { law with links := law.links.put l r }

theorem form_raise {f : AlertFlag} (h : RunForm q v) : RunForm q (v.raise f) :=
  form_tables h rfl rfl fun law => { law with }

theorem form_later {ts : List Task} (h : RunForm q v) : RunForm q (v.later ts) := h

theorem form_ite {p : Prop} [Decidable p] {a b : Run} (ha : p → RunForm q a) (hb : ¬p → RunForm q b) :
    RunForm q (if p then a else b) := by
  split
  next here => exact ha here
  next here => exact hb here

theorem form_foldl {α : Type} {f : Run → α → Run} (hf : ∀ v a, RunForm q v → RunForm q (f v a)) {p : List α}
    (h : RunForm q v) : RunForm q (p.foldl f v) := by
  induction p generalizing v with
  | nil => exact h
  | cons a rest ih => exact ih (hf v a h)

/-! ## Wait edges and recomputations (Chapter 8, R31) -/

theorem form_retireRecord (h : RunForm q v) : RunForm q (v.retireRecord n) :=
  form_tables h rfl rfl fun law =>
    { law with deadlocks := Table.wf_erase _ n law.deadlocks, marks := Table.wf_filter _ _ law.marks }

theorem form_retireMark (h : RunForm q v) : RunForm q (v.retireMark c) := by
  unfold Run.retireMark
  split
  · exact form_retireRecord h
  · exact h

/-- The marks of a ring's members keep their order (R138). -/
theorem wf_foldl_set {α : Type} {t : Table α} (a : α) (members : List Nat) (h : Table.wf t = true) :
    Table.wf (members.foldl (fun t c => Table.set t c a) t) = true := by
  induction members generalizing t with
  | nil => exact h
  | cons c rest ih => exact ih (Table.wf_set t c a h)

theorem form_recordRing {members : List Nat} (h : RunForm q v) : RunForm q (recordRing e v members) := by
  unfold recordRing
  split
  · exact form_raise h
  · refine form_raise (form_tables h rfl rfl fun law => ?_)
    exact { law with deadlocks := Table.wf_set _ _ _ law.deadlocks, marks := wf_foldl_set _ members law.marks }

theorem form_walkFrom {t : Nat} (h : RunForm q v) : RunForm q (walkFrom e v c t) := by
  unfold walkFrom
  split
  · exact form_recordRing h
  · exact h

theorem form_reportEdge {previous new : Option Nat} (h : RunForm q v) : RunForm q (reportEdge e v c previous new) := by
  unfold reportEdge
  split
  · exact h
  · exact form_retireMark h
  · exact form_ite (fun _ => form_ite (fun _ => h) fun _ => form_walkFrom h) fun _ => form_walkFrom (form_retireMark h)

theorem form_setEdge {t : Option Nat} (h : RunForm q v) : RunForm q (setEdge e v c t) := form_reportEdge (form_modCtx h)

theorem form_changeEdge {t : Option Nat} (h : RunForm q v) : RunForm q (changeEdge e v c t) :=
  form_ite (fun _ => h) fun _ => form_setEdge h

theorem form_clearWait (h : RunForm q v) : RunForm q (clearWait e v c) := form_modCtx (form_setEdge h)

theorem form_recomputeWaiter (h : RunForm q v) : RunForm q (recomputeWaiter e x v c) := by
  unfold recomputeWaiter
  split
  · exact h
  · refine form_ite (fun _ => ?_) fun _ => h
    split
    · exact form_changeEdge h
    · exact form_changeEdge (form_setCell h)

theorem form_recompute (h : RunForm q v) : RunForm q (recompute e v x) := form_foldl (fun _ _ => form_recomputeWaiter) h

theorem form_recomputeEnds (h : RunForm q v) : RunForm q (recomputeEnds e v k) := form_foldl (fun _ _ => form_recompute) h

/-! ## The gate unit (Chapter 7) -/

theorem form_gateBusy (h : RunForm q v) : RunForm q (gateBusy v g) := form_ite (fun _ => form_modGate h) fun _ => h

theorem form_startHold (h : RunForm q v) : RunForm q (startHold e v g) := by
  unfold startHold
  split
  · exact form_ite (fun _ => form_later h) fun _ => form_modGate h
  · exact h

theorem form_gateIdleCheck (h : RunForm q v) : RunForm q (gateIdleCheck e v g) :=
  form_ite (fun _ => form_startHold h) fun _ => h

theorem form_queueFilled (h : RunForm q v) : RunForm q (queueFilled e v x) := by
  unfold queueFilled
  split
  · exact form_gateBusy h
  · exact h

theorem form_queueEmptied (h : RunForm q v) : RunForm q (queueEmptied e v x) := by
  unfold queueEmptied
  split
  · exact form_gateIdleCheck h
  · exact h

theorem form_gateReleased (h : RunForm q v) : RunForm q (gateReleased e v g) :=
  form_ite (fun _ => h) fun _ => form_ite (fun _ => form_later h) fun _ => form_gateIdleCheck h

theorem form_gateOpens (h : RunForm q v) : RunForm q (gateOpens v g) := by
  have opened : RunForm q (v.modGate g fun r => { r with state := .opened, timer := none, due := false }) := form_modGate h
  unfold gateOpens
  dsimp only
  repeat' split
  all_goals exact opened

theorem form_gateCalls (h : RunForm q v) : RunForm q (gateCalls e v g) :=
  form_ite (fun _ => form_gateOpens (form_modGate h)) fun _ => form_modGate h

theorem form_owe (h : RunForm q v) : RunForm q (v.owe g) := form_modGate h

theorem form_gateCall (h : RunForm q v) : RunForm q (gateCall e v g) := by
  unfold gateCall
  split
  · exact h
  · split
    · split
      · exact form_gateCalls h
      · exact form_ite (fun _ => form_later (form_owe h)) fun _ => form_ite (fun _ => form_owe h) fun _ => form_gateCalls h
    · exact form_owe h
    all_goals exact h

theorem form_gateOpened (h : RunForm q v) : RunForm q (gateOpened e v g) := by
  refine form_ite (fun _ => ?_) fun _ => h
  split <;> exact form_later h

theorem form_gateAfterOffer (h : RunForm q v) : RunForm q (gateAfterOffer e v g) := by
  have closed : RunForm q { v with opening := v.opening.erase g } := h
  exact form_ite (fun _ => form_ite (fun _ => form_later closed) fun _ => form_gateIdleCheck closed) fun _ => closed

theorem form_gateDrain (h : RunForm q v) : RunForm q (gateDrain e v g) := by
  refine form_ite (fun _ => ?_) fun _ => h
  exact form_ite (fun _ => form_modGate h) fun _ => form_later (form_modGate h)

theorem form_gateShut (h : RunForm q v) : RunForm q (gateShut v g) :=
  form_ite (fun _ => form_modGate (f := fun r => { r with state := .shut, timer := none, due := false }) h) fun _ => h

theorem form_gateOwedPartner (h : RunForm q v) : RunForm q (gateOwedPartner e v g) := by
  unfold gateOwedPartner
  split
  · exact h
  · exact form_ite (fun _ => form_gateCalls h) fun _ => h

theorem form_gateOwedSelf (h : RunForm q v) : RunForm q (gateOwedSelf e v g) :=
  form_ite (fun _ => h) fun _ => form_gateCall h

theorem form_gateFaults (h : RunForm q v) : RunForm q (gateFaults e v g) := by
  have faulted : RunForm q (v.modGate g fun _ => { state := .fault, callPending := false, timer := none, due := false }) :=
    form_modGate h
  exact form_later (form_raise faulted)

/-! ## Links (Chapter 9) -/

theorem form_placeOn {m : Message} (h : RunForm q v) : RunForm q (placeOn v l m) :=
  form_ite (fun _ => form_raise (form_setLink h)) fun _ => form_setLink h

theorem form_send {p : Payload} (h : RunForm q v) : RunForm q (send v c p) := by
  unfold send
  split
  · exact form_placeOn h
  · exact h

theorem form_sendStop (h : RunForm q v) : RunForm q (sendStop v c) := by
  unfold sendStop
  split
  · exact form_send h
  · exact h

theorem form_setHome (h : RunForm q v) : RunForm q (setHome v c l) := by
  refine form_modCtx ?_
  split
  · exact form_ite (fun _ => h) fun _ => form_setLink h
  · exact h

theorem form_removeMessages (h : RunForm q v) : RunForm q (removeMessages v c) := form_foldl (fun _ _ => form_setLink) h

/-! ## The corridor unit (Chapter 4) -/

theorem form_appointTurn (h : RunForm q v) : RunForm q (appointTurn e v k) := by
  refine form_ite (fun _ => ?_) fun _ => h
  split
  · exact h
  · split
    · exact form_setCorridor h
    · exact h

theorem form_corridorEnter {position : Nat} (h : RunForm q v) : RunForm q (corridorEnter e v k position c) :=
  form_recomputeEnds (form_appointTurn (form_setCorridor h))

theorem form_corridorFailed (h : RunForm q v) : RunForm q (corridorFailed e v k c) :=
  form_ite (fun _ => form_recomputeEnds (form_setCorridor h)) fun _ => h

theorem form_corridorLeave (h : RunForm q v) : RunForm q (corridorLeave e v k c) := by
  refine form_ite (fun _ => ?_) fun _ => form_recomputeEnds (form_setCorridor h)
  split
  · exact form_later (form_recomputeEnds (form_setCorridor h))
  · exact form_later (form_recomputeEnds (form_setCorridor h))
  all_goals exact form_recomputeEnds (form_setCorridor h)

theorem form_cancelTurn (h : RunForm q v) : RunForm q (cancelTurn e v k) :=
  form_ite (fun _ => form_later (form_recomputeEnds (form_setCorridor h)))
    fun _ => form_recomputeEnds (form_appointTurn (form_setCorridor h))

theorem form_cancelTurns (h : RunForm q v) : RunForm q (cancelTurns e v c) :=
  form_foldl (fun _ _ h => form_ite (fun _ => form_cancelTurn h) fun _ => h) h

/-! ## Queues and reservations (R23, R24, R33, R34) -/

theorem form_takeFrom (h : RunForm q v) : RunForm q (v.takeFrom x c) := form_setCell h

theorem form_leaveQueue (h : RunForm q v) : RunForm q (leaveQueue e v c) := by
  unfold leaveQueue
  split
  · exact form_setSeniority h
  next y _ =>
    have taken : RunForm q ((v.takeFrom y c).dropSeniority c) := form_setSeniority (form_takeFrom h)
    exact form_ite (fun _ => form_queueEmptied taken) fun _ => taken

theorem form_leaveWaiting (h : RunForm q v) : RunForm q (leaveWaiting e v c) := form_clearWait (form_leaveQueue h)

theorem form_reserve {p : Nat × Nat} (h : RunForm q v) : RunForm q (reserve e c v p) :=
  form_ite (fun _ => form_recompute (form_setReservations (form_setCell h))) fun _ => h

theorem form_clearReservations {ps : List (Nat × Nat)} (h : RunForm q v) : RunForm q (clearReservations e v c ps) :=
  form_later (form_foldl (fun _ _ h => form_recompute (form_setReservations (form_setCell h))) h)

end

end Sys2Proof.Proofs
end

section
/-! The engine queue, the windows, and what the rights table, the authority unit and the carrier table do with them keep the
canonical form, the engine queue's law and the windows' law (O8, O10). -/

namespace Sys2Proof.Proofs

open Sys2Proof.Machine Sys2Proof.Laws

/-! ## The engine queue (R109) -/

section
variable {eng : Engine} {c : Nat}

theorem fetchQueued_iff : eng.fetchQueued c = true ↔ c ∈ eng.fetching := by
  rw [Engine.fetchQueued, Engine.fetching, List.any_eq_true, List.mem_filterMap]
  refine exists_congr fun r => and_congr_right fun _ => ?_
  cases r <;> simp

theorem writeBackQueued_iff : eng.writeBackQueued c = true ↔ c ∈ eng.writingBack := by
  rw [Engine.writeBackQueued, Engine.writingBack, List.any_eq_true, List.mem_filterMap]
  refine exists_congr fun r => and_congr_right fun _ => ?_
  cases r <;> simp

theorem fetching_enqueue_fetch (first : Bool) : (eng.enqueue (.fetch c first)).fetching = eng.fetching ++ [c] :=
  List.filterMap_append

theorem writingBack_enqueue_fetch (first : Bool) : (eng.enqueue (.fetch c first)).writingBack = eng.writingBack :=
  List.filterMap_append.trans (List.append_nil _)

theorem fetching_enqueue_writeBack (a : Address) (result : RouteResult) (step used : Nat) (generation : Byte) :
    (eng.enqueue (.writeBack c a result step used generation)).fetching = eng.fetching :=
  List.filterMap_append.trans (List.append_nil _)

theorem writingBack_enqueue_writeBack (a : Address) (result : RouteResult) (step used : Nat) (generation : Byte) :
    (eng.enqueue (.writeBack c a result step used generation)).writingBack = eng.writingBack ++ [c] :=
  List.filterMap_append

theorem fetching_dropFetch : (eng.dropFetch c).fetching = eng.fetching.filter (· != c) := by
  rw [Engine.fetching, Engine.fetching, List.filter_filterMap, Engine.dropFetch, List.filterMap_filter]
  refine List.filterMap_congr fun r _ => ?_
  cases r with
  | fetch d _ => by_cases same : d = c <;> simp [same, Option.filter]
  | writeBack => rfl

theorem writingBack_dropFetch : (eng.dropFetch c).writingBack = eng.writingBack := by
  rw [Engine.writingBack, Engine.writingBack, Engine.dropFetch, List.filterMap_filter]
  refine List.filterMap_congr fun r _ => ?_
  cases r with
  | fetch d _ => by_cases same : d = c <;> simp [same]
  | writeBack => rfl

end

section
variable {q : Records} {e : Setting} {v u : Run} {c x y j : Nat} {result : RouteResult}

/-- The engine's records changed with at most fewer requests queued and no other read in flight. -/
theorem form_setEngine {eng : Engine} (h : RunForm q v) (queue : eng.queue.Sublist v.records.engine.queue)
    (reading : ∀ r, eng.inFlight = some r → ∃ o, v.records.engine.inFlight = some o ∧ r.carrier = o.carrier ∧
      r.generation = o.generation ∧ r.records = o.records) : RunForm q (v.setEngine eng) := by
  have fetching : eng.fetching.Sublist v.records.engine.fetching := queue.filterMap _
  have writing : eng.writingBack.Sublist v.records.engine.writingBack := queue.filterMap _
  refine ⟨fun law => (h.canonical law).setEngine, fun law => ?_, fun law => ?_⟩
  · obtain ⟨fetches, writeBacks, address, fetchers, writers⟩ := h.queue law
    exact ⟨fetches.sublist fetching, writeBacks.sublist writing, address, fun d mem => fetchers d (fetching.subset mem),
      fun d mem => writers d (writing.subset mem)⟩
  · obtain ⟨sound, apart, small, room⟩ := h.windows law
    refine ⟨sound, apart, fun r flight => ?_, fun r flight awaits => ?_⟩
    · obtain ⟨o, old, -, -, size⟩ := reading r flight
      exact size ▸ small o old
    · obtain ⟨o, old, carrier, generation, size⟩ := reading r flight
      obtain ⟨enrolled, agrees, address⟩ := awaits
      rw [carrier] at enrolled agrees address ⊢
      exact size ▸ room o old ⟨enrolled, agrees.trans generation, address⟩

/-- A fetch request queued for a carrier with a route and none queued. -/
theorem form_enqueue_fetch {first : Bool} (h : RunForm q v) (routed : (v.ctx c).state.routed = true)
    (new : QueueLaw (routesOf q) q.engine → c ∉ v.records.engine.fetching) :
    RunForm q (v.setEngine (v.records.engine.enqueue (.fetch c first))) := by
  refine ⟨fun law => (h.canonical law).setEngine, fun law => ?_, h.windows⟩
  obtain ⟨fetches, writeBacks, address, fetchers, writers⟩ := h.queue law
  have fetching : (v.setEngine (v.records.engine.enqueue (.fetch c first))).records.engine.fetching =
    v.records.engine.fetching ++ [c] := fetching_enqueue_fetch first
  have writing : (v.setEngine (v.records.engine.enqueue (.fetch c first))).records.engine.writingBack =
    v.records.engine.writingBack := writingBack_enqueue_fetch first
  refine ⟨?_, writing ▸ writeBacks, address, fun d mem => ?_, fun d mem => writers d (writing ▸ mem)⟩
  · rw [fetching]
    exact fetches.append (List.nodup_singleton c) (List.disjoint_singleton.mpr (new law))
  · rw [fetching] at mem
    rcases List.mem_append.mp mem with before | last
    · exact fetchers d before
    · rw [List.mem_singleton.mp last]
      exact routed

/-- The fetch trigger queues a fetch only for a carrier with a route and none queued (R110). -/
theorem form_fetchTrigger (h : RunForm q v) : RunForm q (fetchTrigger v c) := by
  refine form_ite (fun wanted => ?_) fun _ => h
  simp only [fetchWanted, Bool.and_eq_true, Bool.or_eq_true, beq_iff_eq, Bool.not_eq_true'] at wanted
  obtain ⟨⟨⟨⟨⟨⟨moves, -⟩, -⟩, -⟩, -⟩, unqueued⟩, -⟩ := wanted
  refine form_enqueue_fetch h ?_ fun _ mem => absurd (fetchQueued_iff.mpr mem) (Bool.eq_false_iff.mp unqueued)
  obtain attached | running := moves
  · rw [attached]
    rfl
  · rw [running]
    rfl

/-! ## Windows (R107, R108) -/

/-- Fewer steps in a window, and the rest of the route as it was. -/
theorem form_shorten {f : Context → Context} (h : RunForm q v)
    (same : routeView (f (v.ctx c)) = { routeView (v.ctx c) with count := (f (v.ctx c)).windowCount })
    (fewer : (f (v.ctx c)).windowCount ≤ (v.ctx c).windowCount) : RunForm q (v.modCtx c f) := by
  refine ⟨fun law => (h.canonical law).modCtx, fun law => ?_, fun law => ?_⟩
  · have before := h.queue law
    rw [routesOf_modCtx, same]
    exact before.update (before.address c) (before.fetchers c) (before.writers c)
  · have before := h.windows law
    obtain ⟨sizes, aligned, stored, fits, fetched⟩ := before.sound c
    rw [routesOf_modCtx, same]
    refine before.update ⟨sizes, aligned, stored, fewer.trans fits, fewer.trans fetched⟩
      (fun d other hc hd enrolled enrolled' => before.apart c d hc hd (Ne.symm other) enrolled enrolled') ?_
    rintro r flight rfl awaits
    exact (before.room r flight awaits).trans (Nat.sub_le_sub_left fewer _)

theorem form_freeWindow (h : RunForm q v) : RunForm q (freeWindow v c) := by
  refine form_shorten h ?_ ?_
  · split <;> rfl
  · split
    · exact Nat.sub_le ..
    · exact le_refl _

/-! ## Releases (R35, R36, R76) -/

theorem form_release {entries : List Held} (h : RunForm q v) : RunForm q (release e v c entries) :=
  form_ite (fun _ => h) fun _ => form_freeWindow (form_foldl (fun _ _ h => form_later (form_modCtx (form_setCell h))) h)

theorem form_retargetLane {ahead : Option Nat} {holders : List Nat} (h : RunForm q v) :
    RunForm q (retargetLane e x v ahead holders) := by
  induction holders generalizing v ahead with
  | nil => exact h
  | cons d rest ih => exact ih (form_ite (fun _ => form_changeEdge h) fun _ => h)

theorem form_laneClosesUp {wasOldest : Bool} {behind : Option Nat} (h : RunForm q v) :
    RunForm q (laneClosesUp e v x wasOldest behind) := by
  refine form_ite (fun _ => form_later (form_retargetLane h)) fun _ => ?_
  split
  · exact form_ite (fun _ => form_changeEdge h) fun _ => h
  · exact h

theorem form_leaveCorridorOf (h : RunForm q v) : RunForm q (leaveCorridorOf e v c x) := by
  unfold leaveCorridorOf
  split
  · exact h
  · exact form_ite (fun _ => form_corridorLeave h) fun _ => h

theorem form_freed {emptied wasOldest : Bool} {behind : Option Nat} (h : RunForm q v) :
    RunForm q (freed e v c x emptied wasOldest behind) := by
  have left : RunForm q (leaveCorridorOf e (if e.map.isLane x && !emptied then laneClosesUp e v x wasOldest behind else v) c x) :=
    form_leaveCorridorOf (form_ite (fun _ => form_laneClosesUp h) fun _ => h)
  refine form_later ?_
  split
  · exact form_gateReleased left
  · exact left

theorem form_freedSettle {offers : Bool} (h : RunForm q v) : RunForm q (freedSettle e v x offers) :=
  form_ite (fun _ => form_later (form_recompute h)) fun _ => form_recompute h

/-! ## The authority unit (Chapter 3) -/

theorem form_grantCell {p : Nat × Nat} (h : RunForm q v) : RunForm q (grantCell e c v p) :=
  form_modCtx (form_ite (fun _ => form_setReservations (form_setCell h)) fun _ => form_setCell h)

theorem form_enterCorridorOf (h : RunForm q v) : RunForm q (enterCorridorOf e c v x) := by
  unfold enterCorridorOf
  split
  · exact form_ite (fun _ => h) fun _ => form_corridorEnter h
  · exact h

theorem form_grantReport {p : Nat × Nat} (h : RunForm q v) : RunForm q (grantReport e c v p) := by
  rw [grantReport_eq]
  exact form_queueFilled (form_enterCorridorOf h)

theorem form_grantRun {run : List (Nat × Nat)} (h : RunForm q v) : RunForm q (grantRun e v c run) :=
  form_foldl (fun _ _ => form_grantReport) (form_foldl (fun _ _ => form_recompute)
    (form_modCtx (form_leaveWaiting (form_foldl (fun _ _ => form_grantCell) h))))

theorem form_passOver {run : List (Nat × Nat)} (h : RunForm q v) : RunForm q (passOver e v c y run) :=
  form_ite (fun _ => h) fun _ =>
    form_ite (fun _ => form_foldl (fun _ _ => form_reserve) (form_modCtx h)) fun _ => form_modCtx h

theorem form_placeWaiter {cause : BlockCause} {taken : Option Nat} (h : RunForm q v) :
    RunForm q (placeWaiter e v c y j cause taken) := by
  refine form_ite (fun _ => form_setCell h) fun _ => ?_
  have left : RunForm q (if (v.queueOf c).isSome then leaveQueue e v c else v) :=
    form_ite (fun _ => form_leaveQueue h) fun _ => h
  generalize (if (v.queueOf c).isSome then leaveQueue e v c else v) = u at left ⊢
  have joined : RunForm q (if taken = some y ∧ u.records.seniority.contains c then u else u.joinSeniority c) :=
    form_ite (fun _ => left) fun _ => form_setSeniority left
  exact form_ite (fun _ => form_queueFilled (form_setCell joined)) fun _ => form_setCell joined

theorem form_callGateOf (h : RunForm q v) : RunForm q (callGateOf e v y) := by
  unfold callGateOf
  split
  · exact form_later h
  · exact h

theorem form_runFails {run : List (Nat × Nat)} {cause : BlockCause} {target taken : Option Nat} (h : RunForm q v) :
    RunForm q (runFails e v c run y j cause target taken) := by
  have waiting : RunForm q (recordWait e (placeWaiter e v c y j cause taken) c y
    (decide (v.queueOf c = some y) || decide (taken = some y))) := form_modCtx (form_placeWaiter h)
  have called := form_callGateOf (e := e) (y := y)
    (form_passOver (e := e) (c := c) (y := y) (run := run) (form_setEdge (e := e) (c := c) (t := target) waiting))
  refine form_ite (fun _ => ?_) fun _ => called
  split
  · exact form_corridorFailed called
  · exact called

theorem form_attemptStart {after : After} (h : RunForm q v) : RunForm q (attemptStart e v c after) := by
  refine form_ite (fun _ => ?_) fun _ => ?_
  all_goals cases after
  all_goals exact h

theorem form_attemptRound {granted : Bool} {after : After} (h : RunForm q v) :
    RunForm q (attemptRound e v c granted after) := by
  refine form_ite (fun _ => h) fun _ => ?_
  split
  · exact form_later h
  · dsimp only
    split
    · exact form_later (form_runFails h)
    · split
      · exact form_later (form_runFails h)
      · exact form_later (form_grantRun h)

theorem form_waitInLane (h : RunForm q v) : RunForm q (waitInLane e v c x) :=
  form_setEdge (form_modCtx (form_leaveQueue h))

theorem form_settleWait {reason : Reason} (h : RunForm q v) : RunForm q (settleWait e v c reason) := by
  unfold settleWait
  split
  · exact h
  · split
    · exact form_waitInLane h
    · exact h
  all_goals exact form_leaveWaiting h

theorem form_attemptMessage {granted : Bool} {after : After} (h : RunForm q v) :
    RunForm q (attemptMessage e v c granted after) := by
  cases after with
  | reply => exact form_send h
  | noticeAndReply => exact form_send (form_send h)
  | noticeAlways => exact form_send h
  | noticeIfGranted => exact form_ite (fun _ => form_send h) fun _ => h
  | offered => exact form_ite (fun _ => form_send h) fun _ => h

theorem form_attemptEnd {reason : Reason} {granted : Bool} {after : After} (h : RunForm q v) :
    RunForm q (attemptEnd e v c reason granted after) := by
  have told := form_attemptMessage (e := e) (c := c) (granted := granted) (after := after) (form_settleWait (e := e) (c := c)
    (reason := reason) (form_modCtx (c := c) (f := fun k => { k with blockReason := some reason }) h))
  have fetched := form_ite (p := granted = true) (fun _ => form_fetchTrigger (c := c) told) fun _ => told
  cases after with
  | offered x left => exact form_later (form_ite (fun _ => form_queueEmptied fetched) fun _ => fetched)
  | reply => exact fetched
  | noticeAndReply => exact fetched
  | noticeAlways => exact fetched
  | noticeIfGranted => exact fetched

theorem form_offerStart (h : RunForm q v) : RunForm q (offerStart e v x) := form_ite (fun _ => h) fun _ => h

theorem form_offerNext {left : List Nat} (h : RunForm q v) : RunForm q (offerNext e v x left) := by
  unfold offerNext
  split
  · exact h
  · split
    · exact h
    · exact form_later (form_takeFrom h)

/-! ## Halting (R93, R95) -/

/-- A carrier with a route turns to another state with one. -/
theorem form_turn {f : Context → Context} (h : RunForm q v) (routed : (v.ctx c).state.routed = true)
    (still : (f (v.ctx c)).state.routed = true)
    (same : ∀ k, routeView { f k with state := k.state } = routeView k := by exact fun _ => rfl) :
    RunForm q (v.modCtx c f) := by
  have enrolled (s : CarrierState) (h : s.routed = true) : (s != .vacant) = true :=
    bne_iff_ne.mpr fun vacant => by rw [vacant] at h; cases h
  refine form_modCtx_at h ?_
  rw [← same (v.ctx c)]
  simp only [routeView, routed, still, enrolled _ routed, enrolled _ still]

theorem form_giveUpClaims (h : RunForm q v) : RunForm q (giveUpClaims e v c) := form_later (form_modCtx (form_leaveWaiting h))

theorem form_becomeStopped {cause : StopCause} (h : RunForm q v) (routed : (v.ctx c).state.routed = true) :
    RunForm q (becomeStopped v c cause) := form_raise (form_turn h routed rfl)

theorem form_halt {cause : StopCause} (h : RunForm q v) : RunForm q (halt e v c cause) := by
  unfold halt
  dsimp only
  split
  next running => exact form_later (form_giveUpClaims (form_turn h (by rw [running]; rfl) rfl))
  · exact form_ite (fun _ => form_modCtx h) fun _ => h
  · exact form_ite (fun _ => form_raise (form_modCtx h)) fun _ => h
  all_goals exact h

theorem form_trim (h : RunForm q v) : RunForm q (trim e v c) := form_modCtx (form_release h)

/-! ## The end and the start of a route (R84, R85, R99) -/

theorem form_routeEnd (h : RunForm q v) : RunForm q (routeEnd e v c result) := form_later (form_release h)

theorem form_rangeEnd (h : RunForm q v) : RunForm q (rangeEnd e v c result) := form_later (form_release h)

/-- The context of a carrier whose route has ended: without a route and with an empty window, its own or, of a carrier that
is no longer enrolled, the least one at the start of the step store (R85, R103). -/
structure RouteOver (k k' : Context) : Prop where
  address : k'.routeAddr = none
  routed : k'.state.routed = false
  count : k'.windowCount = 0
  window : k'.state = .vacant ∧ k'.windowBase = 0 ∧ k'.windowSize = 8 ∨
    k.state ≠ .vacant ∧ k'.windowBase = k.windowBase ∧ k'.windowSize = k.windowSize

/-- The requests in the queue of an engine that has seen a route end. -/
theorem routeEndedEngine_requests (v : Run) (c : Nat) (result : RouteResult) :
    (routeEndedEngine v c result).fetching = v.records.engine.fetching.filter (· != c) ∧
      (routeEndedEngine v c result).writingBack = v.records.engine.writingBack ++
        if (routesOf v.records c).address then [c] else [] := by
  rw [routeEndedEngine, fetching_dropFetch, writingBack_dropFetch]
  change _ ∧ _ = _ ++ if (v.ctx c).routeAddr.isSome then [c] else []
  cases routed : (v.ctx c).routeAddr with
  | none => exact ⟨by simp only [queueWriteBack, routed], by simp only [queueWriteBack, routed]; simp⟩
  | some a =>
    simp only [queueWriteBack, routed]
    exact ⟨congrArg _ (fetching_enqueue_writeBack ..), writingBack_enqueue_writeBack ..⟩

theorem inFlight_routeEndedEngine (v : Run) (c : Nat) (result : RouteResult) :
    (routeEndedEngine v c result).inFlight = v.records.engine.inFlight := by
  simp only [routeEndedEngine, queueWriteBack]
  split <;> rfl

/-- A route ends: its write-back is queued, its fetch removed, and its carrier left without one (R85, R99). -/
theorem form_routeOver {f : Context → Context} (h : RunForm q v) (ended : RouteOver (v.ctx c) (f (v.ctx c)))
    (engine : u.records.engine = routeEndedEngine v c result)
    (carriers : u.records.carriers = (v.modCtx c f).records.carriers)
    (canonical : CanonicalRecords v.records → CanonicalRecords u.records) : RunForm q u := by
  have routes : routesOf u.records = Function.update (routesOf v.records) c (routeView (f (v.ctx c))) := by
    rw [← routesOf_modCtx]
    exact funext fun d => by rw [routesOf, carriers, routesOf]
  obtain ⟨address, routed, count, window⟩ := ended
  obtain ⟨fetching, writing⟩ := routeEndedEngine_requests v c result
  refine ⟨canonical ∘ h.canonical, fun law => ?_, fun law => ?_⟩
  · rw [routes, engine]
    exact (h.queue law).ended (by rw [routeView, address]; rfl) routed fetching writing
  · have before := h.windows law
    obtain ⟨sizes, aligned, stored, -, -⟩ := before.sound c
    rw [routes, engine, inFlight_routeEndedEngine]
    have empty : (routeView (f (v.ctx c))).count = 0 := count
    refine before.update ?_ (fun d other hc hd enrolled enrolled' => ?_) fun r _ _ awaits => ?_
    · obtain ⟨-, base, size⟩ | ⟨-, base, size⟩ := window
      · refine ⟨.inl size, ?_, ?_, empty ▸ Nat.zero_le _, empty ▸ Nat.zero_le _⟩
        all_goals simp only [routeView, base, size]
        all_goals decide
      · refine ⟨?_, ?_, ?_, empty ▸ Nat.zero_le _, empty ▸ Nat.zero_le _⟩
        all_goals simp only [routeView, base, size]
        · exact sizes
        · exact aligned
        · exact stored
    · obtain ⟨vacant, -⟩ | ⟨was, base, size⟩ := window
      · exact absurd vacant ((enrolled_iff _).mp enrolled)
      · have there := before.apart c d hc hd (Ne.symm other) ((enrolled_iff _).mpr was) enrolled'
        rw [RouteView.apart, routeView, base, size]
        exact there
    · have none : (f (v.ctx c)).routeAddr.isSome = true := awaits.2.2
      rw [address] at none
      cases none

theorem form_routeEndRest (h : RunForm q v) : RunForm q (routeEndRest e v c result) := by
  refine form_ite (fun _ => h) fun enrolled => form_raise ?_
  have ended : RunForm q ((v.setEngine (routeEndedEngine v c result)).modCtx c fun k => k.endRoute result) :=
    form_routeOver (f := fun k => k.endRoute result) h ⟨rfl, rfl, rfl, .inr ⟨enrolled, rfl, rfl⟩⟩ rfl rfl fun law =>
      law.setEngine.modCtx
  rw [← queueWriteBack_dropFetch] at ended
  exact form_ite (fun _ => form_giveUpClaims (form_clearWait ended)) fun _ => form_clearWait ended

/-- The start of a route whose carrier is ATTACHED leaves it with its route (R84). -/
theorem form_routeStart (h : RunForm q v) (routed : (v.ctx c).state.routed = true) : RunForm q (routeStart e v c) := by
  have started : RunForm q (v.modCtx c Context.startRoute) := form_modCtx h
  have routed' : ((v.modCtx c Context.startRoute).ctx c).state.routed = true := by
    rw [Run.ctx_modCtx_self]
    exact routed
  unfold routeStart
  dsimp only
  split
  · exact form_later (form_becomeStopped started routed')
  · exact form_later (form_turn started routed' rfl)
  · exact form_turn started routed' rfl
  · exact form_later (form_turn started routed' rfl)
  · exact form_later (form_turn started routed' rfl)

/-! ## Resuming, recovering, retiring (R98, R99, R102) -/

theorem form_resume (h : RunForm q v) : RunForm q (resume e v c) :=
  form_ite (fun ⟨_, stopped, _⟩ => form_later (form_turn h (by rw [stopped]; rfl) rfl)) fun _ => h

theorem form_recoverRest (h : RunForm q v) : RunForm q (recoverRest e v c) :=
  form_ite (fun ⟨_, stopped⟩ => form_later (form_turn h (by rw [stopped]; rfl) rfl)) fun _ => h

/-- RETIRE removes the fetch before it queues the write-back, which leaves the queue of any route's end (R85, R99). -/
theorem dropFetch_queueWriteBack (v : Run) (c : Nat) (result : RouteResult) :
    queueWriteBack (v.setEngine (v.records.engine.dropFetch c)) c result = v.setEngine (routeEndedEngine v c result) := by
  cases routed : (v.ctx c).routeAddr with
  | none => simp only [routeEndedEngine, queueWriteBack, routed, Run.ctx_setEngine]
  | some a =>
    rw [routeEndedEngine_of_routed routed, queueAfterEnd_eq]
    simp only [queueWriteBack, routed, Run.ctx_setEngine]
    rfl

theorem form_retireRest (h : RunForm q v) : RunForm q (retireRest v c) := by
  refine form_ite (fun _ => ?_) fun _ => h
  dsimp only
  rw [dropFetch_queueWriteBack]
  obtain ⟨links, removed, -⟩ := removeMessages_eq (v.setEngine (routeEndedEngine v c .retired)) c
  have marked := retireMark_edgesOnly (removeMessages (v.setEngine (routeEndedEngine v c .retired)) c) c
  have carriers : (Run.retireMark (removeMessages (v.setEngine (routeEndedEngine v c .retired)) c) c).records.carriers =
      v.records.carriers := by
    rw [carriers_retireMark, removed]
    rfl
  refine form_routeOver (c := c) (f := Context.vacated) (result := .retired) h
    ⟨rfl, rfl, rfl, .inl ⟨rfl, rfl, rfl⟩⟩ ?_ ?_ fun law => ?_
  · change (Run.retireMark _ c).records.engine = _
    rw [marked.records, removed]
    rfl
  · simp only [Run.modCtx_carriers, Run.ctx, carriers]
  · exact ((form_retireMark (form_removeMessages (formKept_refl _))).canonical law.setEngine).modCtx

end

end Sys2Proof.Proofs
end

section
/-! Carrier requests, contact, every piece of work, the whole of an event, and the route fetch engine keep the canonical
form, the engine queue's law and the windows' law (O8, O10). -/

namespace Sys2Proof.Proofs

open Sys2Proof.Machine Sys2Proof.Laws

section
variable {q : Records} {e : Setting} {v u : Run} {c x : Nat} {result : RouteResult}

/-! ## Carrier requests (R86 to R97) -/

theorem form_cutEnd (h : RunForm q v) : RunForm q (cutEnd e v c) := form_later (form_routeEnd h)

theorem form_passRest {speed : Nat} (h : RunForm q v) : RunForm q (passRest e v c speed) :=
  form_ite (fun _ => form_cutEnd h) fun _ => form_later h

theorem form_haltingRest {speed : Nat} (h : RunForm q v) : RunForm q (haltingRest e v c speed) :=
  form_ite (fun _ => form_later (form_trim h)) fun _ => form_later h

theorem form_haltingExit (h : RunForm q v) : RunForm q (haltingExit e v c) := by
  refine form_ite (fun halting => ?_) fun _ => h
  have routed : (v.ctx c).state.routed = true := by rw [halting]; rfl
  split
  · exact form_later (form_rangeEnd h)
  · exact form_ite (fun _ => form_later (form_turn h routed rfl)) fun _ => form_later (form_turn h routed rfl)
  · exact form_later (form_becomeStopped h routed)
  · exact form_later h

theorem form_movePosition {f r : Nat} (h : RunForm q v) : RunForm q (movePosition e v c f r x) :=
  form_release (form_modCtx h)

theorem form_replyAfterRestore {wasSilent : Bool} (h : RunForm q v) : RunForm q (replyAfterRestore e v c wasSilent) :=
  form_ite (fun _ => form_later h) fun _ => form_send h

theorem form_charge {wasSilent : Bool} (h : RunForm q v) : RunForm q (charge e v c wasSilent) :=
  form_ite (fun _ => form_later (form_modCtx h)) fun _ => form_replyAfterRestore (form_modCtx h)

theorem form_recordSpeed {speed : Nat} (h : RunForm q v) : RunForm q (v.recordSpeed c speed) := form_modCtx h

theorem form_runningPass {f r speed : Nat} {wasSilent : Bool} (h : RunForm q v) :
    RunForm q (runningPass e v c f r x speed wasSilent) := by
  unfold runningPass
  split
  · exact form_replyAfterRestore h
  · exact form_later (form_raise (form_recordSpeed h))
  · exact form_charge (form_recordSpeed h)
  · exact form_later (form_movePosition (form_recordSpeed h))

/-- A carrier's request for speed recorded, with its last reported speed (R44, R90). -/
theorem form_asked {speed requested : Nat} (h : RunForm q v) :
    RunForm q ((recordRequest e v c requested).recordSpeed c speed) := form_recordSpeed (form_modCtx h)

theorem form_runningAsk {f speed requested : Nat} {resume : Bool} (h : RunForm q v) :
    RunForm q (runningAsk e v c f speed requested resume) :=
  form_ite (fun _ => form_cutEnd (form_ite (fun _ => form_modCtx (form_asked h)) fun _ => form_asked h))
    fun _ => form_later (form_ite (fun _ => form_modCtx (form_asked h)) fun _ => form_asked h)

theorem form_runningDone {f speed : Nat} {wasSilent : Bool} (h : RunForm q v) :
    RunForm q (runningDone e v c f speed wasSilent) :=
  form_ite (fun _ => form_later (form_routeEnd (form_recordSpeed h))) fun _ => form_charge (form_recordSpeed h)

theorem form_haltingOverrun {speed : Nat} (h : RunForm q v) (routed : (v.ctx c).state.routed = true) :
    RunForm q (haltingOverrun v c speed) :=
  form_later (form_ite (fun _ => form_becomeStopped (form_raise h) routed) fun _ => form_raise h)

theorem state_recordSpeed (v : Run) (c speed : Nat) : ((v.recordSpeed c speed).ctx c).state = (v.ctx c).state := by
  rw [Run.recordSpeed, Run.ctx_modCtx_self]

theorem form_haltingPass {f r speed : Nat} (h : RunForm q v) (routed : (v.ctx c).state.routed = true) :
    RunForm q (haltingPass e v c f r x speed) := by
  unfold haltingPass
  split
  · exact form_later h
  · exact form_haltingOverrun (form_recordSpeed h) (by rw [state_recordSpeed]; exact routed)
  · exact form_later (form_recordSpeed h)
  · exact form_later (form_movePosition (form_recordSpeed h))

theorem form_haltingAsk {f speed requested : Nat} (h : RunForm q v) (routed : (v.ctx c).state.routed = true) :
    RunForm q (haltingAsk e v c f speed requested) := by
  have still : (((recordRequest e v c requested).recordSpeed c speed).ctx c).state.routed = true := by
    rw [state_recordSpeed, recordRequest, Run.ctx_modCtx_self]
    exact routed
  exact form_ite (fun _ => form_later (form_becomeStopped (form_raise (form_asked h)) still)) fun _ =>
    form_later (form_asked h)

theorem form_carrierRequest {r : Request} (h : RunForm q v) : RunForm q (carrierRequest e v c r) := by
  have restored : RunForm q (restoreContact v c) := form_modCtx h
  unfold carrierRequest
  dsimp only
  split
  · exact restored
  · exact form_send restored
  · exact form_send restored
  · refine form_ite (fun _ => ?_) fun _ => form_send restored
    cases r with
    | ask => exact form_runningAsk restored
    | pass => exact form_runningPass restored
    | done => exact form_runningDone restored
  next halting =>
    have routed : ((restoreContact v c).ctx c).state.routed = true := by rw [halting]; rfl
    cases r with
    | ask => exact form_haltingAsk restored routed
    | pass => exact form_haltingPass restored routed
    | done => exact form_later (form_recordSpeed restored)
  · exact form_sendStop restored

theorem form_frameArrives {l : Nat} {r : Request} (h : RunForm q v) : RunForm q (frameArrives e v l c r) :=
  form_ite (fun _ => form_setLink h) fun _ => form_carrierRequest (form_setHome h)

/-! ## Contact (R100, R101) -/

theorem form_silenceReached (h : RunForm q v) : RunForm q (silenceReached e v c) :=
  form_ite (fun _ => form_ite (fun _ => form_giveUpClaims (form_modCtx h)) fun _ => form_modCtx h) fun _ => h

theorem form_lostReached (h : RunForm q v) : RunForm q (lostReached e v c) := by
  refine form_ite (fun _ => ?_) fun _ => h
  have lost : RunForm q (v.modCtx c fun k => { k with contact := .lost }) := form_modCtx h
  have still : ((v.modCtx c fun k => { k with contact := .lost }).ctx c).state = (v.ctx c).state := by
    rw [Run.ctx_modCtx_self]
  split
  next running =>
    exact form_later (form_giveUpClaims (form_becomeStopped lost (by rw [still, running]; rfl)))
  next halting => exact form_later (form_becomeStopped lost (by rw [still, halting]; rfl))
  all_goals exact lost

/-! ## Every piece of work, and the whole of an event -/

theorem form_runTask (h : RunForm q v) (a : Task) : RunForm q (runTask e a v) := by
  cases a with
  | attempt => exact form_attemptStart h
  | round => exact form_attemptRound h
  | attemptEnd => exact form_attemptEnd h
  | openDeferred => exact h
  | offer => exact form_offerStart h
  | offerNext => exact form_offerNext h
  | gateCall => exact form_gateCall h
  | gateOpened => exact form_gateOpened h
  | gateAfterOffer => exact form_gateAfterOffer h
  | gateDrain => exact form_gateDrain h
  | gateShut => exact form_gateShut h
  | gateOwedPartner => exact form_gateOwedPartner h
  | gateOwedSelf => exact form_gateOwedSelf h
  | freed => exact form_freed h
  | freedSettle => exact form_freedSettle h
  | halt => exact form_halt h
  | clearReservations => exact form_clearReservations h
  | cancelTurns => exact form_cancelTurns h
  | stopNotice => exact form_sendStop h
  | waitReply => exact form_send h
  | passRest => exact form_passRest h
  | haltingRest => exact form_haltingRest h
  | haltingExit => exact form_haltingExit h
  | routeEndRest => exact form_routeEndRest h
  | resume => exact form_resume h
  | recoverRest => exact form_recoverRest h
  | retireRelease => exact form_release h
  | retireRest => exact form_retireRest h
  | fetchTrigger => exact form_fetchTrigger h

theorem formKept_settled {r : Records} (h : RunForm q v) (rest : settled e v = some r) : FormKept q r :=
  settled_keeps (fun r => FormKept q r) (fun a _ kept => form_runTask kept a) rest h

/-! ## Steps appended (R117) -/

/-- Where the windows' law holds of `q`, no read is in flight in the run `v` and the window of carrier `c` has `n` free
slots. -/
def HasRoom (q : Records) (v : Run) (c n : Nat) : Prop :=
  WindowsLaw (routesOf q) q.engine.inFlight → v.records.engine.inFlight = none ∧ n ≤ (v.ctx c).freeSlots

theorem form_appendStep {s : Slot} {w : Validation} {n : Nat} (h : RunForm q v) (room : HasRoom q v c (n + 1)) :
    RunForm q (appendStep v c s w) ∧ HasRoom q (appendStep v c s w) c n := by
  have stored : RunForm q (v.setSlot ((v.ctx c).slotNumber (v.ctx c).nextStep) s) := form_setSlot h
  refine ⟨⟨fun law => (stored.canonical law).modCtx, fun law => ?_, fun law => ?_⟩, fun law => ?_⟩
  · have before := stored.queue law
    rw [appendStep, routesOf_modCtx]
    exact before.update (before.address c) (before.fetchers c) (before.writers c)
  · have before := stored.windows law
    obtain ⟨idle, free⟩ := room law
    obtain ⟨sizes, aligned, within, fits, fetched⟩ := before.sound c
    have some : (v.ctx c).windowCount + 1 ≤ (v.ctx c).windowSize := by
      rw [Context.freeSlots] at free
      omega
    rw [appendStep, routesOf_modCtx]
    refine before.update ⟨sizes, aligned, within, some, Nat.succ_le_succ fetched⟩
      (fun d other hc hd enrolled enrolled' => before.apart c d hc hd (Ne.symm other) enrolled enrolled') ?_
    intro r flight
    cases flight.symm.trans idle
  · obtain ⟨idle, free⟩ := room law
    refine ⟨idle, ?_⟩
    rw [appendStep, Run.ctx_modCtx_self]
    rw [Context.freeSlots] at free
    change n ≤ (v.ctx c).windowSize - ((v.ctx c).windowCount + 1)
    omega

theorem form_appendSteps {n : Nat} {records : List Slot} (h : RunForm q v) (room : HasRoom q v c records.length) :
    RunForm q (appendSteps e c n v records).1 := by
  induction records generalizing v with
  | nil => exact h
  | cons s rest ih =>
    rw [appendSteps]
    split
    · exact h
    · split
      · obtain ⟨appended, left⟩ := form_appendStep h room
        exact ih appended left
      · exact h

/-! ## Cuts, and the carrier table's action on a read (R84, R117, R118) -/

/-- A window cut short has at most the steps it had, and none that was not fetched. -/
theorem form_cutWindow {f : Context → Context} {cut : Nat} (h : RunForm q v)
    (same : routeView (f (v.ctx c)) = routeView ((v.ctx c).cutWindow cut)) : RunForm q (v.modCtx c f) := by
  refine ⟨fun law => (h.canonical law).modCtx, fun law => ?_, fun law => ?_⟩
  · have before := h.queue law
    rw [routesOf_modCtx, same]
    exact before.update (before.address c) (before.fetchers c) (before.writers c)
  · have before := h.windows law
    obtain ⟨sizes, aligned, stored, fits, fetched⟩ := before.sound c
    change (v.ctx c).windowCount ≤ (v.ctx c).windowSize at fits
    change (v.ctx c).windowCount ≤ (v.ctx c).nextStep at fetched
    have fewer : (routeView ((v.ctx c).cutWindow cut)).count ≤ (v.ctx c).windowCount := Nat.sub_le ..
    have reached : (routeView ((v.ctx c).cutWindow cut)).count ≤ cut + 1 := by
      change (v.ctx c).windowCount - ((v.ctx c).nextStep - (cut + 1)) ≤ cut + 1
      omega
    rw [routesOf_modCtx, same]
    refine before.update ⟨sizes, aligned, stored, fewer.trans fits, reached⟩
      (fun d other hc hd enrolled enrolled' => before.apart c d hc hd (Ne.symm other) enrolled enrolled') ?_
    rintro r flight rfl awaits
    exact (before.room r flight awaits).trans (Nat.sub_le_sub_left fewer _)

theorem form_cutRoute {f : Nat} (h : RunForm q v) : RunForm q (cutRoute e v c f result).1 := by
  unfold cutRoute
  split
  next cut _ => exact form_cutWindow (cut := cut) h rfl
  · exact h

theorem form_clearBeyondCut (h : RunForm q v) : RunForm q (clearBeyondCut e v c) := by
  unfold clearBeyondCut
  split
  · exact form_clearReservations h
  · exact h

theorem form_actOnRead {o : ReadOutcome} (h : RunForm q v) : RunForm q (actOnRead e v c o) := by
  unfold actOnRead
  generalize was : (v.ctx c).state = state
  have started (attached : state = .attached) : RunForm q (routeStart e v c) :=
    form_routeStart h (by rw [was, attached]; rfl)
  cases o with
  | failedStart => cases state with
    | attached => exact form_routeEnd h
    | _ => exact h
  | noUsableCut => cases state with
    | attached => exact form_routeEnd h
    | running | halting | stopped => exact form_rangeEnd h
    | _ => exact h
  | cut => cases state with
    | attached => exact started rfl
    | running => exact form_later (form_clearBeyondCut h)
    | _ => exact h
  | appended => cases state with
    | attached => exact started rfl
    | running => exact form_later h
    | _ => exact h
  | nothing => exact h

/-! ## The route fetch engine (Chapter 6) -/

theorem form_useSteps {records : List Slot} (h : RunForm q v) (room : HasRoom q v c records.length) :
    RunForm q (useSteps e v c records) := by
  have appended := form_appendSteps (e := e) (n := (v.ctx c).stepCount.getD 0) h room
  unfold useSteps
  dsimp only
  split
  · exact form_actOnRead appended
  next i _ =>
    have faulted := form_raise (f := .routeFault) (form_modCtx (c := c) (f := fun k => { k with faultStep := some i }) appended)
    exact form_ite (fun _ => form_actOnRead faulted) fun _ => form_actOnRead (form_cutRoute faulted)

theorem length_decodeSteps (n : Nat) (data : List Byte) : (decodeSteps n data).length = n := by
  induction n generalizing data with
  | zero => rfl
  | succ n ih => rw [decodeSteps, List.length_cons, ih]

/-- The data of a read used, where the window has a free slot for each step record in them (R112, R113, R117). -/
theorem form_useData {first : Bool} {data : List Byte} (h : RunForm q v)
    (room : HasRoom q v c ((data.length - if first then 16 else 0) / 8)) : RunForm q (useData e v c first data) := by
  cases first with
  | true =>
    change RunForm q (if headerValid data then _ else _)
    refine form_ite (fun _ => ?_) fun _ => form_actOnRead (form_raise h)
    refine form_useSteps (form_modCtx h) fun law => ?_
    rw [length_decodeSteps, Run.ctx_modCtx_self]
    exact room law
  | false =>
    refine form_useSteps h fun law => ?_
    rw [length_decodeSteps]
    exact room law

theorem form_busFault (h : RunForm q v) : RunForm q (busFault e v c) :=
  form_ite (fun _ => form_actOnRead (form_raise h)) fun _ => form_actOnRead (form_cutRoute (form_raise h))

/-- The read in flight ends: what it brought fits in the window of a carrier whose it still is (R114). -/
theorem form_endRead {r : ReadInFlight} {data : Option (List Byte)} (h : RunForm q v)
    (flight : v.records.engine.inFlight = some r) (within : ∀ d, data = some d → d.length ≤ r.length) :
    RunForm q (endRead e v r data) := by
  have ended : RunForm q (v.setEngine { v.records.engine with inFlight := none, timer := none, due := false }) :=
    form_setEngine h (List.Sublist.refl _) nofun
  refine form_later (form_ite (fun accepted => ?_) fun _ => ended)
  cases data with
  | none => exact form_busFault ended
  | some d =>
    refine form_useData ended fun law => ⟨rfl, ?_⟩
    have covered := (h.windows law).room r flight ((readAccepted_iff _ r).mp accepted)
    refine le_trans ?_ covered
    exact Nat.div_le_div_right (Nat.sub_le_sub_right (within d rfl) _)

theorem form_completionArrives {number : Byte} {status : CompletionStatus} {data : List Byte} (h : RunForm q v) :
    RunForm q (completionArrives e v number status data) := by
  unfold completionArrives
  dsimp only
  split
  · exact h
  next r flight =>
    refine form_ite (fun _ => h) fun _ => ?_
    cases status with
    | aborted => exact form_endRead h flight nofun
    | poisoned => exact form_endRead h flight nofun
    | good =>
      refine form_ite (fun _ => form_endRead h flight ?_) fun _ => form_setEngine h (List.Sublist.refl _) ?_
      · rintro d ⟨⟩
        exact List.length_take_le ..
      · rintro o ⟨⟩
        exact ⟨r, flight, rfl, rfl, rfl⟩

theorem form_readTimerExpires (h : RunForm q v) : RunForm q (readTimerExpires e v) := by
  unfold readTimerExpires
  dsimp only
  split
  next r flight => exact form_ite (fun _ => form_endRead h flight nofun) fun _ => h
  · exact h

theorem form_setPerst {b : Bool} (h : RunForm q v) : RunForm q (v.setEngine { v.records.engine with perst := b }) :=
  form_setEngine h (List.Sublist.refl _) fun r flight => ⟨r, flight, rfl, rfl, rfl⟩

theorem form_perstAsserted (h : RunForm q v) : RunForm q (perstAsserted e v) := by
  unfold perstAsserted
  dsimp only
  split
  next r flight => exact form_ite (fun _ => form_setPerst h) fun _ => form_endRead (form_setPerst h) flight nofun
  · exact form_setPerst h

/-- A read is issued for at most as many steps as fit in one read and in the window (R112, R113). -/
theorem form_issueRead {first : Bool} {a : Address} {length : Nat} (h : RunForm q v)
    (small : (length - if first then 16 else 0) / 8 ≤ Config.stepReadLimit)
    (room : (length - if first then 16 else 0) / 8 ≤ (v.ctx c).freeSlots) : RunForm q (issueRead v c first a length) := by
  refine ⟨fun law => (h.canonical law).setEngine, fun law => ?_, fun law => ?_⟩
  · obtain ⟨fetches, writeBacks, address, fetchers, writers⟩ := h.queue law
    exact ⟨fetches, writeBacks, address, fetchers, writers⟩
  · obtain ⟨sound, apart, -, -⟩ := h.windows law
    refine ⟨sound, apart, ?_, ?_⟩
    · rintro r ⟨⟩
      exact small
    · rintro r ⟨⟩ -
      exact room

theorem form_serveFetch (h : RunForm q v) : RunForm q (serveFetch v) := by
  unfold serveFetch
  dsimp only
  split
  next c first rest queue =>
    refine form_ite (fun _ => ?_) fun _ => h
    have served : RunForm q (v.setEngine { v.records.engine with queue := rest }) :=
      form_setEngine h (by rw [queue]; exact List.sublist_cons_self ..) fun r flight => ⟨r, flight, rfl, rfl, rfl⟩
    refine form_ite (fun _ => form_issueRead served ?_ ?_) fun _ => form_issueRead served ?_ ?_
    all_goals simp only [firstReadSize, stepReadSize, if_true, Bool.false_eq_true, if_false]
    all_goals simp only [Config.firstReadLimit, Config.stepReadLimit]
    all_goals omega
  · exact h
  · exact h

theorem form_serveWriteBack (h : RunForm q v) : RunForm q (serveWriteBack v) := by
  unfold serveWriteBack
  dsimp only
  split
  next queue =>
    refine form_ite (fun _ => ?_) fun _ => h
    exact form_setEngine h (by rw [queue]; exact List.sublist_cons_self ..) fun r flight => ⟨r, flight, rfl, rfl, rfl⟩
  · exact h
  · exact h

end

end Sys2Proof.Proofs
end

section
/-! Every command and event keeps the canonical form (O10), the engine queue's law and the windows' law (O8). -/

namespace Sys2Proof.Proofs

open Sys2Proof.Machine Sys2Proof.Laws

section
variable {s t : State} {e : Setting} {q : Records} {v u : Run} {c x : Nat}

/-! ## From the first effects of an event to the part after it -/

/-- Whichever of the canonical form, the engine queue's law and the windows' law hold of the part `s` hold of `t`. -/
structure StateForm (s t : State) : Prop where
  canonical : s.canonical = true → t.canonical = true
  queue : s.engineQueueBounded → t.engineQueueBounded
  windows : s.windowsSound → t.windowsSound

theorem stateForm_refl (s : State) : StateForm s s := ⟨id, id, id⟩

theorem StateForm.trans {o : State} (h : StateForm o s) (g : StateForm s t) : StateForm o t :=
  ⟨g.canonical ∘ h.canonical, g.queue ∘ h.queue, g.windows ∘ h.windows⟩

/-- What holds of the records before holds of those after, under a setting whose tables are in canonical form still. -/
theorem stateForm_of_kept (h : FormKept s.records t.records)
    (setting : CanonicalSetting s.setting → CanonicalSetting t.setting) : StateForm s t := by
  refine ⟨fun law => ?_, fun law => ?_, fun law => ?_⟩
  · obtain ⟨map, records⟩ := (canonical_iff s).mp law
    exact (canonical_iff t).mpr ⟨setting map, h.canonical records⟩
  · exact (queueLaw_iff t).mpr (h.queue ((queueLaw_iff s).mp law))
  · exact (windowsLaw_iff t).mpr (h.windows ((windowsLaw_iff s).mp law))

/-- The part after an event whose first effects left the records of the run `u`. -/
theorem StateForm.settled (h : StateForm s { t with records := u.records }) (rest : settled e u = some t.records) :
    StateForm s t := h.trans (stateForm_of_kept (formKept_settled (formKept_refl _) rest) id)

/-- What an accepted plan leaves: the laws of the part as its first effects leave it, with the records of their run. -/
def Plan.Formed (s : State) : Plan → Prop
  | .refuse _ _ => True
  | .accept p u _ => StateForm s { p with records := u.records }

theorem stateForm_of_command {code : Byte} {n : Nat} {plan : Plan} (h : runCommand code n s plan = .next t)
    (formed : Plan.Formed s plan) : StateForm s t := by
  rcases runCommand_next h with ⟨-, rfl⟩ | ⟨status, data, -, rfl⟩ | ⟨p, u, data, r, rfl, rest, rfl⟩
  · exact stateForm_refl t
  · exact stateForm_of_kept (formKept_refl _) id
  · refine StateForm.settled (u := u) (formed.trans ?_) rest
    exact stateForm_of_kept (formKept_refl _) id

theorem stateForm_of_finish {o : State} (h : finish s v = .next t) (formed : StateForm o { s with records := v.records }) :
    StateForm o t := by
  obtain ⟨r, rest, rfl⟩ := finish_next h
  exact StateForm.settled (u := v) formed rest

theorem stateForm_of_event {f : Setting → Run → Run} (h : runEvent s f = .next t)
    (kept : ∀ {q}, RunForm q s.run → RunForm q (f s.setting s.run)) : StateForm s t := by
  rcases runEvent_next h with ⟨-, rfl⟩ | ⟨r, rest, rfl⟩
  · exact stateForm_refl t
  · exact StateForm.settled (stateForm_of_kept (kept (formKept_refl _)) id) rest

/-! ## Plans -/

theorem formed_refused (status : Status) : Plan.Formed s (.refused status) := trivial

theorem formed_done_self (data : List Byte) : Plan.Formed s (.done s data) := stateForm_refl s

theorem formed_acts (kept : RunForm s.records s.run → RunForm s.records v) : Plan.Formed s (.acts s v) :=
  stateForm_of_kept (kept (formKept_refl _)) id

theorem formed_ite {p : Prop} [Decidable p] {a b : Plan} (ha : p → Plan.Formed s a) (hb : ¬p → Plan.Formed s b) :
    Plan.Formed s (if p then a else b) := by
  split
  next here => exact ha here
  next here => exact hb here

theorem formed_cellEdit {cell : Half} {plan : Plan} (formed : Plan.Formed s plan) :
    Plan.Formed s (cellEdit s cell plan) :=
  formed_ite (fun _ => formed_ite (fun _ => formed) fun _ => formed_refused _) fun _ => formed_refused _

theorem formed_carrierCommand {accepts : OpState → Bool} {carrier : Half} {fields : Bool} {plan : Plan}
    (formed : fields = true → Plan.Formed s plan) : Plan.Formed s (carrierCommand s accepts carrier fields plan) :=
  formed_ite (fun _ => formed_ite (fun ranges => formed ((Bool.and_eq_true ..).mp ranges).2) fun _ => formed_refused _)
    fun _ => formed_refused _

theorem formed_query {α : Type} (accepts : Bool) (record : Option α) (data : α → List Byte) :
    Plan.Formed s (query s accepts record data) := by
  refine formed_ite (fun _ => ?_) fun _ => formed_refused _
  cases record with
  | none => exact formed_refused _
  | some a => exact formed_done_self _

/-! ## The map and the records built anew (R8 to R15, R158, R159) -/

theorem formed_mapRecord {α : Type} {fields : Option α} {store : α → MapStore}
    (stored : ∀ a, CanonicalSetting s.setting → CanonicalSetting (s.setMap (store a)).setting) :
    Plan.Formed s (mapRecord s fields store) := by
  refine formed_ite (fun _ => ?_) fun _ => formed_refused _
  cases fields with
  | none => exact formed_refused _
  | some a => exact stateForm_of_kept (formKept_refl _) (stored a)

theorem stateForm_beginMap (s : State) : StateForm s s.beginMap := by
  refine ⟨fun law => ?_, id, id⟩
  obtain ⟨map, records⟩ := (canonical_iff s).mp law
  exact (canonical_iff _).mpr ⟨⟨rfl, rfl, rfl, rfl, map.ready⟩,
    ⟨rfl, canonical_nil, rfl, rfl, records.carriers, records.slots, records.links, rfl, rfl⟩⟩

theorem stateForm_mapBegin (h : execMapBegin s = .next t) : StateForm s t := by
  refine stateForm_of_command h ?_
  split
  · exact stateForm_beginMap s
  · exact stateForm_beginMap s
  · exact formed_ite (fun _ => formed_refused _) fun _ => stateForm_beginMap s
  · exact formed_refused _
  · exact formed_refused _

/-- The records of a passed map are numbered as its definitions are (R15). -/
theorem canonical_loaded {m : MapStore} {r : Records} (cells : Table.wf m.cells = true)
    (corridors : Table.wf m.corridors = true) (gates : Table.wf m.gates = true) (law : CanonicalRecords r) :
    CanonicalRecords (r.loaded m) :=
  ⟨Table.wf_map _ (fun _ _ => CellRun.free) cells, canonical_nil, Table.wf_map _ (fun _ _ => CorridorRun.idle) corridors,
    Table.wf_map _ (fun _ _ => GateRun.shut) gates, law.carriers, law.slots, law.links, rfl, rfl⟩

theorem stateForm_completeMap (s : State) : StateForm s s.completeMap := by
  refine ⟨fun law => ?_, id, id⟩
  obtain ⟨⟨cells, corridors, gates, classes, ready⟩, records⟩ := (canonical_iff s).mp law
  have placed : Table.wf s.setting.map.derived.cells = true := Table.wf_map (β := CellStatic) s.setting.map.cells
    (fun x k => { k with corridor := s.setting.map.placeIn x }) cells
  exact (canonical_iff _).mpr ⟨⟨placed, corridors, gates, classes, ready⟩,
    canonical_loaded cells corridors gates records⟩

theorem stateForm_mapEnd (h : execMapEnd s = .next t) : StateForm s t := by
  refine stateForm_of_command h (formed_ite (fun _ => ?_) fun _ => formed_refused _)
  split
  · trivial
  · exact stateForm_completeMap s

/-- RESTART leaves every carrier without a route, and with the least window at the start of the step store (R103). -/
theorem routesOf_restarted (m : MapStore) (r : Records) (c : Nat) :
    ∃ generation, routesOf (r.restarted m) c = routeView { Context.vacant with generation := generation } := by
  have found (l : Table Context) (vacated : ∀ p ∈ l, ∃ k : Context, p.2 = k.vacated) :
      ∃ generation, routeView (Table.at l Context.vacant c) = routeView { Context.vacant with generation := generation } := by
    induction l with
    | nil => exact ⟨0, rfl⟩
    | cons p rest ih =>
      by_cases here : p.1 = c
      · obtain ⟨k, same⟩ := vacated p (List.mem_cons_self ..)
        exact ⟨k.generation, by simp only [Table.at, Table.find, here, if_true, Option.getD_some, same]; rfl⟩
      · simpa only [Table.at, Table.find, here, if_false] using ih fun p mem => vacated p (List.mem_cons_of_mem _ mem)
  refine found _ fun p mem => ?_
  obtain ⟨⟨n, k⟩, -, rfl⟩ := List.mem_map.mp (List.mem_of_mem_filter mem)
  exact ⟨k, rfl⟩

theorem stateForm_restart (s : State) :
    StateForm s { s.enter .standby with records := s.records.restarted s.setting.map } := by
  have vacant (c : Nat) := routesOf_restarted s.setting.map s.records c
  refine ⟨fun law => ?_, fun _ => (queueLaw_iff _).mpr ?_, fun _ => (windowsLaw_iff _).mpr ?_⟩
  · obtain ⟨map, records⟩ := (canonical_iff s).mp law
    refine (canonical_iff _).mpr ⟨⟨map.cells, map.corridors, map.gates, map.classes, map.ready⟩, ?_⟩
    exact { canonical_loaded map.cells map.corridors map.gates records with
      carriers := canonical_map_filter records.carriers.1 Context.vacated Context.vacant
      links := canonical_map_filter records.links.1 Link.restarted Link.reset }
  · refine ⟨List.nodup_nil, List.nodup_nil, fun c => ?_, nofun, nofun⟩
    obtain ⟨generation, view⟩ := vacant c
    change (routesOf (s.records.restarted s.setting.map) c).address = _
    rw [view]
    rfl
  · refine ⟨fun c => ?_, fun c d _ _ _ enrolled => ?_, nofun, nofun⟩
    · obtain ⟨generation, view⟩ := vacant c
      change (routesOf (s.records.restarted s.setting.map) c).Sound
      rw [view]
      exact ⟨.inl rfl, rfl, show 0 + 8 ≤ Config.slots by decide, Nat.zero_le _, Nat.zero_le _⟩
    · obtain ⟨generation, view⟩ := vacant c
      change (routesOf (s.records.restarted s.setting.map) c).enrolled = true at enrolled
      rw [view] at enrolled
      cases enrolled

/-- Hard reset leaves nothing that a law could forbid (R159). -/
theorem stateForm_hardReset (s : State) : StateForm s s.hardReset := by
  obtain ⟨-, -, -, -, queue, -, -, -, -, windows, -⟩ := resetKeepsLaws
  refine ⟨fun law => ?_, fun _ => queue, fun _ => windows⟩
  obtain ⟨map, -⟩ := (canonical_iff s).mp law
  exact (canonical_iff _).mpr ⟨⟨rfl, rfl, rfl, rfl, map.ready⟩,
    ⟨rfl, canonical_nil, rfl, rfl, canonical_nil, canonical_nil, canonical_nil, rfl, rfl⟩⟩

theorem stateForm_resetNRelease {clrate : BitVec 2} (h : execResetNRelease clrate s = .next t) : StateForm s t := by
  unfold execResetNRelease at h
  split at h
  · cases h
    exact (stateForm_hardReset s).trans (stateForm_of_kept (formKept_refl _) id)
  · cases h
    exact stateForm_refl s

/-! ## The operating states (R155 to R157) -/

/-- An operating state is no part of what the laws read. -/
theorem formed_enter (o : OpState) (l : List Task) : StateForm s { s.enter o with records := (s.run.later l).records } :=
  stateForm_of_kept (formKept_refl _) fun ⟨cells, corridors, gates, classes, ready⟩ =>
    ⟨cells, corridors, gates, classes, ready⟩

theorem stateForm_allStop (h : execAllStop s = .next t) : StateForm s t := by
  refine stateForm_of_command h ?_
  split
  · exact formed_enter ..
  · exact formed_done_self _
  all_goals exact formed_refused _

theorem stateForm_estopNLevelChange {level : Level} (h : execEstopNLevelChange level s = .next t) : StateForm s t := by
  have outside (o : State) (records : o.records = { s.records with alerts := o.records.alerts })
      (map : o.setting.map = s.setting.map) (ready : o.setting.ready = s.setting.ready) : StateForm s o := by
    refine stateForm_of_kept ?_ fun ⟨cells, corridors, gates, classes, levels⟩ =>
      ⟨map ▸ cells, map ▸ corridors, map ▸ gates, map ▸ classes, ready ▸ levels⟩
    rw [records]
    exact form_tables (v := s.run) (u := Run.start _) (formKept_refl _) rfl rfl fun law => { law with }
  simp only [execEstopNLevelChange] at h
  split at h
  · cases h
    exact stateForm_refl s
  · split at h
    · cases h
      exact outside _ rfl rfl rfl
    · split at h
      · cases h
        exact outside _ rfl rfl rfl
      · split at h
        · exact stateForm_of_finish h (outside _ rfl rfl rfl)
        · cases h
          exact outside _ rfl rfl rfl

/-! ## Edits (R16 to R19, R130) -/

theorem form_closeRun (h : RunForm q v) : RunForm q (closeRun e v x) :=
  form_ite (fun _ => h) fun _ => form_recompute (form_setCell h)

theorem form_openRun (h : RunForm q v) : RunForm q (openRun e v x) :=
  form_ite (fun _ => form_ite (fun _ => form_later (form_recompute (form_setCell h)))
    fun _ => form_recompute (form_setCell h)) fun _ => h

theorem form_limitRun {lowered : Bool} (h : RunForm q v) : RunForm q (limitRun e v x lowered) :=
  form_ite (fun _ => form_foldl (fun _ _ h => form_ite (fun _ => form_send h) fun _ => h) h) fun _ => h

/-- A lowered limit rewrites one listed cell of the map (R19). -/
theorem formed_setLimit (x limit : Nat) (lowered : Bool) :
    Plan.Formed s (.acts (s.setMap (s.setting.map.withLimit x limit))
      (limitRun (s.setMap (s.setting.map.withLimit x limit)).setting s.run x lowered)) :=
  stateForm_of_kept (form_limitRun (formKept_refl _)) fun ⟨cells, corridors, gates, classes, ready⟩ =>
    ⟨Table.wf_update _ _ _ cells, corridors, gates, classes, ready⟩

theorem stateForm_gateReset {gate : Byte} (h : execGateReset gate s = .next t) : StateForm s t := by
  refine stateForm_of_command h (formed_ite (fun _ => ?_) fun _ => formed_refused _)
  split
  · exact formed_refused _
  · exact formed_ite (fun _ => formed_acts fun h => form_later (form_modGate h)) fun _ => formed_refused _

/-! ## Carrier commands (R82, R83, R98, R99) -/

theorem windowAllowed_sound {base size : Nat} (h : windowAllowed base size = true) :
    (size = 8 ∨ size = 16 ∨ size = 32) ∧ base % size = 0 ∧ base + size ≤ Config.slots := by
  simpa [windowAllowed, or_assoc, and_assoc] using h

/-- A VACANT carrier is enrolled with a window apart from those of the enrolled (R82). -/
theorem form_enrolRun {cls base size : Nat} {r : ClassRec} (vacant : (s.ctx c).state = .vacant)
    (allowed : windowAllowed base size = true) (free : s.windowTaken base size = false) :
    RunForm s.records (enrolRun s.setting s.run c cls r x base size) := by
  obtain ⟨sizes, aligned, stored⟩ := windowAllowed_sound allowed
  have before : RunForm s.records
      (recompute s.setting (s.run.setCell x { s.run.cell x with holders := (s.run.cell x).holders ++ [c] }) x) :=
    form_recompute (form_setCell (formKept_refl _))
  have causes := recompute_causesOnly s.setting
    (s.run.setCell x { s.run.cell x with holders := (s.run.cell x).holders ++ [c] }) x
  unfold enrolRun
  dsimp only
  generalize recompute s.setting (s.run.setCell x { s.run.cell x with holders := (s.run.cell x).holders ++ [c] }) x = u
    at before causes ⊢
  have route (d : Nat) : routesOf u.records d = routesOf s.records d :=
    show routeView (u.ctx d).butEdge = routeView (s.ctx d).butEdge from congrArg routeView (causes.ctx d)
  have unrouted : (routesOf s.records c).routed = false := congrArg CarrierState.routed vacant
  refine ⟨fun law => (before.canonical law).modCtx, fun law => ?_, fun law => ?_⟩
  · have law' := before.queue law
    rw [routesOf_modCtx]
    refine law'.update rfl (fun mem => ?_) fun _ => rfl
    have routed := law'.fetchers c mem
    rw [route, unrouted] at routed
    cases routed
  · rw [routesOf_modCtx]
    refine (before.windows law).update ⟨sizes, aligned, stored, Nat.zero_le _, Nat.zero_le _⟩
      (fun d _ _ hd _ enrolled => ?_) fun r _ _ awaits => nomatch awaits.2.2
    rw [route] at enrolled ⊢
    exact ((windowTaken_eq_false_iff s base size).mp free d hd ((enrolled_iff _).mp enrolled)).symm

theorem formed_enrolPlan {cls base size : Nat} (allowed : windowAllowed base size = true) :
    Plan.Formed s (enrolPlan s c cls x base size) := by
  refine formed_ite (fun _ => formed_refused _) fun vacant => ?_
  split
  · exact formed_refused _
  · refine formed_ite (fun _ => formed_ite (fun room => ?_) fun _ => formed_refused _) fun _ => formed_refused _
    simp only [Bool.and_eq_true, Bool.not_eq_true'] at room
    obtain ⟨-, free⟩ := room
    exact formed_acts fun _ => form_enrolRun (not_not.mp vacant) allowed free

/-- An IDLE carrier without a queued write-back takes a route, and has a fetch queued (R83, R109). -/
theorem form_attachRun {a : Address} (h : RunForm q v) (idle : (v.ctx c).state = .idle)
    (written : v.records.engine.writeBackQueued c = false) : RunForm q (attachRun e v c a) := by
  have unrouted : (routesOf v.records c).routed = false := congrArg CarrierState.routed idle
  have enrolled : (routesOf v.records c).enrolled = true := (enrolled_iff (v.ctx c)).mpr (by rw [idle]; decide)
  have attached : RunForm q (v.modCtx c fun k => k.attached (e.map.classOf k) a) := by
    refine ⟨fun law => (h.canonical law).modCtx, fun law => ?_, fun law => ?_⟩
    · rw [routesOf_modCtx]
      exact (h.queue law).update rfl (fun _ => rfl) fun mem =>
        absurd (writeBackQueued_iff.mpr mem) (Bool.eq_false_iff.mp written)
    · have before := h.windows law
      obtain ⟨sizes, aligned, stored, -, -⟩ := before.sound c
      rw [routesOf_modCtx]
      refine before.update ⟨sizes, aligned, stored, Nat.zero_le _, Nat.zero_le _⟩
        (fun d other hc hd _ enrolled' => before.apart c d hc hd (Ne.symm other) enrolled enrolled') fun r flight _ _ => ?_
      have small := before.small r flight
      change r.records ≤ (v.ctx c).windowSize - 0
      change (v.ctx c).windowSize = 8 ∨ (v.ctx c).windowSize = 16 ∨ (v.ctx c).windowSize = 32 at sizes
      simp only [Config.stepReadLimit] at small
      omega
  refine form_enqueue_fetch attached (by rw [Run.ctx_modCtx_self]; rfl) fun law mem => ?_
  have routed := (h.queue law).fetchers c mem
  rw [unrouted] at routed
  cases routed

theorem stateForm_attach {carrier : Half} {address : Address} (h : execAttach carrier address s = .next t) : StateForm s t := by
  refine stateForm_of_command h (formed_carrierCommand fun _ => formed_ite (fun ready => ?_) fun _ => formed_refused _)
  rw [Bool.and_eq_true, decide_eq_true_eq, Bool.not_eq_true'] at ready
  obtain ⟨idle, written⟩ := ready
  exact formed_acts fun h => form_attachRun h idle written

theorem stateForm_detach {carrier : Half} (h : execDetach carrier s = .next t) : StateForm s t := by
  refine stateForm_of_command h (formed_carrierCommand fun _ => ?_)
  split
  · exact formed_acts fun h => form_routeEnd h
  · exact formed_acts fun h => form_halt h
  all_goals exact formed_refused _

theorem form_retireRun (h : RunForm q v) : RunForm q (retireRun e v c) := form_later (form_modCtx (form_leaveWaiting h))

/-! ## Pins, timers and transfers -/

theorem form_readyRun {g : Nat} (h : RunForm q v) : RunForm q (readyRun e v g) := by
  unfold readyRun
  split
  · exact form_ite (fun _ => form_gateOpens h) fun _ => h
  · exact form_ite (fun _ => h) fun _ => form_gateFaults h
  · exact form_ite (fun _ => h) fun _ => form_gateFaults h
  · exact h
  · exact h

theorem stateForm_readyChange {gate : Fin 16} {level : Level} (h : execReadyChange gate level s = .next t) :
    StateForm s t := by
  have ready (o : State) (kept : FormKept s.records o.records)
      (setting : o.setting = { s.setting with ready := Table.put s.setting.ready .low gate level }) : StateForm s o :=
    stateForm_of_kept kept fun law => setting ▸ { law with ready := law.ready.put gate level }
  simp only [execReadyChange] at h
  split at h
  · cases h
    exact stateForm_refl s
  · split at h
    · cases h
      exact ready _ (formKept_refl _) rfl
    · exact stateForm_of_finish h (ready _ (form_readyRun (formKept_refl _)) rfl)

theorem stateForm_setPerst (b : Bool) : StateForm s (s.setPerst b) :=
  stateForm_of_kept (form_setPerst (v := s.run) (formKept_refl _)) id

theorem stateForm_pePerstNAsserted (h : execPePerstNAsserted s = .next t) : StateForm s t := by
  unfold execPePerstNAsserted at h
  split at h
  · cases h
    exact stateForm_setPerst true
  · exact stateForm_of_finish h (stateForm_of_kept (form_perstAsserted (formKept_refl _)) id)

theorem stateForm_shiftBuffer {n : Nat} (h : shiftBuffer n s = .next t) : StateForm s t := by
  unfold shiftBuffer at h
  split at h
  all_goals
    cases h
    exact stateForm_of_kept (formKept_refl _) id

theorem stateForm_unknownCommand {frame : List Byte} (h : execUnknownCommand frame s = .next t) : StateForm s t := by
  unfold execUnknownCommand at h
  split at h
  · exact stateForm_shiftBuffer h
  · split at h
    · exact stateForm_shiftBuffer h
    · exact stateForm_of_command h (formed_refused _)

/-- A tick counts silence, which is no part of a route (R100, R162). -/
theorem routesOf_ticked (s : State) : routesOf s.ticked.records = routesOf s.records := by
  funext c
  have found := Table.find_map s.records.carriers Context.tick c
  change routeView ((Table.find (s.records.carriers.map _) c).getD _) = routeView ((Table.find s.records.carriers c).getD _)
  rw [found]
  cases Table.find s.records.carriers c with
  | none => rfl
  | some k =>
    change routeView k.tick = routeView k
    unfold Context.tick
    split <;> rfl

/-- A carrier whose silence is counted is enrolled, so its context is listed still. -/
theorem tick_ne_vacant {k : Context} (h : k ≠ Context.vacant) : k.tick ≠ Context.vacant := by
  unfold Context.tick
  split
  next counts =>
    intro vacant
    have state : k.state = .vacant := congrArg Context.state vacant
    rw [state] at counts
    cases counts
  · exact h

theorem stateForm_ticked (s : State) : StateForm s s.ticked := by
  refine ⟨fun law => ?_, fun law => (queueLaw_iff _).mpr ?_, fun law => (windowsLaw_iff _).mpr ?_⟩
  · obtain ⟨map, records⟩ := (canonical_iff s).mp law
    obtain ⟨rising, listed⟩ := records.carriers
    refine (canonical_iff _).mpr ⟨⟨map.cells, map.corridors, map.gates, map.classes, map.ready⟩, { records with
      cells := Table.wf_map _ (fun _ => CellRun.tick) records.cells
      gates := Table.wf_map _ (fun _ => GateRun.tick) records.gates
      carriers := ⟨Table.wf_map _ (fun _ => Context.tick) rising, trimmed_iff.mpr fun p mem => ?_⟩ }⟩
    obtain ⟨p, before, rfl⟩ := List.mem_map.mp mem
    exact tick_ne_vacant (trimmed_iff.mp listed p before)
  · obtain ⟨fetches, writeBacks, address, fetchers, writers⟩ := (queueLaw_iff s).mp law
    rw [routesOf_ticked]
    exact ⟨fetches, writeBacks, address, fetchers, writers⟩
  · rw [routesOf_ticked]
    exact (windowsLaw_iff s).mp law

theorem stateForm_tick (h : execTick s = .next t) : StateForm s t := by
  unfold execTick at h
  split at h
  · cases h
    exact stateForm_refl s
  · cases h
    exact stateForm_ticked s

theorem form_clearanceRun (h : RunForm q v) : RunForm q (clearanceRun e v x) :=
  form_ite (fun _ => form_ite (fun _ => form_recompute (form_setCell h))
    fun _ => form_later (form_recompute (form_setCell h))) fun _ => h

theorem form_goodFrame {l : Nat} {r : Request} (h : RunForm q v) : RunForm q (goodFrame e v l c r) :=
  form_frameArrives (form_setLink h)

theorem form_characterRun {l : Nat} {char : Byte} {framingError : Bool} (h : RunForm q v) :
    RunForm q (characterRun e v l char framingError) := by
  unfold characterRun
  dsimp only
  split
  · exact form_setLink h
  · exact form_setLink (form_setLink h)
  · exact form_frameArrives (form_setLink h)

theorem stateForm_readLink {link clear : Byte} (h : execReadLink link clear s = .next t) : StateForm s t := by
  refine stateForm_of_command h (formed_ite (fun _ => ?_) fun _ => formed_refused _)
  split
  · exact formed_done_self _
  · exact stateForm_of_kept (form_setLink (v := s.run) (formKept_refl _)) id

theorem stateForm_clearAlerts {mask : Half} (h : execClearAlerts mask s = .next t) : StateForm s t := by
  simp only [execClearAlerts] at h
  exact stateForm_of_command h (stateForm_of_kept
    (form_tables (v := s.run) (u := Run.start _) (formKept_refl _) rfl rfl fun law => { law with }) id)

/-! ## Every command and event -/

theorem stateForm_exec (i : Instr) (h : exec i s = .next t) : StateForm s t := by
  cases i with
  | mapBegin => exact stateForm_mapBegin h
  | mapCell =>
    exact stateForm_of_command h
      (formed_mapRecord fun _ law => { law with cells := Table.wf_set _ _ _ law.cells })
  | mapCorridor =>
    exact stateForm_of_command h
      (formed_mapRecord fun _ law => { law with corridors := Table.wf_set _ _ _ law.corridors })
  | mapGate =>
    exact stateForm_of_command h
      (formed_mapRecord fun _ law => { law with gates := Table.wf_set _ _ _ law.gates })
  | mapClass =>
    exact stateForm_of_command h
      (formed_mapRecord fun _ law => { law with classes := Table.wf_set _ _ _ law.classes })
  | mapEnd => exact stateForm_mapEnd h
  | activate => exact stateForm_of_command h (formed_ite (fun _ => formed_enter _ []) fun _ => formed_refused _)
  | allStop => exact stateForm_allStop h
  | resumeAll => exact stateForm_of_command h (formed_ite (fun _ => formed_enter ..) fun _ => formed_refused _)
  | restart => exact stateForm_of_command h (formed_ite (fun _ => stateForm_restart s) fun _ => formed_refused _)
  | closeCell => exact stateForm_of_command h (formed_cellEdit (formed_acts fun h => form_closeRun h))
  | openCell => exact stateForm_of_command h (formed_cellEdit (formed_acts fun h => form_openRun h))
  | setLimit =>
    exact stateForm_of_command h (formed_cellEdit (formed_ite (fun _ => formed_refused _) fun _ => formed_setLimit ..))
  | gateReset => exact stateForm_gateReset h
  | enrol =>
    refine stateForm_of_command h (formed_carrierCommand fun fields => formed_enrolPlan ?_)
    exact ((Bool.and_eq_true ..).mp fields).2
  | attach => exact stateForm_attach h
  | detach => exact stateForm_detach h
  | stop =>
    exact stateForm_of_command h
      (formed_carrierCommand fun _ => formed_ite (fun _ => formed_acts fun h => form_halt h) fun _ => formed_refused _)
  | recover =>
    exact stateForm_of_command h (formed_carrierCommand fun _ =>
      formed_ite (fun _ => formed_acts fun h => form_later (form_trim h)) fun _ => formed_refused _)
  | retire =>
    exact stateForm_of_command h (formed_carrierCommand fun _ =>
      formed_ite (fun _ => formed_refused _) fun _ => formed_acts fun h => form_retireRun h)
  | clearAlerts => exact stateForm_clearAlerts h
  | setAlertEnable =>
    simp only [exec, execSetAlertEnable] at h
    exact stateForm_of_command h (stateForm_of_kept (formKept_refl _) id)
  | readStatus =>
    simp only [exec, execReadStatus] at h
    exact stateForm_of_command h (formed_done_self _)
  | readCell => exact stateForm_of_command h (formed_query ..)
  | readCarrier => exact stateForm_of_command h (formed_query ..)
  | readCorridor => exact stateForm_of_command h (formed_query ..)
  | readGate => exact stateForm_of_command h (formed_query ..)
  | readDeadlock => exact stateForm_of_command h (formed_query ..)
  | readLink => exact stateForm_readLink h
  | readTransfer => exact stateForm_shiftBuffer h
  | unknownCommand => exact stateForm_unknownCommand h
  | estopNLevelChange => exact stateForm_estopNLevelChange h
  | hardReset =>
    cases h
    exact (stateForm_hardReset s).trans (stateForm_of_kept (formKept_refl _) id)
  | resetNRelease => exact stateForm_resetNRelease h
  | tick => exact stateForm_tick h
  | clearanceCountdownExpiry =>
    simp only [exec, execClearanceCountdownExpiry] at h
    exact stateForm_of_event h fun h => form_clearanceRun h
  | silenceLimit =>
    simp only [exec, execSilenceLimit] at h
    exact stateForm_of_event h fun h => form_silenceReached h
  | lostLimit =>
    simp only [exec, execLostLimit] at h
    exact stateForm_of_event h fun h => form_lostReached h
  | callTimerExpiry =>
    simp only [exec, execCallTimerExpiry] at h
    exact stateForm_of_event h fun h => form_ite (fun _ => form_gateFaults h) fun _ => h
  | holdOpenExpiry =>
    simp only [exec, execHoldOpenExpiry] at h
    exact stateForm_of_event h fun h => form_ite (fun _ => form_gateShut h) fun _ => h
  | readTimerExpiry => exact stateForm_of_event h fun h => form_readTimerExpires h
  | readyChange => exact stateForm_readyChange h
  | pePerstNAsserted => exact stateForm_pePerstNAsserted h
  | pePerstNReleased =>
    cases h
    exact stateForm_setPerst false
  | ask =>
    simp only [exec, execAsk] at h
    exact stateForm_of_event h fun h => form_goodFrame h
  | pass =>
    simp only [exec, execPass] at h
    exact stateForm_of_event h fun h => form_goodFrame h
  | done =>
    simp only [exec, execDone] at h
    exact stateForm_of_event h fun h => form_goodFrame h
  | frameFailure =>
    simp only [exec, execFrameFailure] at h
    exact stateForm_of_event h fun h => form_setLink (form_setLink h)
  | readCompletion =>
    simp only [exec, execReadCompletion] at h
    exact stateForm_of_event h fun h => form_completionArrives h
  | serveFetch =>
    simp only [exec, execServeFetch] at h
    exact stateForm_of_event h fun h => form_serveFetch h
  | serveWriteBack =>
    simp only [exec, execServeWriteBack] at h
    exact stateForm_of_event h fun h => form_serveWriteBack h
  | transmissionStart =>
    simp only [exec, execTransmissionStart] at h
    exact stateForm_of_event h fun h => form_setLink h
  | transmissionComplete =>
    simp only [exec, execTransmissionComplete] at h
    exact stateForm_of_event h fun h => form_setLink h
  | characterReceived =>
    simp only [exec, execCharacterReceived] at h
    exact stateForm_of_event h fun h => form_characterRun h

/-- A step takes the front of the queue, which no law reads. -/
theorem stateForm_step (h : step s = .next t) : StateForm s t := by
  unfold step at h
  split at h
  · cases h
    exact stateForm_refl s
  next i rest _ =>
    obtain ⟨canonical, queue, windows⟩ := stateForm_exec i h
    exact ⟨canonical, queue, windows⟩

end

/-- Settles O8: each piece of work and each first effect keeps the engine queue's law and the windows' law. A fetch is queued
only for a carrier with a route and none queued, a write-back only as a route ends, and a read is issued only for as many
steps as its carrier's window has free slots, so that what it brings fits. -/
theorem engineQueueKept : Obligations.EngineQueueKept :=
  ⟨fun _ _ law h => (stateForm_step h).queue law, fun _ _ law h => (stateForm_step h).windows law⟩

/-- Settles O10: every table is changed by a setting, an erasure, a filter or a rewriting in place, and where a record may
come to read as an unlisted one it is taken out. -/
theorem canonicalKept : Obligations.CanonicalKept := fun _ _ law h => (stateForm_step h).canonical law

end Sys2Proof.Proofs
end

section
/-! The events of the PCI Express port (O46): the level of PE_PERST_N, and completions that end no read. -/

namespace Sys2Proof.Proofs

open Sys2Proof.Machine Sys2Proof.Laws

section
variable {s : State} {r : ReadInFlight} {number : Byte} {status : CompletionStatus} {data : List Byte}

/-! ## PE_PERST_N (R111) -/

theorem exec_pePerstNAsserted (hs : s.inService) :
    exec .pePerstNAsserted s = finish s (perstAsserted s.setting s.run) := by
  have high : ¬s.pins.resetN = .low := by rw [show s.pins.resetN = .high from hs]; decide
  exact if_neg high

/-- Without a read in flight the assertion of PE_PERST_N is seen and nothing ends. -/
theorem perstAsserted_idle (e : Setting) (idle : s.records.engine.inFlight = none) :
    perstAsserted e s.run = (s.setPerst true).run := by
  unfold perstAsserted
  dsimp only
  split
  next flight => cases idle.symm.trans flight
  · rfl

/-- A read in flight ends at the assertion of PE_PERST_N, with the level seen (R111). -/
theorem perstAsserted_reading (e : Setting) (flight : s.records.engine.inFlight = some r)
    (perst : s.records.engine.perst = false) : perstAsserted e s.run = endRead e (s.setPerst true).run r none := by
  unfold perstAsserted
  dsimp only
  split
  next flight' =>
    cases flight.symm.trans flight'
    exact if_neg (Bool.eq_false_iff.mp perst)
  next idle => cases flight.symm.trans idle

/-- A read of a carrier that is VACANT ends, and what it brought is discarded (R114). -/
theorem endRead_vacant (vacant : (s.ctx r.carrier).state = .vacant) (e : Setting) (data : Option (List Byte)) :
    endRead e s.run r data = (readOver s).later [.fetchTrigger r.carrier] := by
  have discarded : readAccepted (readOver s) r = false := by
    change ((s.ctx r.carrier).state != .vacant && _ && _) = false
    rw [vacant]
    rfl
  change (if readAccepted (readOver s) r = true then _ else _ : Run).later _ = _
  rw [if_neg (Bool.eq_false_iff.mp discarded)]
  rfl

/-- No fetch is wanted for a VACANT carrier (R110). -/
theorem fetchTrigger_vacant {v : Run} {c : Nat} (vacant : (v.ctx c).state = .vacant) : fetchTrigger v c = v := by
  refine if_neg (Bool.eq_false_iff.mp ?_)
  rw [fetchWanted, vacant]
  rfl

/-! ## Completions (R111) -/

/-- A completion without a read in flight of its number, or in port reset, is discarded. -/
theorem completionArrives_discarded (e : Setting) (discarded : s.records.engine.inFlight = none ∨
      s.records.engine.perst = true ∨ (∃ f, s.records.engine.inFlight = some f ∧ f.number ≠ number)) :
    completionArrives e s.run number status data = s.run := by
  unfold completionArrives
  dsimp only
  split
  · rfl
  next r flight =>
    refine if_pos ?_
    rw [Bool.or_eq_true, bne_iff_ne]
    obtain idle | reset | ⟨f, flight', other⟩ := discarded
    · cases flight.symm.trans idle
    · exact .inl reset
    · cases flight.symm.trans flight'
      exact .inr other

/-- Good data that are not yet whole are kept with the read. -/
theorem completionArrives_partial (e : Setting) (flight : s.records.engine.inFlight = some r)
    (perst : s.records.engine.perst = false) (short : r.received.length + data.length < r.length) :
    completionArrives e s.run r.number .good data =
      s.run.setEngine { s.records.engine with inFlight := some { r with received := r.received ++ data } } := by
  unfold completionArrives
  dsimp only
  split
  next idle => cases flight.symm.trans idle
  next r' flight' =>
    cases flight.symm.trans flight'
    have taken : (s.run.records.engine.perst || r.number != r.number) = false := by
      rw [bne_self_eq_false, Bool.or_false]
      exact perst
    have unfinished : ¬r.length ≤ (r.received ++ data).length := by
      rw [List.length_append]
      omega
    rw [if_neg (Bool.eq_false_iff.mp taken), if_neg unfinished]
    rfl

end

/-- Settles O46: the level is all that PE_PERST_N changes, a read that no carrier awaits leaves a fetch trigger that wants
nothing, and a completion is discarded or kept with the read before any work is left. -/
theorem portEventsAct : Obligations.PortEventsAct := by
  unfold Obligations.PortEventsAct
  refine ⟨fun s hs => ⟨fun idle => ?_, fun r flight perst vacant => ?_, rfl⟩, fun number status data s hs => ⟨fun discarded => ?_,
    fun f flight perst same short => ?_⟩⟩
  · rw [exec_pePerstNAsserted hs, perstAsserted_idle _ idle]
    exact finish_rest rfl
  · have vacant' : ((readOver (s.setPerst true)).ctx r.carrier).state = .vacant := vacant
    have triggers := fetchTrigger_reaches (e := s.setting) (v := readOver (s.setPerst true)) (c := r.carrier) ⟨rfl, rfl, rfl⟩ []
    rw [fetchTrigger_vacant vacant'] at triggers
    rw [exec_pePerstNAsserted hs, perstAsserted_reading _ flight perst, endRead_vacant (s := s.setPerst true) vacant]
    exact finish_of_settled (triggers.settled rfl (by decide))
  · refine runEvent_of_settled (f := fun e v => completionArrives e v number status data) hs ?_
    rw [completionArrives_discarded _ discarded]
    exact settled_rest rfl
  · subst same
    refine runEvent_of_settled (f := fun e v => completionArrives e v f.number .good data) hs ?_
    rw [completionArrives_partial _ flight perst short]
    exact settled_rest rfl

end Sys2Proof.Proofs
end

section
/-! Serving the engine queue (O49): the reads and the write-backs that the engine issues. -/

namespace Sys2Proof.Proofs

open Sys2Proof.Machine Sys2Proof.Laws

/-! ## The result word (R106, R165) -/

/-- The four bytes of a word, low byte first, stand for the word. -/
theorem littleEndian_wordBytes (w : BitVec 32) : littleEndian (wordBytes w) = w.toNat := by
  have small := w.isLt
  simp only [wordBytes, littleEndian, BitVec.extractLsb'_toNat, Nat.shiftRight_eq_div_pow]
  omega

/-- The fields of the result word in their places. -/
theorem toNat_resultWord (result : RouteResult) {step used : Nat} (generation : Byte) (hstep : step ≤ 1022)
    (hused : used ≤ 255) : (resultWord result step used generation).toNat =
      generation.toNat + 2 ^ 8 * used + 2 ^ 16 * step + 2 ^ 26 * result.code.toNat + 2 ^ 31 := by
  have byte := generation.isLt
  have code := result.code.isLt
  have append {n m : Nat} (x : BitVec n) (y : BitVec m) : (x ++ y).toNat = x.toNat * 2 ^ m + y.toNat := by
    rw [BitVec.toNat_append, ← Nat.shiftLeft_add_eq_or_of_lt y.isLt, Nat.shiftLeft_eq]
  simp only [resultWord, append, BitVec.toNat_ofNat]
  omega

/-! ## The head of the queue (R111) -/

section
variable {s : State} {c : Nat} {rest : List EngineRequest} {a : Address}

theorem free_of_idle {g : Engine} (idle : g.inFlight = none) (perst : g.perst = false) : g.free = true := by
  rw [Engine.free, idle, perst]
  rfl

/-- A fetch at the head of a free engine's queue leaves it and issues a read (R111 to R113). -/
theorem serveFetch_head {first : Bool} (queue : s.records.engine.queue = .fetch c first :: rest)
    (free : s.records.engine.free = true) (routed : (s.ctx c).routeAddr = some a) : serveFetch s.run =
      let v := s.run.setEngine { s.records.engine with queue := rest }
      if first then issueRead v c true a (16 + 8 * firstReadSize (s.ctx c) a)
      else issueRead v c false (stepAddress a (s.ctx c).nextStep) (8 * stepReadSize (s.ctx c) a) := by
  have queue' : s.run.records.engine.queue = .fetch c first :: rest := queue
  have free' : s.run.records.engine.free = true := free
  have routed' : (s.run.ctx c).routeAddr = some a := routed
  simp only [serveFetch, queue', free', if_true, Run.ctx_setEngine, routed', Option.getD_some]
  rfl

/-- A write-back at the head of a free engine's queue leaves it and is written (R111, R165). -/
theorem serveWriteBack_head {result : RouteResult} {step used : Nat} {generation : Byte}
    (queue : s.records.engine.queue = .writeBack c a result step used generation :: rest)
    (free : s.records.engine.free = true) : serveWriteBack s.run = s.run.setEngine { s.records.engine with
      queue := rest, lastIssued := some (.write (a + 8) (wordBytes (resultWord result step used generation))) } := by
  have queue' : s.run.records.engine.queue = .writeBack c a result step used generation :: rest := queue
  have free' : s.run.records.engine.free = true := free
  simp only [serveWriteBack, queue', free', if_true]
  rfl

end

/-- Settles O49: what is served leaves no work, and the word written stands for its fields. -/
theorem queueIsServed : Obligations.QueueIsServed := by
  unfold Obligations.QueueIsServed
  refine ⟨fun c first rest a s hs queue idle perst routed => ?_,
    fun c a result step used generation rest s hs queue idle perst hstep hused => ?_⟩
  · have served := serveFetch_head queue (free_of_idle idle perst) routed
    have exec : exec .serveFetch s = .next { s with records := (serveFetch s.run).records } := by
      refine runEvent_of_settled (f := fun _ v => serveFetch v) hs (settled_rest ?_)
      rw [served]
      cases first <;> rfl
    rw [exec, served]
    cases first with
    | true => rfl
    | false =>
      simp only [Bool.false_eq_true, if_false, Nat.zero_add]
      rfl
  · have served := serveWriteBack_head queue (free_of_idle idle perst)
    have exec : exec .serveWriteBack s = .next { s with records := (serveWriteBack s.run).records } := by
      refine runEvent_of_settled (f := fun _ v => serveWriteBack v) hs (settled_rest ?_)
      rw [served]
      rfl
    refine ⟨_, _, exec, by rw [served]; rfl, rfl, by rw [served]; rfl, rfl, ?_⟩
    rw [littleEndian_wordBytes, toNat_resultWord result generation hstep hused]

end Sys2Proof.Proofs
end

section
/-! A read that fails before step 0 of its carrier's route has been read (O47): the route of the ATTACHED carrier ends. -/

namespace Sys2Proof.Proofs

open Sys2Proof.Machine Sys2Proof.Laws

section
variable {s : State} {e : Setting} {v : Run} {c : Nat} {f : ReadInFlight} {a : Address} {result : RouteResult}
  {flag : AlertFlag} {data : Option (List Byte)}

/-! ## The end of the route (R84, R85) -/

/-- Resting entries are kept at every end of a route but a completed one (R85). -/
theorem keptAtEnd_of_resting {k : Context} {h : Held} (resting : h.step = none) (fails : result ≠ .complete) :
    keptAtEnd k result h = true := by
  have inside : (!h.outside k.rear k.front) = true := by rw [Held.outside, resting]; rfl
  cases result with
  | complete => exact absurd rfl fails
  | _ => exact inside

/-- The carrier table's action on a read that fails before the route of an ATTACHED carrier has started (R84). -/
theorem actOnRead_failedStart (attached : (v.ctx c).state = .attached) (resting : ∀ h ∈ (v.ctx c).held, h.step = none)
    (fails : result ≠ .complete) : actOnRead e v c (.failedStart result) = v.later [.routeEndRest c result] := by
  simp only [actOnRead, attached]
  exact routeEndKeeping_all (fun h held => keptAtEnd_of_resting (resting h held) fails) result

/-- What the records `r` hold after a failed read has ended the route of carrier `c` of the part `s`: the carrier IDLE on
its resting entries, its write-back queued with step index 0, the read over, and the alerts raised. -/
structure RouteFailed (s : State) (r : Records) (c : Nat) (a : Address) (result : RouteResult) (flag : AlertFlag) : Prop where
  own : (Run.start r).ctx c = restedContext (s.ctx c) result
  others : ∀ d, d ≠ c → (Run.start r).ctx d = s.ctx d
  engine : r.engine = { s.records.engine with
    inFlight := none, timer := none, due := false
    queue := queueAfterEnd s.records.engine.queue c a result 0 (s.ctx c).used (s.ctx c).generation }
  alerts : r.alerts = s.records.alerts ||| flag.mask ||| AlertFlag.routeEnd.mask
  track : Records.sameTrack s.records r
  links : r.links = s.records.links

/-- The end of a route leaves the track as it is (R85). -/
theorem routeEndedRun_track (v : Run) (c : Nat) (result : RouteResult) :
    Records.sameTrack v.records (routeEndedRun v c result).records :=
  ⟨rfl, rfl, rfl, rfl, rfl, rfl, rfl⟩

theorem routeEndedRun_links (v : Run) (c : Nat) (result : RouteResult) :
    (routeEndedRun v c result).records.links = v.records.links := rfl

theorem routeEndedRun_alerts (v : Run) (c : Nat) (result : RouteResult) :
    (routeEndedRun v c result).records.alerts = v.records.alerts ||| AlertFlag.routeEnd.mask := rfl

/-- The end of the route of an ATTACHED carrier that waits for nothing leaves the fetch trigger after it nothing to want. -/
theorem routeEndRest_thenFetch (calm : Calm v) (attached : (v.ctx c).state = .attached) (unwaiting : (v.ctx c).wait = none)
    (result : RouteResult) : ∃ u, settled e (v.later [.routeEndRest c result, .fetchTrigger c]) = some u.records ∧
      Quiet (routeEndedRun v c result) u := by
  have still : (v.ctx c).state ≠ .running := by rw [attached]; decide
  obtain ⟨n, u, hn, quiet, ends⟩ := routeEndRest_reaches (e := e) (c := c) calm (by rw [attached]; decide) unwaiting
    (fun running => absurd running still) result [.fetchTrigger c]
  have calm' : Calm u := Calm.of_quiet (v := routeEndedRun v c result) ⟨calm.work, calm.deferring, calm.deferred⟩ quiet
  have idle : (u.ctx c).state = .idle := by rw [quiet.ctx, routeEndedRun_ctx_self]; rfl
  have triggers := fetchTrigger_reaches (e := e) (c := c) calm' []
  rw [fetchTrigger_resting (.inr (.inr idle))] at triggers
  exact ⟨u, (ends.trans triggers).settled calm'.work (by omega), quiet⟩

/-- The end of the route of an ATTACHED carrier that waits for nothing, with an alert raised before it. -/
theorem routeFailed_of_end (attached : (s.ctx c).state = .attached) (routed : (s.ctx c).routeAddr = some a)
    (unwaiting : (s.ctx c).wait = none) (resting : ∀ h ∈ (s.ctx c).held, h.step = none) :
    ∃ r, settled e (((readOver s).raise flag).later [.routeEndRest c result, .fetchTrigger c]) = some r ∧
      RouteFailed s r c a result flag := by
  obtain ⟨u, rest, quiet⟩ := routeEndRest_thenFetch (e := e) (v := (readOver s).raise flag) ⟨rfl, rfl, rfl⟩ attached unwaiting
    result
  have still : (s.ctx c).state ≠ .running := by rw [attached]; decide
  have context (d : Nat) : ((readOver s).raise flag).ctx d = s.ctx d := rfl
  have engine : u.records.engine = routeEndedEngine ((readOver s).raise flag) c result := engine_of_quiet quiet
  have failed : Records.sameTrack s.records ((readOver s).raise flag).records := ⟨rfl, rfl, rfl, rfl, rfl, rfl, rfl⟩
  have ended := routeEndedRun_track ((readOver s).raise flag) c result
  refine ⟨u.records, rest, ?_, fun d other => ?_, ?_, ?_,
    sameTrack_trans (sameTrack_trans failed ended) (sameTrack_of_quiet quiet), ?_⟩
  · change u.ctx c = _
    rw [quiet.ctx, routeEndedRun_ctx_self, context, routeEndedContext_of_not_running still, endRoute_resting resting]
  · change u.ctx d = _
    rw [quiet.ctx, routeEndedRun_ctx_other _ other, context]
  · rw [engine, routeEndedEngine_of_routed (v := (readOver s).raise flag) routed, context, Context.stepReached, if_pos attached]
    rfl
  · rw [alerts_of_quiet quiet, routeEndedRun_alerts]
    rfl
  · rw [links_of_quiet quiet, routeEndedRun_links]
    rfl

/-- A read of an ATTACHED carrier that fails, with an alert, before its route has started. -/
theorem routeFailed_of_read (attached : (s.ctx f.carrier).state = .attached) (routed : (s.ctx f.carrier).routeAddr = some a)
    (unwaiting : (s.ctx f.carrier).wait = none) (resting : ∀ h ∈ (s.ctx f.carrier).held, h.step = none)
    (fails : result ≠ .complete)
    (acts : endRead s.setting s.run f data =
      (actOnRead s.setting ((readOver s).raise flag) f.carrier (.failedStart result)).later [.fetchTrigger f.carrier]) :
    ∃ r, settled s.setting (endRead s.setting s.run f data) = some r ∧ RouteFailed s r f.carrier a result flag := by
  rw [acts, actOnRead_failedStart (v := (readOver s).raise flag) attached resting fails, later_later]
  exact routeFailed_of_end attached routed unwaiting resting

/-- A bus fault before step 0 has been read (R118). -/
theorem busFault_first (start : (v.ctx c).nextStep = 0) :
    busFault e v c = actOnRead e (v.raise .bus) c (.failedStart .bus) := if_pos start

/-- A first read whose header is not valid (R105). -/
theorem useData_badHeader {page : List Byte} (invalid : headerValid page = false) :
    useData e v c true page = actOnRead e (v.raise .routeFault) c (.failedStart .header) :=
  (if_pos rfl).trans (if_neg (Bool.eq_false_iff.mp invalid))

end

/-- Settles O47: each failing event ends the read, PE_PERST_N with its level seen, and what is left of the event is the end
of the route and a fetch trigger that wants nothing. -/
theorem failedReadEndsRoute : Obligations.FailedReadEndsRoute := by
  unfold Obligations.FailedReadEndsRoute
  refine ⟨fun i f a s hs flight perst fails attached generation routed start unwaiting resting => ?_,
    fun f data a s hs flight perst first whole invalid attached generation routed unwaiting resting => ?_⟩
  · have leaves (o : State) (same : ∀ d, o.ctx d = s.ctx d) := routeFailed_of_read (s := o) (f := f) (a := a) (data := none)
      (result := .bus) (flag := .bus) (by rw [same]; exact attached) (by rw [same]; exact routed)
      (by rw [same]; exact unwaiting) (by rw [same]; exact resting) (by decide)
      (by
        rw [endRead_accepted (by rw [same]; exact generation) (by rw [same, routed]; rfl) (by rw [same, attached]; decide)]
        exact congrArg (Run.later · [.fetchTrigger f.carrier])
          (busFault_first ((congrArg Context.nextStep (same f.carrier)).trans start)))
    rcases fails with ⟨rfl, due⟩ | rfl | ⟨data, completes⟩
    · obtain ⟨r, rest, own, others, engine, alerts, track, links⟩ := leaves s fun _ => rfl
      exact ⟨_, readFails_of_settled hs flight perst (.inl ⟨rfl, due⟩) rest, own, others, by rw [engine], by rw [engine],
        by rw [engine], alerts, track, links, rfl⟩
    · obtain ⟨r, rest, own, others, engine, alerts, track, links⟩ := leaves (s.setPerst true) fun _ => rfl
      refine ⟨{ s with records := r }, ?_, own, others, by rw [engine]; rfl, by rw [engine],
        by rw [engine], alerts, track, links, rfl⟩
      rw [exec_pePerstNAsserted hs, perstAsserted_reading _ flight perst]
      exact finish_of_settled rest
    · obtain ⟨r, rest, own, others, engine, alerts, track, links⟩ := leaves s fun _ => rfl
      exact ⟨_, readFails_of_settled hs flight perst (.inr ⟨data, completes⟩) rest, own, others, by rw [engine], by rw [engine],
        by rw [engine], alerts, track, links, rfl⟩
  · have bad : headerValid ((f.received ++ data).take f.length) = false := by
      rw [← Bool.not_eq_true, headerValid_iff]
      exact invalid
    obtain ⟨r, rest, own, others, engine, alerts, track, -⟩ := routeFailed_of_read (f := f)
      (data := some ((f.received ++ data).take f.length)) (result := .header) (flag := .routeFault) attached routed
      unwaiting resting (by decide) (by
        rw [endRead_accepted generation (by rw [routed]; rfl) (by rw [attached]; decide), first]
        exact congrArg (Run.later · [.fetchTrigger f.carrier]) (useData_badHeader bad))
    exact ⟨_, readCompletion_of_settled hs flight perst whole rest, own, others, by rw [engine],
      by rw [engine], alerts, track, rfl⟩

end Sys2Proof.Proofs
end
